-- ==== Sys2Proof/Word.lean ====
section
/-! DEFINITION. The word types of the block and the named sets that several chapters share: register
readers, clock domains, register classes and severities. -/

namespace Sys2Proof

/-- A 32-bit register word (R86: every register is a 32-bit word). -/
abbrev Word := BitVec 32

/-- A byte. -/
abbrev Byte := BitVec 8

/-- A register reader (R13, R100): one of the four hosts or the management port. -/
inductive Reader where
  | host (h : Fin 4)
  | mgmt
  deriving DecidableEq, Repr

/-- The delivering domains of events, in the fixed order in which R39 stamps events that arrive in one
CORE cycle. PRX events count as REFL, HBL events as AFE. -/
inductive Source where
  | sfa | sfb | afe | scan | mem | core | refl | mgmt | aon
  deriving DecidableEq, Repr

/-- The five slow domains of the register interface (R96). -/
inductive Slow where
  | scan | mem | afe | hbl | sfa
  deriving DecidableEq, Repr

/-- The clocks derived from XI through separate PLLs (R70). -/
inductive Pll where
  | core | mem | scan | sfa
  deriving DecidableEq, Repr

/-- Register classes (R13). -/
inductive RegClass where
  | f | p | c | t | m | w1
  deriving DecidableEq, Repr

/-- The internal regulators that are monitored (R63). -/
inductive Regulator where
  | vcore | vmem | vaux | vsafb
  deriving DecidableEq, Repr

/-- A safety core (R17): SG[A] or SG[B]. -/
inductive SafCore where
  | a | b
  deriving DecidableEq, Repr

/-- The statuses of a register completion (R145). -/
inductive AccStatus where
  | ok | unmapped | align | width | denied | locked | ur | unavail
  deriving DecidableEq, Repr

end Sys2Proof
end

