-- ==== Sys2Proof/Syntax.lean ====
section
/-! DEFINITION. The commands that the block takes: an inductive with one constructor per row of the table,
and the types of their operands. A quantity that the block measures or receives (a sample, a received frame,
an instant) is an operand of the command that delivers it. -/

namespace Sys2Proof

/-- A 66-bit block on a lane (R117): its two header bits in transmission order, and its 64 payload bits, of which bit 0
travels first. -/
structure Block where
  h0 : Bool
  h1 : Bool
  payload : BitVec 64
  deriving DecidableEq, Repr

/-- The blocks that arrive on the two lanes of a port in one block period, none where a lane delivers none. -/
structure RxSlot where
  l0 : Option Block
  l1 : Option Block
  deriving DecidableEq, Repr

/-- Blocks that arrive on a port. -/
structure RxOn where
  port : Fin 4
  rx : List RxSlot
  deriving DecidableEq, Repr

/-- Lanes of a port that have sent no data blocks for 10 ms (R131). -/
structure IdleLanes where
  port : Fin 4
  lanes : List (Fin 2)
  deriving DecidableEq, Repr

/-- The sync headers that a lane has received, oldest first (R125). -/
structure LaneHeaders where
  lane : Fin 2
  headers : List (Bool × Bool)
  deriving DecidableEq, Repr

/-- The bits that a lane has received, oldest first (R136). -/
structure LaneBits where
  lane : Fin 2
  bits : List Bool
  deriving DecidableEq, Repr

/-- A rising edge of GLK_IN: the interval since the one before in SCAN cycles, and the length of its high pulse (R293). -/
structure GlkEdge where
  cycles : Nat
  ns : Nat
  deriving DecidableEq, Repr

/-- A Hatband frame as received, its CRC and length good (R408, R409). -/
structure HbFrame where
  typ : Nat
  alive : Nat
  bcast : Bool
  dst : Nat
  dir : Bool
  src : Nat
  payload : List Nat
  deriving DecidableEq, Repr

/-- What stands on a Hatband port after a start delimiter: the port, true for HB_UP, and the bytes (R408). -/
structure HbRaw where
  up : Bool
  bytes : List Nat
  deriving DecidableEq, Repr

/-- What CQ of one chain shows in training (R323): the bits at phase 8 from where the pattern would reappear without latency,
and the bits of the 256 words at each of the phases 0 to 15. -/
structure TrainIn where
  seen : List Bool
  tries : List (List Bool)
  deriving DecidableEq, Repr

/-- What one safety core samples at a tick (R435, R436): levels of SX1_A, SX1_B, SX2_A, SX2_B in bits 0 to 3,
of SF1 and SF2 in bits 0 and 1, readback of SQ1_A, SQ1_B, SQ2_A, SQ2_B in bits 0 to 3, whether its own
protection line has toggled since the last tick, and the alive count of the other core's message, none where no
valid message arrived. -/
structure SafSamples where
  inputs : Nat
  feedback : Nat
  readback : Nat
  line : Bool
  message : Option (Fin 16)
  deriving DecidableEq, Repr

/-- A lamp sensor's sample (R457): its ratio in units of 1/100,000 and the error of its conversion, in 1/16 °C
(R456). -/
structure LampSample where
  ratio : Nat
  dev : Int
  deriving DecidableEq, Repr

/-- A DRAM row: channel, bank, row. -/
structure RowAt where
  channel : Nat
  bank : Nat
  row : Nat
  deriving DecidableEq, Repr

/-- What a DRAM word held (R228): the surface and the byte offset in it, the run of a Vitrine surface and the
pixel, a table and the 32-bit word index in its active bank, or the emitters whose values it held. -/
inductive DramUse where
  | surface (ctx handle offset : Nat)
  | vitrine (layers : List Nat) (pixel : Nat)
  | composed
  | table (t word : Nat)
  | gains (emitters : List Nat)
  | ledger (emitters : List Nat)
  | faultMap (emitters : List Nat)
  | other
  deriving DecidableEq, Repr

/-- What the block finds at a frame boundary that is not a register: the engines whose bands are unfinished,
and how many SCAN cycles after the genlock target the boundary lies, where GLK_IN gives one. -/
structure BoundaryIn where
  late : List Nat
  phase : Option Int
  deriving DecidableEq, Repr


/-- The commands of the block: one constructor per row of the table, in the table's order. -/
inductive Instr where
    /-- `POWER_ON_RESET` (R75): VIN rises through 4.65 V after AON has stopped and resets the whole logic
  side, discarding DRAM content. -/
  | powerOnReset
    /-- `POWER_FAIL_SAVE` (R68): VIN falling through 4.60 V starts the save of the AON counters into the
  archive slot not written last. -/
  | powerFailSave (completes : Bool)
    /-- `SUPPLY_RESET` (R62): VIN below 4.40 V or VIOM below 2.90 V resets the logic side and holds it until
  the rail recovers. -/
  | supplyReset
    /-- `AON_STOP` (R62): VIN below 3.00 V stops AON, so the next rise counts as a power cycle. -/
  | aonStop
    /-- `REGULATOR_FAULT_RESET` (R64): A monitored internal regulator leaves its window and causes a
  regulator-fault reset of the logic side. -/
  | regulatorFaultReset (r : Regulator)
    /-- `REGULATOR_FAULT_RELEASE` (R64): Every monitored regulator has been back in its window for 1 ms and
  the regulator-fault reset ends. -/
  | regulatorFaultRelease
    /-- `XI_LOSS` (R71): No XI edge for 1 µs flags XI as lost; SG[B] drives the safe state and an XI-loss
  reset follows. -/
  | xiLoss
    /-- `XI_LOSS_RELEASE` (R71): XI has run within ±1 % for 10 ms and the XI-loss reset ends. -/
  | xiLossRelease
    /-- `PIN_RESET` (R76): A low pulse on RST_N of 1 µs or more resets the logic side. -/
  | pinReset (ns : Nat) (acts : Bool)
    /-- `RESET_RELEASE` (R79): Once VIN, VIOM, the regulators and XI are stable, the logic-side internal reset
  is released. -/
  | resetRelease (samples : List Bool) (viocMv : Nat) (eccBad : List Nat)
    /-- `LEGACY_RESAMPLE` (R82): After disagreeing samples, sampling repeats every 1 ms and after 16 windows
  the device starts native with LEGACY_UNSTABLE. -/
  | legacyResample (samples : List Bool) (viocMv : Nat) (eccBad : List Nat)
    /-- `PLL_LOCK` (R70): A PLL derived from XI locks and releases its domain from reset. -/
  | pllLock (d : Pll)
    /-- `DOCENT_START` (R79): The Docent begins executing the active firmware image after reset release. -/
  | docentStart
    /-- `SOFT_RESET` (R80): A keyed management-port write of GLB_RST_CTL.SOFT resets the logic side except
  SFA, SFB, MGMT and the SAF window. -/
  | softReset (data : Word)
    /-- `STANDBY_ENTER` (R81): A keyed write of GLB_RST_CTL.STBY stops CORE, MEM, SCAN, REFL and PRX with DRAM
  in self-refresh. -/
  | standbyEnter (data : Word)
    /-- `STANDBY_EXIT` (R81): A management WRITE or QREAD frame, or an RST_N pulse, ends stand-by; the frame
  itself is dropped. -/
  | standbyExit (byPin : Bool)
    /-- `AON_SLOT_WRITE` (R67): Every 60 s of operating time AON writes the alternate counter slot. -/
  | aonSlotWrite
    /-- `VIOC_FAULT` (R62): VIOC leaves its latched class window for 10 µs; the power-on hold drives every
  VIOC-bank output low. -/
  | viocFault
    /-- `VIOC_RESUME` (R333): At the first frame boundary after VIOC has been back in window for 1 ms,
  operation resumes with two dark frames and a driver reload. -/
  | viocResume
    /-- `VDDA_FAULT` (R62): VDDA_L leaves 1.14 V to 1.26 V for 10 µs; every port goes down with lanes in
  electrical idle. -/
  | vddaFault
    /-- `VDDA_RESTORE` (R62): 1 ms after VDDA_L returns, port bring-up restarts. -/
  | vddaRestore
    /-- `REFCLK_WINDOW` (R72): Each 100 µs window measures REFCLK against XI and counts windows in or out of
  range. -/
  | refclkWindow (ppm : Option Int)
    /-- `SCAN_PLL_UNLOCK` (R74): The SCAN PLL loses lock; ROWEN, GCK, DCK and LAT are held low and any upload
  is abandoned. -/
  | scanPllUnlock
    /-- `SCAN_PLL_RELOCK` (R74): The SCAN PLL relocks; the following frame boundary starts a dark frame before
  normal display resumes. -/
  | scanPllRelock
    /-- `CELL_SIDE_START` (R65): VSTK rising through 8.0 V starts the cell side, VREGC and the AFE oscillator.
  -/
  | cellSideStart
    /-- `CELL_SIDE_STOP` (R65): VSTK falling through 7.5 V stops the cell side and its protection lines. -/
  | cellSideStop
    /-- `HA_STRAP_SAMPLE` (R84): 1 ms after VREGC is valid the cell side samples HA0–HA4 four times and
  latches the address when they agree, else retries every 1 ms. -/
  | haStrapSample (samples : List Nat)
    /-- `HA_STRAP_CHECK` (R84): Every 1 s the straps are compared with the latched address, raising
  HBD_ADDR_CHANGED on a difference. -/
  | haStrapCheck (strap : Nat)
    /-- `DOCENT_LOCKSTEP` (R20): A DC[0]/DC[1] output mismatch raises DOCENT_LOCKSTEP and resets both Docent
  cores. -/
  | docentLockstep
    /-- `DOCENT_RESTART_DONE` (R20): The Docent is back in service from the active image and resumes
  housekeeping, head duties and Registrar writes. -/
  | docentRestartDone
    /-- `SFB_CLOCK_CHECK` (R22): Every 10 ms SG[A] measures the SFB clock against XI and drives the safe state
  if it lies outside 86.4 to 105.6 MHz. -/
  | sfbClockCheck (khz : Nat)
    /-- `EVENT_STAMP` (R39): The arbiter accepts an event and stamps it with the next sequence number, frame
  counter and operating seconds. -/
  | eventStamp (arrived : List Source)
    /-- `AFE_LINK_LOST` (R38): No valid barrier frame for 10 ms raises AFE_LINK_LOST and marks cell results
  unavailable on the logic side. -/
  | afeLinkLost
    /-- `AFE_LINK_RESTORED` (R564): The barrier data channel carries valid frames again and AFE and HBL take
  register writes and deliver results. -/
  | afeLinkRestored
    /-- `LOGIC_LOST` (R38): The cell side sees no valid barrier frame for 10 ms and sets LOGIC_LOST in its
  Hatband responses. -/
  | logicLost
    /-- `MGMT_READ` (R90): A management-port READ frame returns words from MGMT-domain storage, bursting while
  MCS_N stays low. -/
  | mgmtRead (addr : Nat) (count : Nat) (cut : Bool)
    /-- `MGMT_WRITE` (R88): A management-port WRITE frame writes each word at the edge that samples its last
  nibble, bursting while MCS_N stays low. With each word stand the slow domains whose oldest write lands
  before the word is taken (R97). -/
  | mgmtWrite (addr : Nat) (words : List (Word × List Slow)) (cut : Bool)
    /-- `MGMT_BAD_OPCODE` (R87): A management frame with an unknown opcode is ignored and sets
  RAC_STATUS.BADOP. -/
  | mgmtBadOpcode (opcode : Nat)
    /-- `QREAD` (R92): A QREAD frame starts a queued read of any register through the MGMT-to-CORE crossing.
  -/
  | qread (addr : Nat)
    /-- `QREAD_DONE` (R92): The queued read completes, places its result in RAC_QDATA and sets QRDY. -/
  | qreadDone
    /-- `SLOW_WRITE_LAND` (R97): A posted write lands in its slow domain, the mirror updates and the busy flag
  clears or the link write completes. -/
  | slowWriteLand (d : Slow)
    /-- `REGISTER_WRITE` (R95): A write to a register without behaviour of its own is checked in order and
  stores its value. -/
  | registerWrite (r : Reader) (addr : Nat) (data : Word)
    /-- `CLEAR_ON_READ` (R100): A read of a class C register returns the reader's copy and clears in it
  exactly the bits returned as 1. -/
  | clearOnRead (r : Reader) (addr : Nat)
    /-- `LEGACY_WRITE_ONE_CLEAR` (R111): In legacy mode a 32-bit write of 1 to a C-class bit clears that bit
  in the writer's own copy. -/
  | legacyWriteOneClear (r : Reader) (addr : Nat) (data : Word)
    /-- `COUNTER_LOW_READ` (R105): A read of the lower word of a 64-bit counter latches the upper word for
  that reader. -/
  | counterLowRead (r : Reader) (addr : Nat)
    /-- `RAC_LOCK_WRITE` (R108): A management write of RAC_LOCK locks the selected windows against every
  outside writer until reset. -/
  | racLockWrite (data : Word)
    /-- `RAC_OWNER_WRITE` (R94): A management write of RAC_OWNER names the owner host for accesses entering
  CORE afterwards. -/
  | racOwnerWrite (data : Word)
    /-- `PORT_ENABLE` (R124): YZL_PORT_CTL.EN set with lanes allowed moves a port from DISABLED to TRAIN,
  sending the training pattern. -/
  | portEnable (p : Fin 4)
    /-- `PORT_DISABLE` (R127): EN written 0 takes the port down to DISABLED with lanes in electrical idle. -/
  | portDisable (p : Fin 4)
    /-- `BLOCK_LOCK` (R125): A receive lane receives 64 consecutive valid sync headers and reaches block lock.
  -/
  | blockLock (p : Fin 4) (x : LaneHeaders)
    /-- `BLOCK_LOCK_LOST` (R125): 16 invalid headers within 64 blocks lose block lock and fail an active lane.
  -/
  | blockLockLost (p : Fin 4) (rx : List RxSlot)
    /-- `LANE_FOREGROUND_CAL_DONE` (R499): The foreground sampler calibration of a lane ends, passing or
  failing, and CTLE adaptation may begin. -/
  | laneForegroundCalDone (p : Fin 4) (l : Fin 2) (trims : List (Option Int))
    /-- `ADAPTATION_DONE` (R125): CTLE and DFE adaptation of a receive lane have converged. -/
  | adaptationDone (p : Fin 4) (l : Fin 2) (ctle : Nat) (taps : List Int)
    /-- `AM_RECEIVE` (R121): A received alignment marker corrects polarity and lane order, advances AM lock
  and deskew, and checks BIP8. `am` are the periods from the marker on. -/
  | amReceive (p : Fin 4) (rx : List RxSlot) (am : List RxSlot := [])
    /-- `AM_TRANSMIT` (R120): Every 16,384 blocks each lane transmits an alignment marker carrying count and
  BIP8. -/
  | amTransmit (p : Fin 4)
    /-- `TXEQ_WRITE` (R116): A write to YZL_TXEQ0 or YZL_TXEQ1 is validated and either staged or rejected with
  TXEQ_REJECTED. -/
  | txeqWrite (p : Fin 4) (l : Fin 2) (data : Word)
    /-- `TRAIN_TO_EXCHANGE` (R124): 18 ms in TRAIN with at least one lane ready moves the port to EXCHANGE. -/
  | trainToExchange (p : Fin 4)
    /-- `BRINGUP_TIMEOUT` (R124): 20 ms in TRAIN and EXCHANGE without UP raises BRINGUP_TIMEOUT and sends the
  port to IDLE_WAIT. -/
  | bringupTimeout (p : Fin 4)
    /-- `IDLE_WAIT_END` (R124): After 1 ms of electrical idle the port returns to TRAIN. -/
  | idleWaitEnd (p : Fin 4)
    /-- `PORT_UP_SEND` (R126): In EXCHANGE the port sends PORT_UP every 256 blocks with its ready mask,
  version and rate. -/
  | portUpSend (p : Fin 4)
    /-- `PORT_UP` (R126): A received PORT_UP message counts toward three identical ones, then the port
  computes the lane set and sends PORT_UP_ACK. `msg` are the periods from the message on, `copy` those from its copy on. -/
  | portUp (p : Fin 4) (rx : List RxSlot) (msg copy : List RxSlot := [])
    /-- `PORT_UP_ACK` (R126): A received matching PORT_UP_ACK brings the port UP and raises PORT_UP, or a
  mismatch returns to step 1. `msg` are the periods from the message on. -/
  | portUpAck (p : Fin 4) (rx : List RxSlot) (msg : List RxSlot := [])
    /-- `LANE_DROP` (R132): A received LANE_DROP stops use of the named lane in both directions from the next
  block. -/
  | laneDrop (p : Fin 4) (rx : List RxSlot)
    /-- `LANE_RESTORE` (R133): LANE_RESTORE exchanged in both directions resumes two-lane striping after the
  next AM. -/
  | laneRestore (p : Fin 4) (rx : List RxSlot)
    /-- `RETRAIN_REQ` (R134): A received RETRAIN_REQ starts a full retrain of the lane or training bursts on a
  one-lane port. -/
  | retrainReq (p : Fin 4) (rx : List RxSlot)
    /-- `RETRAIN_DONE` (R134): A received RETRAIN_DONE lets the retrained lane rejoin striping. -/
  | retrainDone (p : Fin 4) (rx : List RxSlot)
    /-- `REFRESH` (R131): A received REFRESH announces a burst of training data blocks on the named lane. -/
  | refresh (p : Fin 4) (rx : List RxSlot)
    /-- `LANE_SIGNAL_LOSS` (R132): Signal lost for 10 µs fails an active lane. -/
  | laneSignalLoss (p : Fin 4) (l : Fin 2)
    /-- `ADAPT_FREEZE` (R131): 1 ms without data blocks freezes the lane's CTLE and DFE. -/
  | adaptFreeze (p : Fin 4) (l : Fin 2)
    /-- `REFRESH_BURST` (R131): After 10 ms of only IDLE, AM and LINK_MSG, the transmitter sends REFRESH and 1
  µs of training data. -/
  | refreshBurst (x : IdleLanes)
    /-- `LANE_RESTORE_ATTEMPT` (R133): Every RESTORE_INT a degraded port trains its missing lane for restore.
  -/
  | laneRestoreAttempt (p : Fin 4)
    /-- `LANE_RESTORE_ABANDON` (R133): A restore not complete within 20 ms is abandoned until the next
  interval. -/
  | laneRestoreAbandon (p : Fin 4)
    /-- `EYE_SCAN` (R134): A periodic eye scan records margins and, after two low scans, requests a retrain.
  -/
  | eyeScan (p : Fin 4) (l : Fin 2) (h : Nat) (v : Nat)
    /-- `RETRAIN_COMPLETE` (R134): A two-lane retrain finishes and the lane rejoins after RETRAIN_DONE. -/
  | retrainComplete (p : Fin 4) (l : Fin 2)
    /-- `RETRAIN_BURST_END` (R134): The 40 ms of one-lane retrain bursts ends, raising LANE_MARGIN_LOW if
  margins stay low. -/
  | retrainBurstEnd (p : Fin 4) (h : Nat) (v : Nat)
    /-- `PORT_RESTART` (R127): YZL_PORT_CMD.RESTART takes the port down into IDLE_WAIT. -/
  | portRestart (p : Fin 4)
    /-- `LANE_RETRAIN_CMD` (R134): YZL_PORT_CMD.RETRAIN0 or RETRAIN1 requests a retrain of that lane under
  R134. -/
  | laneRetrainCmd (p : Fin 4) (l : Fin 2)
    /-- `TEST_MODE_WRITE` (R136): A write of YZL_TEST.MODE enters TEST with raw PRBS31, or with 0 returns the
  port through IDLE_WAIT. -/
  | testModeWrite (p : Fin 4) (data : Word)
    /-- `PRBS_CHECKER_LOCK` (R136): The PRBS checker locks after 64 error-free bits and starts counting
  errors. -/
  | prbsCheckerLock (p : Fin 4) (x : LaneBits)
    /-- `MCPL` (R144): A host memory completion delivers read data for an outstanding MRD tag, or ends it with
  an error status. -/
  | mcpl (p : Fin 4) (rx : List RxSlot) (start data term : List RxSlot := [])
    /-- `NUDGE` (R148): A host NUDGE reports a new ring index and the context engine acts within 1 µs. -/
  | nudge (p : Fin 4) (rx : List RxSlot) (start term : List RxSlot := [])
    /-- `RRD` (R146): A host register read request is checked and answered with an RCPL carrying data. -/
  | rrd (p : Fin 4) (rx : List RxSlot) (start data term : List RxSlot := [])
    /-- `RWR` (R146): A host register write request is checked, executed and answered with an RCPL. -/
  | rwr (p : Fin 4) (rx : List RxSlot) (start data term after : List RxSlot := [])
    /-- `ACK` (R154): A received ACK frees every replay-buffer packet up to its sequence number. -/
  | ack (p : Fin 4) (rx : List RxSlot)
    /-- `NAK` (R154): A received NAK frees acknowledged packets and replays the rest in order. -/
  | nak (p : Fin 4) (rx : List RxSlot)
    /-- `CREDIT` (R151): A received CREDIT packet sets or advances the far end's grant for one pool. -/
  | credit (p : Fin 4) (rx : List RxSlot) (start data term : List RxSlot := [])
    /-- `BAD_PACKET` (R153): A packet failing LCRC, length or framing is discarded and a NAK is sent. -/
  | badPacket (x : RxOn)
    /-- `MALFORMED_PACKET` (R158): A packet with invalid KIND, TYPE or fields is discarded or answered UR with
  PKT_MALFORMED. -/
  | malformedPacket (p : Fin 4) (rx : List RxSlot) (start data term : List RxSlot := [])
    /-- `ACK_SEND` (R153): Within 1 µs of accepting a packet, or on every 16th, the receiver sends an ACK. -/
  | ackSend (p : Fin 4)
    /-- `CREDIT_REPEAT` (R151): Every 20 µs each end repeats a CREDIT for every pool. -/
  | creditRepeat (p : Fin 4)
    /-- `REPLAY_TIMEOUT` (R154): The replay timer reaches REPLAY_TMO and every unacknowledged packet is
  replayed. -/
  | replayTimeout (p : Fin 4)
    /-- `MRD_TIMEOUT` (R159): An MRD incomplete after CPL_TMO fails with HOST_READ_TIMEOUT and its tag is
  quarantined. -/
  | mrdTimeout (p : Fin 4) (tag : Nat)
    /-- `TAG_QUARANTINE_END` (R159): 100 ms after a timeout the tag may be reused. -/
  | tagQuarantineEnd (p : Fin 4) (tag : Nat)
    /-- `CONTEXT_ENABLE` (R168): HCX_CTL.EN written 1 checks ring configuration and layer rights and enables
  the context or refuses. -/
  | contextEnable (c : Fin 4)
    /-- `CONTEXT_DISABLE` (R195): HCX_CTL.EN written 0 stops fetching, abandons ingests and completes every
  held descriptor with ABORTED. -/
  | contextDisable (c : Fin 4)
    /-- `LAYER_RIGHTS_WRITE` (R165): A write of HCX_LAYERS grants or withdraws layers, refusing conflicts with
  LAYER_RIGHTS_CONFLICT. -/
  | layerRightsWrite (c : Fin 4) (data : Word)
    /-- `HCX_QUOTA_WRITE` (R210): A write of HCX_QUOTA changes bounds and recomputes effective quotas without
  evicting. -/
  | hcxQuotaWrite (c : Fin 4) (data : Word)
    /-- `DOORBELL_POLL` (R171): Every poll interval the device reads the submission doorbell and, for full
  rings, the consumer indices. The reads go out in the order of the three numbers. -/
  | doorbellPoll (c : Fin 4) (sub cq eq : Nat := 0)
    /-- `DESCRIPTOR_FETCH` (R173): The context engine fetches up to 16 descriptors in ring order and advances
  the submission consumer index. `n` is how many it takes at most. -/
  | descriptorFetch (c : Fin 4) (n : Nat := 16)
    /-- `NOP` (R185): A NOP descriptor is checked and completes at acceptance. -/
  | nop (c : Fin 4)
    /-- `SURFACE_LOAD` (R177): A SURFACE_LOAD descriptor is admitted, allocated and starts ingest of a host
  surface under a handle. -/
  | surfaceLoad (c : Fin 4)
    /-- `INGEST_COMPLETE` (R204): The last surface byte is in DRAM and checked; the handle switches to the new
  pages and the completion carries RELEASED. -/
  | ingestComplete (c : Fin 4) (serial : Nat)
    /-- `FRAME_PRESENT` (R179): A FRAME_PRESENT descriptor binds a handle to a layer from its effective frame.
  -/
  | framePresent (c : Fin 4)
    /-- `LAYER_PARAM` (R180): A LAYER_PARAM descriptor updates the selected layer parameter groups from its
  effective frame. -/
  | layerParam (c : Fin 4)
    /-- `BRIGHTNESS` (R181): A BRIGHTNESS descriptor sets the global level or starts a ramp at its effective
  frame. -/
  | brightness (c : Fin 4)
    /-- `CLIP_DEFINE` (R182): A CLIP_DEFINE descriptor starts reading a list of handles and hold times from
  host memory. -/
  | clipDefine (c : Fin 4)
    /-- `CLIP_LIST_CHECKED` (R218): The clip list has been read and checked; the clip is defined or redefined
  and the descriptor completes. -/
  | clipListChecked (c : Fin 4)
    /-- `CLIP_PLAY` (R182): A CLIP_PLAY descriptor starts or stops a clip on a layer at its effective frame.
  -/
  | clipPlay (c : Fin 4)
    /-- `TABLE_LOAD` (R183): A TABLE_LOAD descriptor starts reading table data into the inactive bank,
  optionally swapping. -/
  | tableLoad (c : Fin 4)
    /-- `TABLE_LOAD_DATA_DONE` (R183): The table data is complete in the inactive bank and the completion or
  pending swap follows. -/
  | tableLoadDataDone (c : Fin 4) (serial : Nat)
    /-- `QUERY` (R184): A QUERY descriptor writes the selected result item to host memory. -/
  | query (c : Fin 4)
    /-- `QUERY_RESUME` (R184): A QUERY waiting for its port is taken afresh and written in full once the port
  is UP. -/
  | queryResume (c : Fin 4)
    /-- `FENCE` (R185): A FENCE descriptor is accepted and blocks later descriptors in modes 0 and 2. -/
  | fence (c : Fin 4)
    /-- `FENCE_COMPLETE` (R185): The fence condition holds and the fence completes, unblocking later
  descriptors. -/
  | fenceComplete (c : Fin 4)
    /-- `DESCRIPTOR_BAD_OPCODE` (R175): A descriptor with an unknown opcode completes with BAD_OPCODE and
  DESC_REJECTED. -/
  | descriptorBadOpcode (c : Fin 4)
    /-- `COMPLETION_WRITE` (R189): A queued completion is written into the completion ring when it has room
  and the port is UP. -/
  | completionWrite (c : Fin 4)
    /-- `EVENT_RING_WRITE` (R193): A filtered event is written as an entry into a context's event ring. -/
  | eventRingWrite (c : Fin 4)
    /-- `EVT_RING_OVERFLOW` (R194): When the event ring has space after losses, one overflow entry carrying
  the count is written. -/
  | evtRingOverflow (c : Fin 4)
    /-- `FAILOVER_SWITCH_CMD` (R199): HCX_FO_CMD.SWITCH requests a pair switch at the next deadline. -/
  | failoverSwitchCmd (c : Fin 4)
    /-- `FRAME_BOUNDARY` (R27): A frame boundary F(k) swaps banks or not, advances the frame counter and is
  the composition deadline of frame k+2. -/
  | frameBoundary (b : BoundaryIn)
    /-- `COMPOSITION_END` (R29): Composition of frame k ends; the forecast completes and G(k) is fixed. -/
  | compositionEnd (cycles : List Nat)
    /-- `BAND_CHECK_COMPARE` (R222): Both engines of a duplicate band have finished and their checksums are
  compared. -/
  | bandCheckCompare (agree : Bool) (third : Option Bool)
    /-- `BE_RETIRE_CMD` (R223): CUR_BE_CMD.RETIRE retires the named engines from the next composition. -/
  | beRetireCmd (data : Word)
    /-- `VITRINE_FLATTEN_DONE` (R213): A run's flattening finishes and its Vitrine surface is used from the
  next composition. -/
  | vitrineFlattenDone (layers : List Nat)
    /-- `VITRINE_CTL_WRITE` (R215): A write of CUR_VIT_CTL with FRAMES 0 disables the Vitrine at the next
  boundary. -/
  | vitrineCtlWrite (data : Word)
    /-- `PATROL_SCRUB` (R225): The patrol scrub reads and corrects the DRAM rows over each SCRUB_H period. -/
  | patrolScrub (row : RowAt) (err : Option Bool) (use : DramUse)
    /-- `TABLE_SWAP_CMD` (R277): PIX_TBL_CMD.SWAP swaps a table's banks at the next composition deadline. -/
  | tableSwapCmd (data : Word)
    /-- `TABLE_BANK_COPY_DONE` (R183): The copy of the new active bank into the inactive bank completes and
  waiting loads proceed. -/
  | tableBankCopyDone (t : Nat)
    /-- `TABLE_ARCHIVE` (R280): Within 60 s after a swap the Docent copies the active table bank into the
  archive. -/
  | tableArchive (t : Nat)
    /-- `PIX_TBL_DATA_ACCESS` (R277): An access to PIX_TBL_DATA reads or stores one word of the inactive bank
  and advances the index. -/
  | pixTblDataAccess (r : Reader) (write : Option Word)
    /-- `UPLOAD_START` (R290): After F(k−1) and composition end the upload writes all scan lines of frame k
  into the drivers' second bank. -/
  | uploadStart (bad : List (Nat × Nat))
    /-- `FDONE` (R292): The upload is complete in every enabled group and FDONE is reported. -/
  | fdone
    /-- `UPLOAD_DEADLINE` (R290): At F(k) − 2 µs scan-out sends the bank-swap or sync command to every enabled
  group. -/
  | uploadDeadline
    /-- `SOB` (R292): The frame blanking interval starts and SOB is reported. -/
  | sob
    /-- `LMATCH` (R292): The line visit named in SCN_LMATCH starts and LMATCH is reported. -/
  | lmatch
    /-- `GLK_IN_EDGE` (R293): A GLK_IN rising edge is measured and its interval accepted or rejected. -/
  | glkInEdge (x : GlkEdge)
    /-- `GLK_IN_MISSING` (R293): No GLK_IN edge within 1.05 × FPER counts the pulse as missing. -/
  | glkInMissing
    /-- `LIGHT_GATE_CHANGE` (R289): A new light-gate value from a safety core bounds ROWEN high time. -/
  | lightGateChange (core : SafCore)
    /-- `SCN_COMMIT` (R298): A write of SCN_COMMIT.COMMIT requests a configuration commit and sets PEND. -/
  | scnCommit (data : Word)
    /-- `DRIVER_RELOAD` (R322): In the first dark frame of a reload the drivers are reset, configured, trained
  and checked. -/
  | driverReload (trained : List TrainIn)
    /-- `STATUS_READ` (R326): After FDONE, if it fits, the device captures and shifts out driver status of all
  enabled chains. -/
  | statusRead
    /-- `STATUS_READ_DONE` (R327): A status read completes, is stored and raises CRC, config and over-
  temperature events. -/
  | statusReadDone (words : List (List Nat))
    /-- `DIAG_BURST` (R341): In the frame blanking interval GCK bursts run queued diagnostic bursts. -/
  | diagBurst
    /-- `DIAG_STEAL` (R346): A round read deferred 4 frames takes the next upload's chain time. -/
  | diagSteal
    /-- `DIA_CLEAR` (R356): DIA_CMD.CLEAR sets every map entry UNTESTED, empties the list and erases the
  archived copy. -/
  | diaClear
    /-- `DIA_RESTART` (R342): DIA_CMD.RESTART discards the round and restarts the cycle at round 0. -/
  | diaRestart
    /-- `FAULTMAP_ARCHIVE` (R355): Within 60 s of a change the fault map and declared entries are archived. -/
  | faultmapArchive
    /-- `DIA_MAP_DATA_ACCESS` (R351): A read of DIA_MAP_DATA returns 16 emitter codes and advances the index.
  -/
  | diaMapDataAccess (r : Reader)
    /-- `DIA_FLT_DATA_ACCESS` (R353): A read of DIA_FLT_DATA returns one fault-list word and advances the
  index. -/
  | diaFltDataAccess (r : Reader)
    /-- `CCH_CFG_DATA_ACCESS` (R93): An access to CCH_CFG_DATA reads or stages a driver configuration word and
  advances the index. -/
  | cchCfgDataAccess (r : Reader) (write : Option Word)
    /-- `CCH_DST_DATA_ACCESS` (R327): A read of CCH_DST_DATA returns a pair of stored status words and
  advances the pair. -/
  | cchDstDataAccess (r : Reader)
    /-- `GAIN_UPDATE` (R367): Every PERIOD seconds Patina computes new gains into the inactive bank. -/
  | gainUpdate
    /-- `PATINA_SNAPSHOT_COPY` (R370): Every snapshot period the ledger is copied at a frame boundary to
  staging storage. -/
  | patinaSnapshotCopy
    /-- `PATINA_SNAPSHOT` (R370): The snapshot slot is completely written to the archive. -/
  | patinaSnapshot
    /-- `PAT_SNAP_CMD` (R370): PAT_CMD.SNAP takes a snapshot now. -/
  | patSnapCmd
    /-- `PAT_ZERO_CMD` (R373): PAT_CMD.ZERO zeroes doses of the set rectangle and snapshots at once. -/
  | patZeroCmd
    /-- `PAT_DISCARD_CMD` (R371): PAT_CMD.DISCARD releases held snapshots. -/
  | patDiscardCmd
    /-- `PAT_DOSE_DATA_ACCESS` (R373): An access to PAT_DOSE_DATA reads or, while RUN = 0, writes a ledger
  word. -/
  | patDoseDataAccess (r : Reader) (write : Option Word)
    /-- `PAT_CURVE_DATA_ACCESS` (R366): An access to PAT_CURVE_DATA reads or writes an efficiency curve entry.
  -/
  | patCurveDataAccess (r : Reader) (write : Option Word)
    /-- `PWR_GOOD_LOW` (R381): PWR_GOOD low for 10 µs switches the limit to LOW and raises PWR_NOT_GOOD. -/
  | pwrGoodLow
    /-- `PWR_GOOD_RESTORED` (R381): PWR_GOOD high for 100 ms returns the limit to NORM. -/
  | pwrGoodRestored
    /-- `PWR_FF_UPDATE` (R382): At F(k) − LEAD the PWR_FF duty takes the set-point of frame k. -/
  | pwrFfUpdate
    /-- `PRIMARY_APERTURE` (R389): An epoch begins with the simultaneous capture of all cells and current,
  free-running or triggered. -/
  | primaryAperture (t : Nat)
    /-- `BALANCE_GUARD_OPEN` (R399): With THRU = 0 every balance switch opens 50 µs before the aperture. -/
  | balanceGuardOpen
    /-- `PRIMARY_RESULT` (R390): 500 µs after the aperture the primary results are ready, corrected and
  checked. -/
  | primaryResult (cells : List Nat) (current : Int) (cal : Int)
    /-- `SWEEP_SLOT` (R393): A sweep slot is sampled 50 µs × (s + 1) after the aperture. -/
  | sweepSlot (slot : Nat) (raw : Nat) (dev : Int)
    /-- `CEL_PROT_CLEAR` (R402): A write of CEL_PROT_CMD.CLEAR requests release of the latched demand. -/
  | celProtClear
    /-- `PROT_CLEAR_EVAL` (R402): After the epoch's results are checked, a pending CLEAR resumes the lines
  with CELL_PROT_CLEARED or is dropped. -/
  | protClearEval
    /-- `COUL_ZERO` (R397): CEL_PROT_CMD.COUL_ZERO zeroes CEL_COUL. -/
  | coulZero
    /-- `BAL_REQ_WRITE` (R398): A write of CEL_BAL_REQ sets balance requests and restarts TMO. -/
  | balReqWrite (data : Word)
    /-- `BAL_EXPIRED` (R398): TMO without a request write clears every request. -/
  | balExpired
    /-- `PROT_LOCK_WRITE` (R403): A write of CEL_PROT_LOCK freezes protection settings until cell-side power-
  on. -/
  | protLockWrite (data : Word)
    /-- `ENUM` (R413): An ENUM frame assigns positions by hop count and is repeated up the chain. -/
  | enum (up : Bool) (f : HbFrame) (us : Nat)
    /-- `IDENT` (R413): An IDENT frame asks a position for its address, version and digest. -/
  | ident (up : Bool) (f : HbFrame)
    /-- `IDENT_REPLY` (R413): An IDENT_REPLY gives the head a member's address, version and digest. -/
  | identReply (up : Bool) (f : HbFrame)
    /-- `IDENT_TIMEOUT` (R413): No IDENT reply in 200 µs ends identification at that position. -/
  | identTimeout
    /-- `PING` (R415): A PING frame to a member starts a delay measurement. -/
  | ping (up : Bool) (f : HbFrame)
    /-- `ECHO_SEND` (R415): 10.00 µs after the PING the member sends its ECHO. -/
  | echoSend
    /-- `ECHO` (R415): The head receives an ECHO and computes one-way delay. -/
  | echo (up : Bool) (f : HbFrame) (rt : Nat)
    /-- `SETUP` (R417): A SETUP frame gives a member its delays, the chain version and the split. -/
  | setup (up : Bool) (f : HbFrame)
    /-- `TRIGGER` (R416): A TRIGGER sets chain time, sweep number and string state, scheduling the aperture.
  -/
  | trigger (up : Bool) (f : HbFrame) (own : Nat) (phase : Nat)
    /-- `READ` (R421): A READ frame asks a member for its sweep response and delivers X. -/
  | read (up : Bool) (f : HbFrame)
    /-- `RESPONSE` (R420): The head receives a member's sweep response. -/
  | response (up : Bool) (f : HbFrame)
    /-- `HB_FRAME_DISCARD` (R408): A Hatband frame with bad CRC or length is discarded. -/
  | hbFrameDiscard (x : HbRaw)
    /-- `HEAD_LISTEN_END` (R412): After 100 ms without ENUM on HB_DN an address-0 device becomes head. -/
  | headListenEnd
    /-- `REENUMERATE` (R412): Every REENUM seconds the head enumerates in place of a sweep. -/
  | reenumerate
    /-- `RING_ENUM_TIMEOUT` (R413): No ENUM returns within 2 ms and the ring is recorded broken. -/
  | ringEnumTimeout
    /-- `SWEEP_START` (R421): Each sweep period the head sends TRIGGER and begins reading. -/
  | sweepStart (now : Nat) (phase : Nat)
    /-- `RESPONSE_MISSING` (R422): No response 200 µs after a READ marks the position missing. -/
  | responseMissing
    /-- `SWEEP_END` (R423): The last read ends the sweep, merged or SPLIT with a re-sweep. -/
  | sweepEnd
    /-- `HBD_ORPHAN` (R425): 2 s without hearing the head makes a member an orphan with a latched demand. -/
  | hbdOrphan
    /-- `STRING_RELEASE` (R427): HBD_STR_CMD.RELEASE0 or RELEASE1 releases an open string with no active
  request. -/
  | stringRelease (data : Word)
    /-- `HBD_REENUM_CMD` (R412): HBD_STR_CMD.REENUM enumerates at the next sweep. -/
  | hbdReenumCmd
    /-- `XFER_HOLD_EXPIRE` (R429): No X for 3 sweep periods or 100 ms sets XFER to constant low. -/
  | xferHoldExpire
    /-- `HBD_MEM_DATA_ACCESS` (R420): A read of HBD_MEM_DATA returns a word of a member record and advances
  the index. -/
  | hbdMemDataAccess (r : Reader)
    /-- `SAFETY_TICK` (R436): Every 1 ms the cores exchange state, sample inputs and take decisions that act
  at the next tick. -/
  | safetyTick (a : SafSamples) (b : SafSamples)
    /-- `DISCREPANCY_TIMEOUT` (R439): The second channel not following within Td latches a DISCREPANCY fault.
  -/
  | discrepancyTimeout (input : Fin 2)
    /-- `RELEASE_DELAY_END` (R442): DELAY after the gate reaches 0 drives SQ1 low. -/
  | releaseDelayEnd
    /-- `FEEDBACK_WINDOW_EXPIRE` (R444): Feedback not confirmed within FBWIN raises FEEDBACK or FB_CLOSE. -/
  | feedbackWindowExpire (output : Fin 2)
    /-- `OUTPUT_TEST_PULSE` (R445): Once per second each high output channel starts a 500 µs off-pulse. -/
  | outputTestPulse (ch : Fin 4)
    /-- `OUTPUT_TEST_PULSE_END` (R445): The test pulse ends and readback is checked. -/
  | outputTestPulseEnd (ch : Fin 4) (ok : Bool)
    /-- `OUTPUT_READBACK_FAIL` (R445): Readback disagreeing for over 200 µs is an OUTPUT fault. -/
  | outputReadbackFail (ch : Fin 4)
    /-- `SGB_MESSAGE_TIMEOUT` (R436): SG[B] without valid messages for 3 ticks drives the safe state. -/
  | sgbMessageTimeout
    /-- `PROTECTION_LINE_STOP` (R443): A protection line without edges for 3 µs drives SQ2 low within 20 µs.
  -/
  | protectionLineStop (core : SafCore)
    /-- `OUTPUT_REFRESH_TIMEOUT` (R437): An output channel not refreshed for 2 ms falls low. -/
  | outputRefreshTimeout (ch : Fin 4)
    /-- `SAF_RESET_REQUEST` (R447): A keyed write of SAF_CMD.RESET requests release, evaluated at the next
  tick. -/
  | safResetRequest (data : Word)
    /-- `SAF_LOCK_WRITE` (R451): A write of SAF_LOCK equal to both CRCs locks the configuration. -/
  | safLockWrite (data : Word)
    /-- `SAF_CONFIG_WRITE` (R450): A write to a SAF configuration register lands in SFA and is copied to
  SG[B]. -/
  | safConfigWrite (reg : Fin 4) (data : Word)
    /-- `HOUSEKEEPING_ROUND` (R456): Every 100 ms the Docent samples every sensor and takes thermal decisions.
  -/
  | housekeepingRound (lamps : List LampSample) (dies : List Int)
    /-- `THM_RESUME` (R465): THM_CMD.RESUME leaves the stop if the cool condition is met. -/
  | thmResume
    /-- `THERMAL_HARD_CUT` (R466): A die at 125 °C holds VIOC outputs and PWR_FF low. -/
  | thermalHardCut (die : Fin 4)
    /-- `HARD_CUT_RELEASE` (R466): Every die below 110 °C for 10 s releases the cut with dark frames and
  reload. -/
  | hardCutRelease
    /-- `CVU_CTL_WRITE` (R472): A write of CVU_CTL sets the algorithm and with EN = 1 restarts the unit. -/
  | cvuCtlWrite (u : Fin 8) (data : Word)
    /-- `CVU_DATA_WRITE` (R470): A write to CVU_DATA feeds its bytes into the CRC. -/
  | cvuDataWrite (u : Fin 8) (bytes : List Byte)
    /-- `CVU_RUN_WRITE` (R472): A write of CVU_RUN sets the running value. -/
  | cvuRunWrite (u : Fin 8) (data : Word)
    /-- `CVU_EXPECT_WRITE` (R474): A write of CVU_EXPECT stores and compares with RESULT. -/
  | cvuExpectWrite (u : Fin 8) (data : Word)
    /-- `CVU_RESTART` (R472): CVU_CMD.RESTART loads INIT and clears counts. -/
  | cvuRestart (u : Fin 8)
    /-- `CVU_COMPARE` (R474): CVU_CMD.COMPARE repeats the comparison. -/
  | cvuCompare (u : Fin 8)
    /-- `CVU_ALIVE_RESET` (R475): CVU_CMD.ALIVE_RESET accepts the next alive value as first. -/
  | cvuAliveReset (u : Fin 8)
    /-- `CVU_ALIVE_WRITE` (R475): A write of CVU_ALIVE is checked as an alive counter. -/
  | cvuAliveWrite (u : Fin 8) (data : Word)
    /-- `CVU_ALIVE_TIMEOUT` (R476): No accepted alive write for ATMO ms sets STALE. -/
  | cvuAliveTimeout (u : Fin 8)
    /-- `MQ_POP` (R484): EVT_MQ_CMD.POP removes the oldest management-queue entry. -/
  | mqPop
    /-- `FAULT_ACK` (R487): EVT_FAULT_CMD.ACK acknowledges earlier events and releases FAULT_N. -/
  | faultAck
    /-- `RECORD_WRITE` (R490): The Registrar writes the next queued event as an archive record. -/
  | recordWrite (ok : Bool)
    /-- `FACTORY_CLEAR` (R496): A keyed RGS_CMD.FCLEAR erases both record regions where the lifecycle allows.
  -/
  | factoryClear (data : Word)
    /-- `FACTORY_CLEAR_DONE` (R496): The clear completes and RGS_CLEARED is raised. -/
  | factoryClearDone
    /-- `RGS_RD_DATA_ACCESS` (R495): A read of RGS_RD_DATA returns a record word and advances. -/
  | rgsRdDataAccess (r : Reader)
    /-- `HANDLER_COMPLETE` (R511): A handler finishes and the next handler or queued event takes the slot. -/
  | handlerComplete
    /-- `LANE_BACKGROUND_CAL` (R500): Every INTERVAL an active lane is recalibrated one step per window. -/
  | laneBackgroundCal (p : Fin 4) (l : Fin 2) (steps : List (Nat × Int))
    /-- `CAL_LANE_RUN_CMD` (R500): CAL_CMD.LANE_RUN starts a background pass on every active lane. -/
  | calLaneRunCmd
    /-- `CELL_CAL_RUN` (R502): A scheduled, temperature or power-on cell run calibrates each converter over 26
  epochs. -/
  | cellCalRun (byTemp : Bool)
    /-- `CAL_CELL_RUN_CMD` (R502): CAL_CMD.CELL_RUN starts a cell calibration run. -/
  | calCellRunCmd
    /-- `CAL_ACCESS_OPEN` (R506): A keyed write of CAL_ACCESS opens coefficient access if a cause holds. -/
  | calAccessOpen (data : Word)
    /-- `CAL_ACCESS_CLOSE` (R506): CAL_CMD.CLOSE closes coefficient access. -/
  | calAccessClose
    /-- `CAL_COEF_DATA_ACCESS` (R507): An access to CAL_COEF_DATA reads or writes a coefficient word. -/
  | calCoefDataAccess (r : Reader) (write : Option Word)
    /-- `CAL_ARCHIVE` (R505): Within 60 s after an accepted run the values are archived. -/
  | calArchive
    /-- `FW_ERASE` (R515): GLB_FW_CMD.ERASE erases the slot not running. -/
  | fwErase
    /-- `FW_ERASE_DONE` (R515): The erase completes and BUSY clears. -/
  | fwEraseDone
    /-- `FW_DATA_WRITE` (R515): A write of GLB_FW_DATA stores an image word and advances the index. -/
  | fwDataWrite (data : Word)
    /-- `FW_VERIFY` (R515): GLB_FW_CMD.VERIFY starts signature and rollback checking. -/
  | fwVerify
    /-- `FW_VERIFY_DONE` (R515): The verify completes with FW_IMAGE_LOADED or FW_VERIFY_FAIL. -/
  | fwVerifyDone (signed : Bool) (version : Nat)
    /-- `FW_SWITCH` (R516): GLB_FW_CMD.SWITCH requests a switch to the verified image. -/
  | fwSwitch
    /-- `FW_CONFIRM_CMD` (R517): GLB_FW_CMD.CONFIRM makes the running image the boot slot. -/
  | fwConfirmCmd
    /-- `FW_CONFIRM_TIMEOUT` (R517): CONFIRM minutes without fallback confirm the image. -/
  | fwConfirmTimeout
    /-- `FW_READY_TIMEOUT` (R517): A new image not ready within 2 s triggers fallback. -/
  | fwReadyTimeout
    /-- `SERVICE_RELOAD` (R522): GLB_SVC_CMD.RELOAD reloads the drivers at the next boundary. -/
  | serviceReload
    /-- `FUSE_BLOW` (R541): A keyed SEC_FUSE_CMD.BLOW blows the selected fuse bits or refuses. -/
  | fuseBlow (data : Word) (viomOk : Bool)
    /-- `FUSE_BLOW_DONE` (R541): Blowing completes and RESULT is set. -/
  | fuseBlowDone (mismatch : Bool)
    /-- `EXTEST` (R544): EXTEST drives balls and puts the safety cores in the safe state. -/
  | extest
    /-- `IDCODE` (R543): IDCODE selects the identification register. -/
  | idcode
    /-- `SAMPLE_PRELOAD` (R543): SAMPLE/PRELOAD captures or preloads the boundary register. -/
  | samplePreload (balls : List Bool)
    /-- `DOCENT_HALT` (R544): DOCENT_HALT halts the Docent and puts the safety cores in the safe state. -/
  | docentHalt
    /-- `BYPASS` (R543): BYPASS selects the one-bit bypass register. -/
  | bypass
    /-- `SIGNAL_DETECT` (R125): The differential level on a receive lane rises above the detect threshold and
  the lane's SIGNAL bit sets, opening bring-up of that lane. -/
  | signalDetect (p : Fin 4) (l : Fin 2)
    /-- `CDR_LOCK` (R125): The clock and data recovery of a receive lane locks with the CTLE at its mid code,
  the precondition for block lock. -/
  | cdrLock (p : Fin 4) (l : Fin 2)
    /-- `AM_MISSING` (R125): An alignment marker does not arrive at its expected position, counting towards
  loss of AM lock after three in a row. -/
  | amMissing (p : Fin 4) (rx : List RxSlot)
    /-- `PRBS_CHECKER_LOCK_LOST` (R136): In TEST the PRBS checker sees 32 errors within 64 bits, drops lock
  and seeds itself again. -/
  | prbsCheckerLockLost (p : Fin 4) (x : LaneBits)
    /-- `RETRAIN_TRAINING_BURST` (R134): After a one-lane RETRAIN_REQ the device inserts a 1 µs training burst
  every 20 µs for up to 40 ms. -/
  | retrainTrainingBurst (p : Fin 4)
    /-- `DRAM_READ_ECC_ERROR` (R228): A DRAM read made by composition, upload, Patina or another client
  returns a corrected or uncorrectable word and the ECC, map-out and per-location consequences follow. -/
  | dramReadEccError (row : RowAt) (uncorrectable : Bool) (use : DramUse)
    /-- `LINE_VISIT_START` (R286): A line visit begins: ROWEN falls, RA changes after RA_DLY, ROWEN rises
  after LB subject to the light gate, and a raised gate takes effect. -/
  | lineVisitStart
    /-- `BALANCE_GUARD_CLOSE` (R399): With THRU = 0 the balance switches close again 20 µs after the end of
  the aperture. -/
  | balanceGuardClose
    /-- `HB_FRAME_REPEAT` (R411): A member receives a Hatband frame not addressed to it, or of unknown type,
  and repeats it onto its other port, counting frames from the head as hearing from the head. -/
  | hbFrameRepeat (up : Bool) (f : HbFrame)
  deriving DecidableEq, Repr

end Sys2Proof
end

