-- ==== Sys2Proof/Config.lean ====
section
/-! DEFINITION. What the spec leaves open and the model leaves open with it: constants without a body. Nothing
can be proved of their values. Each is named in a row of the assumption log. -/

namespace Sys2Proof.Config

/-- A value that the spec leaves open, drawn with the counter `State.free` (log entry 2). -/
opaque freeNat : Nat → Nat

/-- Whether a quotient whose rounding the spec does not state is rounded up, for a numerator and a denominator
(log entry 3). -/
opaque roundUp : Int → Int → Bool

/-- The outcome that the spec leaves open between two allowed ones, by a tag of the case and an argument
(log entry 4). -/
opaque either : Nat → Nat → Bool

/-- `GLB_REV`, which every die and module fixes for itself (log entry 19). -/
opaque dieRevision : Nat

/-- The deviation of a value that the spec bounds only by an error limit, by a tag of the case and an argument
(log entry 31). -/
opaque slack : Nat → Nat → Nat

end Sys2Proof.Config
end

