-- ==== Sys2Proof/Machine/Bits.lean ====
section
/-! DEFINITION. Bit fields, words built from fields, signed fields, counters that wrap or saturate (R11),
check values (CRC-8, CRC-16, CRC-32C), byte order, fixed vectors indexed by a number, and sparse keyed maps
in one canonical form. -/

namespace Sys2Proof.Machine

/-! ## Bit fields -/

/-- Bits `lo + n - 1 : lo` of a number. -/
def natBits (x lo n : Nat) : Nat := (x >>> lo) % 2 ^ n

/-- Bits `lo + n - 1 : lo` of a word, as a number. -/
def fld (w : Word) (lo n : Nat) : Nat := natBits w.toNat lo n

/-- Bit `i` of a word. -/
def bitOf (w : Word) (i : Nat) : Bool := w.toNat.testBit i

/-- 1 for true, 0 for false. -/
def b2n (b : Bool) : Nat := if b then 1 else 0

/-- A word built from fields, each given as (lowest bit, value). -/
def mkWord (fs : List (Nat × Nat)) : Word :=
  BitVec.ofNat 32 (fs.foldl (fun a f => a ||| (f.2 <<< f.1)) 0)

/-- A word of flags: flag `i` of the list in bit `i`. -/
def flagsWord : List Bool → Nat
  | [] => 0
  | b :: bs => b2n b + 2 * flagsWord bs

/-- The low `n` bits of `x` read as two's complement. -/
def sext (n x : Nat) : Int :=
  let y := x % 2 ^ n
  if y < 2 ^ (n - 1) then (y : Int) else (y : Int) - (2 ^ n : Nat)

/-- An integer as `n` bits of two's complement. -/
def toTwos (n : Nat) (i : Int) : Nat := (i % ((2 ^ n : Nat) : Int)).toNat

/-- An integer limited to a closed range. -/
def clampInt (lo hi i : Int) : Int := if i < lo then lo else if hi < i then hi else i

/-- Number of ones among the low `n` bits. -/
def popCount : Nat → Nat → Nat
  | 0, _ => 0
  | n + 1, x => x % 2 + popCount n (x / 2)

/-- The masked write of a class M register (R102): the new bits 15:0. -/
def maskedWrite (old data : Word) : Word :=
  let m := fld data 16 16
  let d := fld data 0 16
  BitVec.ofNat 32 ((fld old 0 16 &&& (0xFFFF ^^^ m)) ||| (d &&& m))

/-- Bits 15:0 of a masked write that are both enabled and 1: the action bits that act (R102). -/
def actionBits (data : Word) : Nat := fld data 0 16 &&& fld data 16 16

/-- Whether action bit `i` of a masked write acts (R102). -/
def acts (data : Word) (i : Nat) : Bool := (actionBits data).testBit i

/-- Whether a masked write carries a key in bits 15:8 with all eight mask bits set (R80, R496, R506, R541). -/
def keyed (data : Word) (key : Nat) : Bool := fld data 24 8 == 0xFF && fld data 8 8 == key

/-! ## Counters (R11, R12) -/

/-- Addition that saturates at the top of `n` bits. -/
def satAdd (n a b : Nat) : Nat := min (a + b) (2 ^ n - 1)

/-- Addition that wraps at `n` bits. -/
def wrapAdd (n a b : Nat) : Nat := (a + b) % 2 ^ n

/-- How far `a` lies ahead of `b` for counters of `n` bits. -/
def ahead (n a b : Nat) : Nat := (a + 2 ^ n - b % 2 ^ n) % 2 ^ n

/-- What a comparison of values half the range apart gives: R12 leaves it undefined (log entry 74). -/
def halfApart (n a b : Nat) : Bool := Config.either n (a % 2 ^ n * 2 ^ n + b % 2 ^ n)

/-- `a` is later than `b` for counters of `n` bits (R12). -/
def later (n a b : Nat) : Bool :=
  let d := ahead n a b
  if d = 2 ^ (n - 1) then halfApart n a b else decide (1 ≤ d) && decide (d < 2 ^ (n - 1))

/-- Whether bit `i` of a number is set. -/
def hasBit (x i : Nat) : Bool := x.testBit i

/-- A number with bit `i` set. -/
def setBit (x i : Nat) : Nat := x ||| 2 ^ i

/-- A number with bit `i` cleared. -/
def clearBit (x i : Nat) : Nat := if x.testBit i then x - 2 ^ i else x

/-- A number whose bits are a function of their place, for the low `n` bits. -/
def bitsOf : Nat → (Nat → Bool) → Nat
  | 0, _ => 0
  | n + 1, f => bitsOf n f + b2n (f n) * 2 ^ n

/-- Rounded division of a natural number, halves upward. -/
def divRound (a b : Nat) : Nat := (2 * a + b) / (2 * b)

/-- Division rounded up. -/
def divCeil (a b : Nat) : Nat := (a + b - 1) / b

/-! ## Bytes -/

/-- The `n` bytes of a number, least significant first. -/
def bytesLE : Nat → Nat → List Nat
  | 0, _ => []
  | n + 1, x => x % 256 :: bytesLE n (x / 256)

/-- The number that a list of bytes spells, least significant first. -/
def ofBytesLE : List Nat → Nat
  | [] => 0
  | b :: bs => b % 256 + 256 * ofBytesLE bs

/-- The `n` bytes of a number, most significant first. -/
def bytesBE (n x : Nat) : List Nat := (bytesLE n x).reverse

/-- Bit `i` of a byte or word reversed within `n` bits. -/
def reverseBits : Nat → Nat → Nat
  | 0, _ => 0
  | n + 1, x => (x % 2) * 2 ^ n + reverseBits n (x / 2)

/-! ## Check values -/

/-- One bit step of a CRC of width `w` shifted toward the high end. -/
def crcStep (w poly : Nat) (c : Nat) : Nat :=
  if c.testBit (w - 1) then ((c * 2) % 2 ^ w) ^^^ poly else (c * 2) % 2 ^ w

/-- `n` bit steps. -/
def crcSteps (w poly : Nat) : Nat → Nat → Nat
  | 0, c => c
  | n + 1, c => crcSteps w poly n (crcStep w poly c)

/-- One byte into an unreflected CRC of `w ≥ 8` bits. -/
def crcByte (w poly c byte : Nat) : Nat := crcSteps w poly 8 (c ^^^ ((byte % 256) <<< (w - 8)))

/-- CRC over bytes with input and output reflected: the parameters of R141 are
`crcReflected 32 0x1EDC6F41 0xFFFFFFFF 0xFFFFFFFF`. -/
def crcReflected (w poly init xorOut : Nat) (bs : List Nat) : Nat :=
  reverseBits w (bs.foldl (fun c b => crcByte w poly c (reverseBits 8 b)) init) ^^^ xorOut

/-- CRC-32C (R141). -/
def crc32c (bs : List Nat) : Nat := crcReflected 32 0x1EDC6F41 0xFFFFFFFF 0xFFFFFFFF bs

/-- CRC-16 with polynomial 0x1021 and initial value 0xFFFF over bytes, most significant bit first. -/
def crc16 (bs : List Nat) : Nat := bs.foldl (crcByte 16 0x1021) 0xFFFF

/-- CRC-8 with polynomial x^8 + x^2 + x + 1 and initial value 0 over bytes (R123). -/
def crc8 (bs : List Nat) : Nat := bs.foldl (crcByte 8 0x07) 0

/-! ## Fixed vectors -/

/-- Element `i` of a fixed vector; the index is taken modulo the length. -/
def vget {α : Type} {n : Nat} [NeZero n] (v : Vector α n) (i : Nat) : α :=
  v[i % n]'(Nat.mod_lt _ (Nat.pos_of_ne_zero (NeZero.ne n)))

/-- A fixed vector with element `i` (modulo the length) replaced. -/
def vset {α : Type} {n : Nat} [NeZero n] (v : Vector α n) (i : Nat) (x : α) : Vector α n :=
  v.set (i % n) x (Nat.mod_lt _ (Nat.pos_of_ne_zero (NeZero.ne n)))

/-- A fixed vector with a function applied to element `i`. -/
def vmod {α : Type} {n : Nat} [NeZero n] (v : Vector α n) (i : Nat) (f : α → α) : Vector α n :=
  vset v i (f (vget v i))

/-! ## Sparse maps

A map from numbers to values is a list of pairs with strictly rising keys in which no pair holds the value
that an unlisted key reads as. -/

/-- What key `k` holds; `d` where it is not listed. -/
def kget {α : Type} (d : α) : List (Nat × α) → Nat → α
  | [], _ => d
  | (k, v) :: m, q => if k = q then v else kget d m q

/-- The map with key `q` removed. -/
def kdel {α : Type} : List (Nat × α) → Nat → List (Nat × α)
  | [], _ => []
  | (k, v) :: m, q => if k = q then kdel m q else (k, v) :: kdel m q

/-- The map with `q ↦ x` put in key order, for a key that is not listed. -/
def kins {α : Type} : List (Nat × α) → Nat → α → List (Nat × α)
  | [], q, x => [(q, x)]
  | (k, v) :: m, q, x => if q < k then (q, x) :: (k, v) :: m else (k, v) :: kins m q x

/-- The map with `q` holding `x`, `d` being what `q` reads as when not listed. -/
def kput {α : Type} [DecidableEq α] (d : α) (m : List (Nat × α)) (q : Nat) (x : α) : List (Nat × α) :=
  if x = d then kdel m q else kins (kdel m q) q x

/-- The map with `q` listed as holding `x`. -/
def kset {α : Type} (m : List (Nat × α)) (q : Nat) (x : α) : List (Nat × α) := kins (kdel m q) q x

/-- What key `k` holds, where it is listed. -/
def kfind {α : Type} : List (Nat × α) → Nat → Option α
  | [], _ => none
  | (k, v) :: m, q => if k = q then some v else kfind m q

/-- The keys rise strictly. -/
def kSorted {α : Type} : List (Nat × α) → Bool
  | [] => true
  | (k, _) :: m => m.all (fun p => k < p.1) && kSorted m

/-- The canonical form: keys rise strictly and no entry holds what its key reads as when not listed. -/
def kWf {α : Type} [DecidableEq α] (d : Nat → α) (m : List (Nat × α)) : Bool :=
  kSorted m && m.all (fun p => p.2 != d p.1)

/-! ## Lists -/

/-- Element `i` of a list changed by `f`. -/
def lmod {α : Type} (l : List α) (i : Nat) (f : α → α) : List α := l.modify i f

/-- The first `n` elements, filled up with `d`. -/
def padTo {α : Type} (d : α) : Nat → List α → List α
  | 0, _ => []
  | n + 1, [] => d :: padTo d n []
  | n + 1, x :: xs => x :: padTo d n xs

/-- The sum of a list. -/
def lsum (l : List Nat) : Nat := l.foldl (· + ·) 0

/-- The sum of a list of integers. -/
def isum (l : List Int) : Int := l.foldl (· + ·) 0

/-- Bytes received after a start delimiter are a good frame: as long as LEN says, at most 64 bytes of payload, and
with a good CRC-16 (R408). -/
def hbGood (bs : List Nat) : Bool :=
  let body := bs.take (bs.length - 2)
  let len := body.getD 3 0
  decide (len ≤ 64) && decide (bs.length = 4 + len + 2) && decide (bytesBE 2 (crc16 body) = bs.drop (bs.length - 2))

end Sys2Proof.Machine
end

