-- ==== Sys2Proof/Machine/Codes.lean ====
section
/-! DEFINITION. The event codes of R481 and of the chapters, each with its severity (R480). -/

namespace Sys2Proof.Machine

/-- An event code with its severity (R479, R480). -/
structure EvKind where
  code : Nat
  sev : Nat
  deriving DecidableEq, Repr

namespace Ev

/-- Raised by R126. -/
def PORT_UP : EvKind := ⟨0x0101, 0⟩
/-- Raised by R127. -/
def PORT_DOWN : EvKind := ⟨0x0102, 3⟩
/-- Raised by R126, R132. -/
def LANE_DEGRADED : EvKind := ⟨0x0103, 2⟩
/-- Raised by R133. -/
def LANE_RESTORED : EvKind := ⟨0x0104, 0⟩
/-- Raised by R134. -/
def LANE_RETRAIN : EvKind := ⟨0x0105, 1⟩
/-- Raised by R134. -/
def LANE_MARGIN_LOW : EvKind := ⟨0x0106, 2⟩
/-- Raised by R124. -/
def BRINGUP_TIMEOUT : EvKind := ⟨0x0107, 1⟩
/-- Raised by R116. -/
def TXEQ_REJECTED : EvKind := ⟨0x0108, 1⟩
/-- Raised by R154. -/
def LINK_REPLAY : EvKind := ⟨0x0109, 1⟩
/-- Raised by R155. -/
def REPLAY_STALL : EvKind := ⟨0x010A, 2⟩
/-- Raised by R158. -/
def PKT_MALFORMED : EvKind := ⟨0x010B, 2⟩
/-- Raised by R152. -/
def CREDIT_OVERFLOW : EvKind := ⟨0x010C, 3⟩
/-- Raised by R159. -/
def HOST_READ_TIMEOUT : EvKind := ⟨0x010D, 2⟩
/-- Raised by R145. -/
def HOST_READ_ERROR : EvKind := ⟨0x010E, 2⟩
/-- Raised by R158. -/
def CPL_UNEXPECTED : EvKind := ⟨0x010F, 2⟩
/-- Raised by Successful enable. -/
def CTX_ENABLED : EvKind := ⟨0x0201, 0⟩
/-- Raised by R195. -/
def CTX_DISABLED : EvKind := ⟨0x0202, 0⟩
/-- Raised by R168. -/
def RING_CFG_INVALID : EvKind := ⟨0x0203, 2⟩
/-- Raised by R176. -/
def DESC_REJECTED : EvKind := ⟨0x0204, 1⟩
/-- Raised by R176. -/
def DESC_ALIVE : EvKind := ⟨0x0205, 2⟩
/-- Raised by R171. -/
def RING_INDEX_INVALID : EvKind := ⟨0x0206, 2⟩
/-- Raised by R194. -/
def EVT_RING_OVERFLOW : EvKind := ⟨0x0207, 1⟩
/-- Raised by R198. -/
def FAILOVER : EvKind := ⟨0x0208, 2⟩
/-- Raised by R199. -/
def FAILBACK : EvKind := ⟨0x0209, 0⟩
/-- Raised by R165. -/
def LAYER_RIGHTS_CONFLICT : EvKind := ⟨0x020A, 1⟩
/-- Raised by R197. -/
def PAIR_INVALID : EvKind := ⟨0x020B, 2⟩
/-- Raised by R207. -/
def HANDLE_EVICTED : EvKind := ⟨0x0301, 0⟩
/-- Raised by R210. -/
def POOL_SHRUNK : EvKind := ⟨0x0302, 2⟩
/-- Raised by R216. -/
def CLIP_END : EvKind := ⟨0x0303, 0⟩
/-- Raised by R222. -/
def BAND_CHECK_MISMATCH : EvKind := ⟨0x0304, 2⟩
/-- Raised by R222, R223. -/
def BAND_CHECK_UNRESOLVED : EvKind := ⟨0x0305, 3⟩
/-- Raised by R35, R223, R224. -/
def BE_RETIRED : EvKind := ⟨0x0306, 2⟩
/-- Raised by R30. -/
def COMPOSE_OVERRUN : EvKind := ⟨0x0307, 2⟩
/-- Raised by R225. -/
def ECC_CORRECTED : EvKind := ⟨0x0308, 0⟩
/-- Raised by R226. -/
def ROW_MAPPED_OUT : EvKind := ⟨0x0309, 1⟩
/-- Raised by R227. -/
def ROW_MAP_FAILED : EvKind := ⟨0x030A, 3⟩
/-- Raised by R228. -/
def ECC_UNCORRECTABLE : EvKind := ⟨0x030B, 3⟩
/-- Raised by R250. -/
def LAYER_LATE : EvKind := ⟨0x0401, 1⟩
/-- Raised by R251. -/
def LAYER_STALE : EvKind := ⟨0x0402, 2⟩
/-- Raised by R252. -/
def LAYER_RESUMED : EvKind := ⟨0x0403, 0⟩
/-- Raised by R178, once per failed load. -/
def CHECK_FAIL : EvKind := ⟨0x0404, 2⟩
/-- Raised by R243. -/
def LAYER_GEOMETRY_INVALID : EvKind := ⟨0x0405, 2⟩
/-- Raised by R269. -/
def RAMP_EXTENDED : EvKind := ⟨0x0501, 0⟩
/-- Raised by R278. -/
def TABLE_SWAPPED : EvKind := ⟨0x0502, 0⟩
/-- Raised by R279. -/
def CALMAT_RESET : EvKind := ⟨0x0503, 1⟩
/-- Raised by R280. -/
def TABLE_RESTORE_FAIL : EvKind := ⟨0x0504, 2⟩
/-- Raised by R292. -/
def SOB : EvKind := ⟨0x0601, 0⟩
/-- Raised by R292. -/
def LMATCH : EvKind := ⟨0x0602, 0⟩
/-- Raised by R292. -/
def FDONE : EvKind := ⟨0x0603, 0⟩
/-- Raised by R291. -/
def UNDERRUN : EvKind := ⟨0x0604, 2⟩
/-- Raised by R294. -/
def GENLOCK_LOST : EvKind := ⟨0x0605, 2⟩
/-- Raised by R294. -/
def GENLOCK_ACQUIRED : EvKind := ⟨0x0606, 0⟩
/-- Raised by R297. -/
def DISPLAY_FROZEN : EvKind := ⟨0x0607, 3⟩
/-- Raised by R297. -/
def DISPLAY_THAWED : EvKind := ⟨0x0608, 0⟩
/-- Raised by R299. -/
def TIMING_COMMITTED : EvKind := ⟨0x0609, 0⟩
/-- Raised by R299. -/
def TIMING_REFUSED : EvKind := ⟨0x060A, 2⟩
/-- Raised by R74. -/
def SCAN_PLL_UNLOCK : EvKind := ⟨0x060B, 3⟩
/-- Raised by R324. -/
def CHAIN_READBACK_MISMATCH : EvKind := ⟨0x0701, 1⟩
/-- Raised by R325. -/
def CHAIN_BROKEN : EvKind := ⟨0x0702, 3⟩
/-- Raised by R325. -/
def CHAIN_RESTORED : EvKind := ⟨0x0703, 0⟩
/-- Raised by R327. -/
def CHAIN_LINE_CRC : EvKind := ⟨0x0704, 2⟩
/-- Raised by R323. -/
def CHAIN_TRAIN_FAIL : EvKind := ⟨0x0705, 3⟩
/-- Raised by R327. -/
def DRIVER_CFG_ERROR : EvKind := ⟨0x0706, 2⟩
/-- Raised by R326. -/
def CHAIN_STATUS_STARVED : EvKind := ⟨0x0707, 1⟩
/-- Raised by R329. -/
def CHANNEL_MAP_INVALID : EvKind := ⟨0x0708, 1⟩
/-- Raised by R349, emitter subjects. -/
def EMITTER_FAULT : EvKind := ⟨0x0709, 1⟩
/-- Raised by R349. -/
def FAULT_CLEARED : EvKind := ⟨0x070A, 0⟩
/-- Raised by R349, pin pairs. -/
def NEIGHBOUR_SHORT : EvKind := ⟨0x070B, 2⟩
/-- Raised by R349, rows. -/
def ROW_STUCK_OFF : EvKind := ⟨0x070C, 2⟩
/-- Raised by R349, sectors. -/
def ROW_STUCK_ON : EvKind := ⟨0x070D, 3⟩
/-- Raised by R349, drivers. -/
def DRIVER_FAULT : EvKind := ⟨0x070E, 3⟩
/-- Raised by R350. -/
def DRIVER_OVERTEMP : EvKind := ⟨0x070F, 2⟩
/-- Raised by R347. -/
def DIAG_COVERAGE_LATE : EvKind := ⟨0x0710, 1⟩
/-- Raised by R353. -/
def FAULT_LIST_FULL : EvKind := ⟨0x0711, 2⟩
/-- Raised by R355. -/
def FAULTMAP_RESTORE_FAIL : EvKind := ⟨0x0712, 2⟩
/-- Raised by R357. -/
def CONCEAL_HIGH : EvKind := ⟨0x0713, 2⟩
/-- Raised by R349, pins. -/
def COLUMN_LEAK : EvKind := ⟨0x0714, 2⟩
/-- Raised by R371. -/
def PATINA_RESTORED : EvKind := ⟨0x0801, 0⟩
/-- Raised by R371. -/
def PATINA_RESTORE_FAIL : EvKind := ⟨0x0802, 2⟩
/-- Raised by R371. -/
def PATINA_BOARD_NEW : EvKind := ⟨0x0803, 1⟩
/-- Raised by R371. -/
def PATINA_SNAP_HELD : EvKind := ⟨0x0804, 2⟩
/-- Raised by R370. -/
def PATINA_SNAPSHOT : EvKind := ⟨0x0805, 0⟩
/-- Raised by R369. -/
def PATINA_EXHAUSTED : EvKind := ⟨0x0806, 2⟩
/-- Raised by R365. -/
def PATINA_NO_TEMP : EvKind := ⟨0x0807, 1⟩
/-- Raised by R372. -/
def PATINA_DOSE_REPAIRED : EvKind := ⟨0x0808, 1⟩
/-- Raised by R368. -/
def PATINA_TARGET_LOWERED : EvKind := ⟨0x0809, 1⟩
/-- Raised by R380. -/
def GOVERNOR_ACTIVE : EvKind := ⟨0x0901, 1⟩
/-- Raised by R380. -/
def GOVERNOR_RELEASED : EvKind := ⟨0x0902, 0⟩
/-- Raised by R381. -/
def PWR_NOT_GOOD : EvKind := ⟨0x0903, 2⟩
/-- Raised by R381. -/
def PWR_GOOD_RESTORED : EvKind := ⟨0x0904, 0⟩
/-- Raised by R402. -/
def CELL_OV : EvKind := ⟨0x0A01, 4⟩
/-- Raised by R402. -/
def CELL_UV : EvKind := ⟨0x0A02, 4⟩
/-- Raised by R402, including temperature lost. -/
def CELL_OT : EvKind := ⟨0x0A03, 4⟩
/-- Raised by R402. -/
def CELL_PROT_CLEARED : EvKind := ⟨0x0A04, 0⟩
/-- Raised by R404. -/
def CELL_CHANNEL_FAIL : EvKind := ⟨0x0A05, 3⟩
/-- Raised by R394. -/
def CELL_REF_FAULT : EvKind := ⟨0x0A06, 3⟩
/-- Raised by R395. -/
def STACK_MISMATCH : EvKind := ⟨0x0A07, 3⟩
/-- Raised by R396. -/
def CELL_TSENSOR_FAIL : EvKind := ⟨0x0A08, 2⟩
/-- Raised by R396. -/
def CELL_TEMP_LOST : EvKind := ⟨0x0A09, 3⟩
/-- Raised by R398. -/
def BAL_EXPIRED : EvKind := ⟨0x0A0A, 1⟩
/-- Raised by R413. -/
def CHAIN_ENUMERATED : EvKind := ⟨0x0B01, 0⟩
/-- Raised by R412, R414. -/
def CHAIN_ADDR_FAULT : EvKind := ⟨0x0B02, 3⟩
/-- Raised by R418. -/
def CHAIN_CFG_MISMATCH : EvKind := ⟨0x0B03, 2⟩
/-- Raised by R422. -/
def CHAIN_BREAK : EvKind := ⟨0x0B04, 2⟩
/-- Raised by R423. -/
def SWEEP_SPLIT : EvKind := ⟨0x0B05, 1⟩
/-- Raised by R425. -/
def HBD_ORPHAN : EvKind := ⟨0x0B06, 4⟩
/-- Raised by R426. -/
def SEGMENT_UNMONITORED : EvKind := ⟨0x0B07, 3⟩
/-- Raised by R427. -/
def STRING_OPEN : EvKind := ⟨0x0B08, 4⟩
/-- Raised by R427. -/
def STRING_RELEASED : EvKind := ⟨0x0B09, 0⟩
/-- Raised by R419. -/
def CHAIN_CORRECTION : EvKind := ⟨0x0B0A, 1⟩
/-- Raised by R417. -/
def CHAIN_VERSION : EvKind := ⟨0x0B0B, 1⟩
/-- Raised by R410, at most once per second. -/
def HBD_ALIVE : EvKind := ⟨0x0B0C, 1⟩
/-- Raised by R84. -/
def HBD_ADDR_CHANGED : EvKind := ⟨0x0B0D, 2⟩
/-- Raised by R432, light function. -/
def SAF_DEMAND : EvKind := ⟨0x0C01, 4⟩
/-- Raised by R432, R443. -/
def SAF_SEG_DEMAND : EvKind := ⟨0x0C02, 4⟩
/-- Raised by R439. -/
def SAF_DISCREPANCY : EvKind := ⟨0x0C03, 4⟩
/-- Raised by R440. -/
def SAF_CHATTER : EvKind := ⟨0x0C04, 4⟩
/-- Raised by R444. -/
def SAF_FEEDBACK : EvKind := ⟨0x0C05, 4⟩
/-- Raised by R444. -/
def SAF_FB_CLOSE : EvKind := ⟨0x0C06, 3⟩
/-- Raised by R445. -/
def SAF_OUTPUT_FAULT : EvKind := ⟨0x0C07, 4⟩
/-- Raised by R21, R436. -/
def SAF_CORE_MISMATCH : EvKind := ⟨0x0C08, 4⟩
/-- Raised by R22. -/
def SAF_CLOCK_FAULT : EvKind := ⟨0x0C09, 4⟩
/-- Raised by R446. -/
def SAF_TEST_ABANDONED : EvKind := ⟨0x0C0A, 1⟩
/-- Raised by R448. -/
def SAF_RELEASED : EvKind := ⟨0x0C0B, 0⟩
/-- Raised by R447. -/
def SAF_RESET_REFUSED : EvKind := ⟨0x0C0C, 1⟩
/-- Raised by R451. -/
def SAF_LOCKED : EvKind := ⟨0x0C0D, 0⟩
/-- Raised by R451. -/
def SAF_LOCK_REFUSED : EvKind := ⟨0x0C0E, 2⟩
/-- Raised by R459. -/
def THM_SENSOR_FAIL : EvKind := ⟨0x0D01, 2⟩
/-- Raised by R459. -/
def THM_SENSOR_RECOVERED : EvKind := ⟨0x0D02, 0⟩
/-- `THM_LEVEL` of a rising level (R462, R468). -/
def THM_LEVEL_RISING : EvKind := ⟨0x0D03, 1⟩
/-- `THM_LEVEL` of a falling level (R462, R468). -/
def THM_LEVEL_FALLING : EvKind := ⟨0x0D03, 0⟩
/-- Raised by R464. -/
def THERMAL_STOP : EvKind := ⟨0x0D04, 3⟩
/-- Raised by R465. -/
def THERMAL_RESUMED : EvKind := ⟨0x0D05, 0⟩
/-- Raised by R466. -/
def THERMAL_HARD_CUT : EvKind := ⟨0x0D06, 4⟩
/-- Raised by R94. -/
def REG_WRITE_DENIED : EvKind := ⟨0x0F01, 1⟩
/-- Raised by R96, R564. -/
def REG_WRITE_DROPPED : EvKind := ⟨0x0F02, 1⟩
/-- Raised by R106, R451. -/
def REG_WRITE_LOCKED : EvKind := ⟨0x0F03, 1⟩
/-- Raised by R20. -/
def DOCENT_LOCKSTEP : EvKind := ⟨0x1001, 3⟩
/-- Raised by R38. -/
def AFE_LINK_LOST : EvKind := ⟨0x1002, 4⟩
/-- Raised by R62, R83. -/
def VIOC_FAULT : EvKind := ⟨0x1003, 3⟩
/-- Raised by R62. -/
def VDDA_FAULT : EvKind := ⟨0x1004, 3⟩
/-- Raised by R72. -/
def REFCLK_LOST : EvKind := ⟨0x1005, 3⟩
/-- Raised by R67. -/
def AON_RECORD_LOST : EvKind := ⟨0x1006, 3⟩
/-- Raised by R82. -/
def LEGACY_UNSTABLE : EvKind := ⟨0x1007, 2⟩
/-- Raised by Reset release (R483). -/
def SYSTEM_START : EvKind := ⟨0x1008, 0⟩
/-- Raised by R493. -/
def RGS_LOST : EvKind := ⟨0x1041, 2⟩
/-- Raised by R494. -/
def RGS_STOPPED : EvKind := ⟨0x1042, 3⟩
/-- Raised by R496. -/
def RGS_CLEARED : EvKind := ⟨0x1043, 1⟩
/-- Raised by R499, R500. -/
def CAL_LANE_DONE : EvKind := ⟨0x0E01, 0⟩
/-- Raised by R504. -/
def CAL_LANE_REJECT : EvKind := ⟨0x0E02, 2⟩
/-- Raised by R502. -/
def CAL_CELL_DONE : EvKind := ⟨0x0E03, 0⟩
/-- Raised by R504. -/
def CAL_CELL_REJECT : EvKind := ⟨0x0E04, 2⟩
/-- Raised by R505. -/
def CAL_RESTORE_FAIL : EvKind := ⟨0x0E05, 2⟩
/-- Raised by R506. -/
def CAL_ACCESS_OPENED : EvKind := ⟨0x0E06, 1⟩
/-- Raised by R507. -/
def CAL_COEF_WRITTEN : EvKind := ⟨0x0E07, 1⟩
/-- Raised by R512. -/
def HANDLING_SATURATED : EvKind := ⟨0x1010, 2⟩
/-- Raised by R515. -/
def FW_IMAGE_LOADED : EvKind := ⟨0x1011, 0⟩
/-- Raised by R515. -/
def FW_VERIFY_FAIL : EvKind := ⟨0x1012, 2⟩
/-- Raised by R516. -/
def FW_SWITCHED : EvKind := ⟨0x1013, 1⟩
/-- Raised by R517. -/
def FW_CONFIRMED : EvKind := ⟨0x1014, 0⟩
/-- Raised by R517. -/
def FW_FALLBACK : EvKind := ⟨0x1015, 3⟩
/-- Raised by R522. -/
def SERVICE_RELOAD : EvKind := ⟨0x1016, 1⟩
/-- Raised by R529. -/
def COMMIT_VISIBLE : EvKind := ⟨0x1020, 1⟩
/-- Raised by R532. -/
def START_COMPLETE : EvKind := ⟨0x1021, 0⟩
/-- Raised by R541. -/
def FUSE_BLOWN : EvKind := ⟨0x1030, 1⟩
/-- Raised by R541. -/
def FUSE_REFUSED : EvKind := ⟨0x1031, 2⟩
/-- Raised by R539. -/
def FUSE_ECC : EvKind := ⟨0x1032, 3⟩
/-- Raised by R542. -/
def BOOT_VERIFY_FAIL : EvKind := ⟨0x1033, 3⟩

end Ev

end Sys2Proof.Machine
end

