-- ==== Sys2Proof/Machine/RegMap.lean ====
section
/-! DEFINITION. The register map: the 22 windows of R109 and, for every register that a chapter lays out, its
offset, its class (R13), whether narrow writes are honoured, the bits a plain write stores and their reset
values, as the register tables of the chapters give them. -/

namespace Sys2Proof.Machine

/-- One register of a window (R13): its offset within the instance, its class, whether its introducing line
carries B, the bits that a write stores and what those bits hold after reset. -/
structure RegRow where
  off : Nat
  cls : RegClass
  narrow : Bool
  stored : Nat
  reset : Nat
  deriving DecidableEq, Repr

/-- One window of R109: base address, number of instances, size of an instance, its registers. -/
structure Window where
  base : Nat
  count : Nat
  size : Nat
  rows : List RegRow
  deriving DecidableEq, Repr

/-! The native addresses of the registers; an instanced window gives those of instance 0. -/

namespace Reg

def GLB_ID : Nat := 0x0
def GLB_REV : Nat := 0x4
def GLB_SERIAL0 : Nat := 0x8
def GLB_SERIAL1 : Nat := 0xC
def GLB_RST_CAUSE : Nat := 0x40
def GLB_RST_CTL : Nat := 0x44
def GLB_MODE : Nat := 0x48
def GLB_CLK_STAT : Nat := 0x4C
def GLB_OPSEC : Nat := 0x50
def GLB_PWRCYC : Nat := 0x54
def GLB_HANDLE_STAT : Nat := 0x80
def GLB_PEND_LO : Nat := 0x84
def GLB_PEND_HI : Nat := 0x88
def GLB_DEGRADED : Nat := 0x8C
def GLB_FW_STAT : Nat := 0x90
def GLB_FW_CTL : Nat := 0x94
def GLB_FW_CMD : Nat := 0x98
def GLB_FW_INDEX : Nat := 0x9C
def GLB_FW_DATA : Nat := 0xA0
def GLB_SVC_CMD : Nat := 0xA4
def GLB_CMT_CTL : Nat := 0xB0
def GLB_CMT_STAT : Nat := 0xB4
def RAC_STATUS : Nat := 0x2000
def RAC_PBUSY : Nat := 0x2004
def RAC_LOCK : Nat := 0x2008
def RAC_OWNER : Nat := 0x200C
def RAC_QDATA : Nat := 0x2010
def RAC_QCTL : Nat := 0x2014
def YZL_PORT_CTL : Nat := 0x10000
def YZL_PORT_STAT : Nat := 0x10004
def YZL_FAIL_CTL : Nat := 0x10008
def YZL_PORT_CMD : Nat := 0x1000C
def YZL_TXEQ0 : Nat := 0x10010
def YZL_TXEQ1 : Nat := 0x10014
def YZL_RXEQ0 : Nat := 0x10018
def YZL_RXEQ1 : Nat := 0x1001C
def YZL_DFE0 : Nat := 0x10020
def YZL_DFE1 : Nat := 0x10024
def YZL_MARGIN_MIN : Nat := 0x10028
def YZL_EYE0 : Nat := 0x1002C
def YZL_EYE1 : Nat := 0x10030
def YZL_LANE_ERR : Nat := 0x10040
def YZL_BIP0 : Nat := 0x10048
def YZL_BIP1 : Nat := 0x1004C
def YZL_TEST : Nat := 0x10050
def YZL_PRBS0 : Nat := 0x10054
def YZL_PRBS1 : Nat := 0x10058
def YZL_TL_CTL : Nat := 0x10060
def YZL_CREDIT_FAR : Nat := 0x10064
def YZL_CREDIT_FAR_D : Nat := 0x10068
def YZL_TL_CNT : Nat := 0x1006C
def YZL_TL_ERR : Nat := 0x10070
def HCX_CTL : Nat := 0x20000
def HCX_STAT : Nat := 0x20004
def HCX_SQ_BASE_LO : Nat := 0x20008
def HCX_SQ_BASE_HI : Nat := 0x2000C
def HCX_CQ_BASE_LO : Nat := 0x20010
def HCX_CQ_BASE_HI : Nat := 0x20014
def HCX_EQ_BASE_LO : Nat := 0x20018
def HCX_EQ_BASE_HI : Nat := 0x2001C
def HCX_DB_BASE_LO : Nat := 0x20020
def HCX_DB_BASE_HI : Nat := 0x20024
def HCX_RING_SIZE : Nat := 0x20028
def HCX_POLL : Nat := 0x2002C
def HCX_LAYERS : Nat := 0x20030
def HCX_QUOTA : Nat := 0x20034
def HCX_EVT_FILTER : Nat := 0x20038
def HCX_FO_CTL : Nat := 0x2003C
def HCX_FO_CMD : Nat := 0x20040
def HCX_IDX : Nat := 0x20044
def HCX_IDX2 : Nat := 0x20048
def HCX_ERR : Nat := 0x20050
def CUR_CTL : Nat := 0x30000
def CUR_POOL_CAP : Nat := 0x30004
def CUR_POOL_FREE : Nat := 0x30008
def CUR_CTX_USE0 : Nat := 0x30010
def CUR_CTX_USE1 : Nat := 0x30014
def CUR_CTX_USE2 : Nat := 0x30018
def CUR_CTX_USE3 : Nat := 0x3001C
def CUR_VIT_CTL : Nat := 0x30020
def CUR_VIT_STAT : Nat := 0x30024
def CUR_BE_STAT : Nat := 0x30030
def CUR_BE_CMD : Nat := 0x30034
def CUR_BAND0 : Nat := 0x30040
def CUR_BAND1 : Nat := 0x30044
def CUR_BAND2 : Nat := 0x30048
def CUR_BAND3 : Nat := 0x3004C
def CUR_BAND4 : Nat := 0x30050
def CUR_BAND5 : Nat := 0x30054
def CUR_BAND6 : Nat := 0x30058
def CUR_BAND7 : Nat := 0x3005C
def CUR_BE_CYC0 : Nat := 0x30060
def CUR_BE_CYC1 : Nat := 0x30064
def CUR_BE_CYC2 : Nat := 0x30068
def CUR_BE_CYC3 : Nat := 0x3006C
def CUR_BE_CYC4 : Nat := 0x30070
def CUR_BE_CYC5 : Nat := 0x30074
def CUR_BE_CYC6 : Nat := 0x30078
def CUR_BE_CYC7 : Nat := 0x3007C
def CUR_ERR : Nat := 0x30080
def CUR_CTX_QEFF0 : Nat := 0x30090
def CUR_CTX_QEFF1 : Nat := 0x30094
def CUR_CTX_QEFF2 : Nat := 0x30098
def CUR_CTX_QEFF3 : Nat := 0x3009C
def CUR_ECC_CTL : Nat := 0x38000
def CUR_ECC_CNT : Nat := 0x38004
def CUR_ECC_LAST : Nat := 0x38008
def CUR_ROWMAP : Nat := 0x3800C
def LAY_CTL : Nat := 0x40000
def LAY_STAT : Nat := 0x40004
def LAY_HANDLE : Nat := 0x40008
def LAY_DST_POS : Nat := 0x4000C
def LAY_DST_SIZE : Nat := 0x40010
def LAY_SRC_POS : Nat := 0x40014
def LAY_SRC_SIZE : Nat := 0x40018
def LAY_MIX : Nat := 0x4001C
def LAY_KEY_C0 : Nat := 0x40020
def LAY_KEY_C1 : Nat := 0x40024
def LAY_KEY_C2 : Nat := 0x40028
def LAY_HOLD_LIMIT : Nat := 0x4002C
def PIX_CTL : Nat := 0x50000
def PIX_LUM : Nat := 0x50004
def PIX_HLG : Nat := 0x50008
def PIX_BRIGHT : Nat := 0x5000C
def PIX_RAMP : Nat := 0x50010
def PIX_SCALE : Nat := 0x50014
def PIX_DITH : Nat := 0x50018
def PIX_OLUT_CTL : Nat := 0x5001C
def PIX_CONCEAL : Nat := 0x50020
def PIX_TBL_STAT : Nat := 0x50024
def PIX_TBL_CTL : Nat := 0x50028
def PIX_TBL_INDEX : Nat := 0x5002C
def PIX_TBL_DATA : Nat := 0x50030
def PIX_TBL_CMD : Nat := 0x50034
def PIX_CONC_CNT : Nat := 0x50038
def PIX_CLIP_CNT : Nat := 0x5003C
def PIX_ERR : Nat := 0x50040
def PIX_GEOM : Nat := 0x50044
def PIX_GEOM_ACT : Nat := 0x50048
def SCN_COMMIT : Nat := 0x60000
def SCN_STAT : Nat := 0x60004
def SCN_FRAME_LO : Nat := 0x60008
def SCN_FRAME_HI : Nat := 0x6000C
def SCN_CLK_SRC : Nat := 0x60010
def SCN_GLK_CTL : Nat := 0x60014
def SCN_GLK_PER : Nat := 0x60018
def SCN_GLK_STAT : Nat := 0x6001C
def SCN_EVT_EN : Nat := 0x60020
def SCN_LMATCH : Nat := 0x60024
def SCN_FREEZE : Nat := 0x60028
def SCN_GATE : Nat := 0x6002C
def SCN_ERR : Nat := 0x60030
def SCN_UNDERRUN_CNT : Nat := 0x60034
def SCN_FBI : Nat := 0x60038
def SCN_SH_FPER : Nat := 0x60100
def SCN_SH_GCK : Nat := 0x60104
def SCN_SH_MODE : Nat := 0x60108
def SCN_SH_FBIMIN : Nat := 0x6010C
def SCN_SH_PHASE : Nat := 0x60110
def CCH_EN : Nat := 0x70000
def CCH_GEOM : Nat := 0x70004
def CCH_DCK : Nat := 0x70008
def CCH_ROW : Nat := 0x7000C
def CCH_CFG_INDEX : Nat := 0x70010
def CCH_CFG_DATA : Nat := 0x70014
def CCH_STAT_CTL : Nat := 0x70018
def CCH_U : Nat := 0x7001C
def CCH_BROKEN : Nat := 0x70020
def CCH_RB_LAST : Nat := 0x70024
def CCH_CQ_PH0 : Nat := 0x70030
def CCH_CQ_PH1 : Nat := 0x70034
def CCH_CQ_PH2 : Nat := 0x70038
def CCH_CQ_PH3 : Nat := 0x7003C
def CCH_ERR : Nat := 0x70040
def CCH_DST_INDEX : Nat := 0x70050
def CCH_DST_DATA : Nat := 0x70054
def DIA_CTL : Nat := 0x80000
def DIA_DECIDE : Nat := 0x80004
def DIA_STAT : Nat := 0x80008
def DIA_COVER : Nat := 0x8000C
def DIA_COUNT : Nat := 0x80010
def DIA_SUSPECT : Nat := 0x80014
def DIA_OT : Nat := 0x80018
def DIA_CMD : Nat := 0x8001C
def DIA_MAP_INDEX : Nat := 0x80020
def DIA_MAP_DATA : Nat := 0x80024
def DIA_FLT_INDEX : Nat := 0x80028
def DIA_FLT_DATA : Nat := 0x8002C
def DIA_FLT_CNT : Nat := 0x80030
def DIA_ERR : Nat := 0x80040
def PAT_CTL : Nat := 0x90000
def PAT_AGE : Nat := 0x90004
def PAT_HEADROOM : Nat := 0x90008
def PAT_GAIN_CTL : Nat := 0x9000C
def PAT_MTGT0 : Nat := 0x90010
def PAT_MTGT1 : Nat := 0x90014
def PAT_MTGT2 : Nat := 0x90018
def PAT_FOLLOW : Nat := 0x9001C
def PAT_TGT_ACT01 : Nat := 0x90020
def PAT_TGT_ACT2 : Nat := 0x90024
def PAT_LT_POS0 : Nat := 0x90028
def PAT_LT_POS1 : Nat := 0x9002C
def PAT_LT_POS2 : Nat := 0x90030
def PAT_LT_POS3 : Nat := 0x90034
def PAT_SNAP : Nat := 0x90038
def PAT_SNAP_TIME : Nat := 0x9003C
def PAT_BOARD_ID : Nat := 0x90040
def PAT_CMD : Nat := 0x90044
def PAT_ZERO_POS : Nat := 0x90048
def PAT_ZERO_SIZE : Nat := 0x9004C
def PAT_EXHAUST : Nat := 0x90050
def PAT_DOSE_INDEX : Nat := 0x90054
def PAT_DOSE_DATA : Nat := 0x90058
def PAT_CURVE_INDEX : Nat := 0x9005C
def PAT_CURVE_DATA : Nat := 0x90060
def PAT_ERR : Nat := 0x90064
def FEN_CTL : Nat := 0xA0000
def FEN_IFS01 : Nat := 0xA0004
def FEN_IFS2 : Nat := 0xA0008
def FEN_VLED : Nat := 0xA000C
def FEN_PSTATIC : Nat := 0xA0010
def FEN_PLIM : Nat := 0xA0014
def FEN_FF_CTL : Nat := 0xA0018
def FEN_EFF : Nat := 0xA001C
def FEN_Q : Nat := 0xA0020
def FEN_E : Nat := 0xA0024
def FEN_GOV : Nat := 0xA0028
def FEN_STAT : Nat := 0xA002C
def FEN_ERR : Nat := 0xA0040
def CVU_CTL : Nat := 0xB0000
def CVU_POLY : Nat := 0xB0004
def CVU_INIT : Nat := 0xB0008
def CVU_XOROUT : Nat := 0xB000C
def CVU_DATA : Nat := 0xB0010
def CVU_RUN : Nat := 0xB0014
def CVU_RESULT : Nat := 0xB0018
def CVU_EXPECT : Nat := 0xB001C
def CVU_CMD : Nat := 0xB0020
def CVU_ALIVE : Nat := 0xB0024
def CVU_STAT : Nat := 0xB0028
def CVU_ERR : Nat := 0xB002C
def EVT_SEQ : Nat := 0xC0000
def EVT_MQ_CTL : Nat := 0xC0004
def EVT_MQ_STAT : Nat := 0xC0008
def EVT_MQ_W0 : Nat := 0xC0010
def EVT_MQ_W1 : Nat := 0xC0014
def EVT_MQ_W2 : Nat := 0xC0018
def EVT_MQ_W3 : Nat := 0xC001C
def EVT_MQ_W4 : Nat := 0xC0020
def EVT_MQ_W5 : Nat := 0xC0024
def EVT_MQ_W6 : Nat := 0xC0028
def EVT_MQ_W7 : Nat := 0xC002C
def EVT_MQ_CMD : Nat := 0xC0030
def EVT_IRQ_CTL : Nat := 0xC0034
def EVT_FAULT_CTL : Nat := 0xC0038
def EVT_FAULT_CMD : Nat := 0xC003C
def EVT_ERR : Nat := 0xC0040
def RGS_CTL : Nat := 0xD0000
def RGS_STAT : Nat := 0xD0004
def RGS_RECNO : Nat := 0xD0008
def RGS_LOST_TOTAL : Nat := 0xD000C
def RGS_RD_INDEX : Nat := 0xD0010
def RGS_RD_DATA : Nat := 0xD0014
def RGS_CMD : Nat := 0xD0018
def THM_CTL : Nat := 0xE0000
def THM_EN : Nat := 0xE0004
def THM_STAT : Nat := 0xE0008
def THM_LT0 : Nat := 0xE0010
def THM_LT1 : Nat := 0xE0014
def THM_LT2 : Nat := 0xE0018
def THM_LT3 : Nat := 0xE001C
def THM_LT4 : Nat := 0xE0020
def THM_LT5 : Nat := 0xE0024
def THM_LT6 : Nat := 0xE0028
def THM_LT7 : Nat := 0xE002C
def THM_EFF0 : Nat := 0xE0030
def THM_EFF1 : Nat := 0xE0034
def THM_EFF2 : Nat := 0xE0038
def THM_EFF3 : Nat := 0xE003C
def THM_DIE0 : Nat := 0xE0040
def THM_DIE1 : Nat := 0xE0044
def THM_DIE2 : Nat := 0xE0048
def THM_DIE3 : Nat := 0xE004C
def THM_NBR0 : Nat := 0xE0050
def THM_NBR1 : Nat := 0xE0054
def THM_NBR2 : Nat := 0xE0058
def THM_NBR3 : Nat := 0xE005C
def THM_FAIL_MARGIN : Nat := 0xE0060
def THM_LIM_LAMP : Nat := 0xE0064
def THM_LIM_DIE : Nat := 0xE0068
def THM_LIM_STOP : Nat := 0xE006C
def THM_CMD : Nat := 0xE0070
def THM_ERR : Nat := 0xE0080
def CEL_CTL : Nat := 0xF0000
def CEL_STAT : Nat := 0xF0004
def CEL_EPOCH : Nat := 0xF0008
def CEL_V1 : Nat := 0xF0010
def CEL_V2 : Nat := 0xF0014
def CEL_V3 : Nat := 0xF0018
def CEL_V4 : Nat := 0xF001C
def CEL_V5 : Nat := 0xF0020
def CEL_V6 : Nat := 0xF0024
def CEL_V7 : Nat := 0xF0028
def CEL_V8 : Nat := 0xF002C
def CEL_V9 : Nat := 0xF0030
def CEL_V10 : Nat := 0xF0034
def CEL_V11 : Nat := 0xF0038
def CEL_V12 : Nat := 0xF003C
def CEL_VSUM : Nat := 0xF0040
def CEL_I : Nat := 0xF0044
def CEL_SV1 : Nat := 0xF0048
def CEL_SV2 : Nat := 0xF004C
def CEL_SV3 : Nat := 0xF0050
def CEL_SV4 : Nat := 0xF0054
def CEL_SV5 : Nat := 0xF0058
def CEL_SV6 : Nat := 0xF005C
def CEL_SV7 : Nat := 0xF0060
def CEL_SV8 : Nat := 0xF0064
def CEL_SV9 : Nat := 0xF0068
def CEL_SV10 : Nat := 0xF006C
def CEL_SV11 : Nat := 0xF0070
def CEL_SV12 : Nat := 0xF0074
def CEL_SSTK : Nat := 0xF0078
def CEL_SREF : Nat := 0xF007C
def CEL_T1 : Nat := 0xF0080
def CEL_T2 : Nat := 0xF0084
def CEL_T3 : Nat := 0xF0088
def CEL_T4 : Nat := 0xF008C
def CEL_COUL_LO : Nat := 0xF0090
def CEL_COUL_HI : Nat := 0xF0094
def CEL_DCHG_LO : Nat := 0xF0098
def CEL_DCHG_HI : Nat := 0xF009C
def CEL_SHUNT : Nat := 0xF00A0
def CEL_RES : Nat := 0xF00A4
def CEL_BAL_CTL : Nat := 0xF00A8
def CEL_BAL_REQ : Nat := 0xF00AC
def CEL_BAL_ACT : Nat := 0xF00B0
def CEL_PROT_V : Nat := 0xF00B4
def CEL_PROT_T : Nat := 0xF00B8
def CEL_PROT_STAT : Nat := 0xF00BC
def CEL_PROT_CMD : Nat := 0xF00C0
def CEL_PROT_LOCK : Nat := 0xF00C4
def CEL_XCAL_CTL : Nat := 0xF00C8
def CEL_XCAL_D1 : Nat := 0xF00D0
def CEL_XCAL_D2 : Nat := 0xF00D4
def CEL_XCAL_D3 : Nat := 0xF00D8
def CEL_XCAL_D4 : Nat := 0xF00DC
def CEL_XCAL_D5 : Nat := 0xF00E0
def CEL_XCAL_D6 : Nat := 0xF00E4
def CEL_XCAL_D7 : Nat := 0xF00E8
def CEL_XCAL_D8 : Nat := 0xF00EC
def CEL_XCAL_D9 : Nat := 0xF00F0
def CEL_XCAL_D10 : Nat := 0xF00F4
def CEL_XCAL_D11 : Nat := 0xF00F8
def CEL_XCAL_D12 : Nat := 0xF00FC
def CEL_ERR : Nat := 0xF0100
def HBD_CTL : Nat := 0x100000
def HBD_ADDR : Nat := 0x100004
def HBD_STAT : Nat := 0x100008
def HBD_SWEEP : Nat := 0x10000C
def HBD_STRING : Nat := 0x100010
def HBD_UNMON_TMO : Nat := 0x100014
def HBD_STR_CMD : Nat := 0x100018
def HBD_SWEEPNO : Nat := 0x10001C
def HBD_SWP_RES : Nat := 0x100020
def HBD_TCORR : Nat := 0x100024
def HBD_DIGEST : Nat := 0x100028
def HBD_XFER_CTL : Nat := 0x10002C
def HBD_XFER : Nat := 0x100030
def HBD_MEM_INDEX : Nat := 0x100040
def HBD_MEM_DATA : Nat := 0x100044
def HBD_ERR : Nat := 0x100050
def SAF_IN_CTL : Nat := 0x110000
def SAF_TD : Nat := 0x110004
def SAF_RAMP : Nat := 0x110008
def SAF_OUT_CTL : Nat := 0x11000C
def SAF_CFG_CRC : Nat := 0x110010
def SAF_CFG_CRC_B : Nat := 0x110014
def SAF_LOCK : Nat := 0x110018
def SAF_CMD : Nat := 0x11001C
def SAF_STAT : Nat := 0x110020
def SAF_FAULT : Nat := 0x110024
def SAF_REFUSE : Nat := 0x110028
def SAF_CNT : Nat := 0x11002C
def SAF_ERR : Nat := 0x110040
def CAL_CTL : Nat := 0x120000
def CAL_LANE_CTL : Nat := 0x120004
def CAL_CELL_CTL : Nat := 0x120008
def CAL_CMD : Nat := 0x12000C
def CAL_ACCESS : Nat := 0x120010
def CAL_STAT : Nat := 0x120014
def CAL_LANE_CNT : Nat := 0x120018
def CAL_LANE_TIME : Nat := 0x12001C
def CAL_CELL_CNT : Nat := 0x120020
def CAL_CELL_TIME : Nat := 0x120024
def CAL_COEF_INDEX : Nat := 0x120030
def CAL_COEF_DATA : Nat := 0x120034
def CAL_ERR : Nat := 0x120040
def SEC_LIFE : Nat := 0x130000
def SEC_KEYHASH0 : Nat := 0x130010
def SEC_KEYHASH1 : Nat := 0x130014
def SEC_KEYHASH2 : Nat := 0x130018
def SEC_KEYHASH3 : Nat := 0x13001C
def SEC_KEYHASH4 : Nat := 0x130020
def SEC_KEYHASH5 : Nat := 0x130024
def SEC_KEYHASH6 : Nat := 0x130028
def SEC_KEYHASH7 : Nat := 0x13002C
def SEC_ROLLBACK : Nat := 0x130030
def SEC_PROG_INDEX : Nat := 0x130040
def SEC_PROG_DATA : Nat := 0x130044
def SEC_FUSE_CMD : Nat := 0x130048
def SEC_FUSE_STAT : Nat := 0x13004C

end Reg

/-- Registers of the GLB window. -/
def rowsGLB : List RegRow := [
  ⟨0x0, .f, false, 0x0, 0x0⟩,
  ⟨0x4, .f, false, 0x0, 0x0⟩,
  ⟨0x8, .f, false, 0x0, 0x0⟩,
  ⟨0xC, .f, false, 0x0, 0x0⟩,
  ⟨0x40, .c, false, 0x0, 0x0⟩,
  ⟨0x44, .m, false, 0x0, 0x0⟩,
  ⟨0x48, .f, false, 0x0, 0x0⟩,
  ⟨0x4C, .f, false, 0x0, 0x0⟩,
  ⟨0x50, .f, false, 0x0, 0x0⟩,
  ⟨0x54, .f, false, 0x0, 0x0⟩,
  ⟨0x80, .f, false, 0x0, 0x0⟩,
  ⟨0x84, .f, false, 0x0, 0x0⟩,
  ⟨0x88, .f, false, 0x0, 0x0⟩,
  ⟨0x8C, .f, false, 0x0, 0x0⟩,
  ⟨0x90, .f, false, 0x0, 0x0⟩,
  ⟨0x94, .f, false, 0xFF, 0xA⟩,
  ⟨0x98, .m, false, 0x0, 0x0⟩,
  ⟨0x9C, .f, false, 0x3FFFFF, 0x0⟩,
  ⟨0xA0, .t, false, 0x0, 0x0⟩,
  ⟨0xA4, .m, false, 0x0, 0x0⟩,
  ⟨0xB0, .f, false, 0x7, 0x4⟩,
  ⟨0xB4, .f, false, 0x0, 0x0⟩]

/-- Registers of the RAC window. -/
def rowsRAC : List RegRow := [
  ⟨0x0, .c, false, 0x0, 0x0⟩,
  ⟨0x4, .f, false, 0x0, 0x0⟩,
  ⟨0x8, .w1, false, 0x3FFFFB, 0x0⟩,
  ⟨0xC, .f, false, 0x7, 0x0⟩,
  ⟨0x10, .f, false, 0x0, 0x0⟩,
  ⟨0x14, .f, false, 0x0, 0x0⟩]

/-- Registers of the YZL window. -/
def rowsYZL : List RegRow := [
  ⟨0x0, .f, false, 0x2F, 0xF⟩,
  ⟨0x4, .f, false, 0x0, 0x0⟩,
  ⟨0x8, .f, false, 0xFFFFFF, 0xA0040⟩,
  ⟨0xC, .m, false, 0x0, 0x0⟩,
  ⟨0x10, .f, false, 0x31F7F1F, 0x10C3004⟩,
  ⟨0x14, .f, false, 0x31F7F1F, 0x10C3004⟩,
  ⟨0x18, .f, false, 0x0, 0x0⟩,
  ⟨0x1C, .f, false, 0x0, 0x0⟩,
  ⟨0x20, .f, false, 0x0, 0x0⟩,
  ⟨0x24, .f, false, 0x0, 0x0⟩,
  ⟨0x28, .f, false, 0xFFFF3F, 0xA140C⟩,
  ⟨0x2C, .f, false, 0x0, 0x0⟩,
  ⟨0x30, .f, false, 0x0, 0x0⟩,
  ⟨0x40, .c, false, 0x0, 0x0⟩,
  ⟨0x48, .f, false, 0x0, 0x0⟩,
  ⟨0x4C, .f, false, 0x0, 0x0⟩,
  ⟨0x50, .f, false, 0x37, 0x30⟩,
  ⟨0x54, .f, false, 0x0, 0x0⟩,
  ⟨0x58, .f, false, 0x0, 0x0⟩,
  ⟨0x60, .f, false, 0xFFFF01, 0xA1400⟩,
  ⟨0x64, .f, false, 0x0, 0x0⟩,
  ⟨0x68, .f, false, 0x0, 0x0⟩,
  ⟨0x6C, .f, false, 0x0, 0x0⟩,
  ⟨0x70, .c, false, 0x0, 0x0⟩]

/-- Registers of the HCX window. -/
def rowsHCX : List RegRow := [
  ⟨0x0, .f, false, 0x7D, 0x40⟩,
  ⟨0x4, .f, false, 0x0, 0x0⟩,
  ⟨0x8, .f, false, 0xFFFFFFC0, 0x0⟩,
  ⟨0xC, .f, false, 0xFFFFFFFF, 0x0⟩,
  ⟨0x10, .f, false, 0xFFFFFFC0, 0x0⟩,
  ⟨0x14, .f, false, 0xFFFFFFFF, 0x0⟩,
  ⟨0x18, .f, false, 0xFFFFFFC0, 0x0⟩,
  ⟨0x1C, .f, false, 0xFFFFFFFF, 0x0⟩,
  ⟨0x20, .f, false, 0xFFFFFFC0, 0x0⟩,
  ⟨0x24, .f, false, 0xFFFFFFFF, 0x0⟩,
  ⟨0x28, .f, false, 0x1F1F1F, 0x80808⟩,
  ⟨0x2C, .f, false, 0xFFFF, 0x64⟩,
  ⟨0x30, .f, false, 0xFFFF, 0x0⟩,
  ⟨0x34, .f, false, 0xFFFFFFFF, 0x100003C0⟩,
  ⟨0x38, .f, false, 0x7FFFF, 0x1FFFF⟩,
  ⟨0x3C, .f, false, 0x30F, 0x101⟩,
  ⟨0x40, .m, false, 0x0, 0x0⟩,
  ⟨0x44, .f, false, 0x0, 0x0⟩,
  ⟨0x48, .f, false, 0x0, 0x0⟩,
  ⟨0x50, .c, false, 0x0, 0x0⟩]

/-- Registers of the CUR window, part 0. -/
def rowsCUR0 : List RegRow := [
  ⟨0x0, .f, false, 0xF01, 0x301⟩,
  ⟨0x4, .f, false, 0x0, 0x0⟩,
  ⟨0x8, .f, false, 0x0, 0x0⟩,
  ⟨0x10, .f, false, 0x0, 0x0⟩,
  ⟨0x14, .f, false, 0x0, 0x0⟩,
  ⟨0x18, .f, false, 0x0, 0x0⟩,
  ⟨0x1C, .f, false, 0x0, 0x0⟩,
  ⟨0x20, .f, false, 0x7FF, 0x408⟩,
  ⟨0x24, .f, false, 0x0, 0x0⟩,
  ⟨0x30, .f, false, 0x0, 0x0⟩,
  ⟨0x34, .m, false, 0x0, 0x0⟩,
  ⟨0x40, .f, false, 0x0, 0x0⟩,
  ⟨0x44, .f, false, 0x0, 0x0⟩,
  ⟨0x48, .f, false, 0x0, 0x0⟩,
  ⟨0x4C, .f, false, 0x0, 0x0⟩,
  ⟨0x50, .f, false, 0x0, 0x0⟩,
  ⟨0x54, .f, false, 0x0, 0x0⟩,
  ⟨0x58, .f, false, 0x0, 0x0⟩,
  ⟨0x5C, .f, false, 0x0, 0x0⟩,
  ⟨0x60, .f, false, 0x0, 0x0⟩,
  ⟨0x64, .f, false, 0x0, 0x0⟩,
  ⟨0x68, .f, false, 0x0, 0x0⟩,
  ⟨0x6C, .f, false, 0x0, 0x0⟩,
  ⟨0x70, .f, false, 0x0, 0x0⟩]

/-- Registers of the CUR window, part 1. -/
def rowsCUR1 : List RegRow := [
  ⟨0x74, .f, false, 0x0, 0x0⟩,
  ⟨0x78, .f, false, 0x0, 0x0⟩,
  ⟨0x7C, .f, false, 0x0, 0x0⟩,
  ⟨0x80, .c, false, 0x0, 0x0⟩,
  ⟨0x90, .f, false, 0x0, 0x0⟩,
  ⟨0x94, .f, false, 0x0, 0x0⟩,
  ⟨0x98, .f, false, 0x0, 0x0⟩,
  ⟨0x9C, .f, false, 0x0, 0x0⟩,
  ⟨0x8000, .p, false, 0xFF0000FF, 0xC000004⟩,
  ⟨0x8004, .p, false, 0x0, 0x0⟩,
  ⟨0x8008, .p, false, 0x0, 0x0⟩,
  ⟨0x800C, .p, false, 0x0, 0x0⟩]

/-- Registers of the CUR window. -/
def rowsCUR : List RegRow := rowsCUR0 ++ rowsCUR1

/-- Registers of the LAY window. -/
def rowsLAY : List RegRow := [
  ⟨0x0, .f, false, 0xEF31, 0x401⟩,
  ⟨0x4, .f, false, 0x0, 0x0⟩,
  ⟨0x8, .f, false, 0x0, 0x0⟩,
  ⟨0xC, .f, false, 0x0, 0x0⟩,
  ⟨0x10, .f, false, 0x0, 0x0⟩,
  ⟨0x14, .f, false, 0x0, 0x0⟩,
  ⟨0x18, .f, false, 0x0, 0x0⟩,
  ⟨0x1C, .f, false, 0x0, 0x0⟩,
  ⟨0x20, .f, false, 0x0, 0x0⟩,
  ⟨0x24, .f, false, 0x0, 0x0⟩,
  ⟨0x28, .f, false, 0x0, 0x0⟩,
  ⟨0x2C, .f, false, 0xFFFF, 0xF⟩]

/-- Registers of the PIX window. -/
def rowsPIX : List RegRow := [
  ⟨0x0, .f, false, 0x7, 0x6⟩,
  ⟨0x4, .f, false, 0x3FFF3FFF, 0x3E803E8⟩,
  ⟨0x8, .f, false, 0x7FF, 0x4B0⟩,
  ⟨0xC, .f, false, 0x0, 0x0⟩,
  ⟨0x10, .f, false, 0x0, 0x0⟩,
  ⟨0x14, .f, false, 0x0, 0x0⟩,
  ⟨0x18, .f, false, 0xFFFF0003, 0x10002⟩,
  ⟨0x1C, .f, false, 0x1, 0x1⟩,
  ⟨0x20, .f, false, 0x7FF, 0x100⟩,
  ⟨0x24, .f, false, 0x0, 0x0⟩,
  ⟨0x28, .f, false, 0xF, 0xF⟩,
  ⟨0x2C, .f, false, 0xF07FFFFF, 0x10000000⟩,
  ⟨0x30, .t, false, 0x0, 0x0⟩,
  ⟨0x34, .m, false, 0x0, 0x0⟩,
  ⟨0x38, .f, false, 0x0, 0x0⟩,
  ⟨0x3C, .f, false, 0x0, 0x0⟩,
  ⟨0x40, .c, false, 0x0, 0x0⟩,
  ⟨0x44, .f, false, 0x7FF0FFF, 0x0⟩,
  ⟨0x48, .f, false, 0x0, 0x0⟩]

/-- Registers of the SCN window. -/
def rowsSCN : List RegRow := [
  ⟨0x0, .p, false, 0x1, 0x0⟩,
  ⟨0x4, .p, false, 0x0, 0x0⟩,
  ⟨0x8, .p, false, 0x0, 0x0⟩,
  ⟨0xC, .p, false, 0x0, 0x0⟩,
  ⟨0x10, .p, false, 0x3, 0x2⟩,
  ⟨0x14, .p, false, 0x3, 0x0⟩,
  ⟨0x18, .p, false, 0x0, 0x0⟩,
  ⟨0x1C, .p, false, 0x0, 0x0⟩,
  ⟨0x20, .p, false, 0x7, 0x0⟩,
  ⟨0x24, .p, false, 0x3F3F, 0x0⟩,
  ⟨0x28, .p, false, 0x1FF, 0x1E⟩,
  ⟨0x2C, .p, false, 0x0, 0x0⟩,
  ⟨0x30, .c, false, 0x0, 0x0⟩,
  ⟨0x34, .p, false, 0x0, 0x0⟩,
  ⟨0x38, .p, false, 0x0, 0x0⟩,
  ⟨0x100, .p, false, 0xFFFFFF, 0x65B9AB⟩,
  ⟨0x104, .p, false, 0x7FFF, 0x600⟩,
  ⟨0x108, .p, false, 0xFF07F3, 0x2004C1⟩,
  ⟨0x10C, .p, false, 0xFFFFF, 0x3E80⟩,
  ⟨0x110, .p, false, 0xFFFFFF, 0x0⟩,
  ⟨0x200, .p, false, 0x0, 0x65B9AB⟩,
  ⟨0x204, .p, false, 0x0, 0x600⟩,
  ⟨0x208, .p, false, 0x0, 0x2004C1⟩,
  ⟨0x20C, .p, false, 0x0, 0x3E80⟩,
  ⟨0x210, .p, false, 0x0, 0x0⟩]

/-- Registers of the CCH window. -/
def rowsCCH : List RegRow := [
  ⟨0x0, .p, false, 0xFFFFFFFF, 0xFFFFFFFF⟩,
  ⟨0x4, .p, false, 0xFF0003, 0x400002⟩,
  ⟨0x8, .p, false, 0x1F, 0x2⟩,
  ⟨0xC, .p, false, 0xFF, 0x8⟩,
  ⟨0x10, .p, false, 0x3F, 0x0⟩,
  ⟨0x14, .t, false, 0x0, 0x0⟩,
  ⟨0x18, .p, false, 0xFFFFFF, 0x80310⟩,
  ⟨0x1C, .p, false, 0x0, 0x0⟩,
  ⟨0x20, .p, false, 0x0, 0x0⟩,
  ⟨0x24, .p, false, 0x0, 0x0⟩,
  ⟨0x30, .p, false, 0x0, 0x0⟩,
  ⟨0x34, .p, false, 0x0, 0x0⟩,
  ⟨0x38, .p, false, 0x0, 0x0⟩,
  ⟨0x3C, .p, false, 0x0, 0x0⟩,
  ⟨0x40, .c, false, 0x0, 0x0⟩,
  ⟨0x50, .p, false, 0x1F000FFF, 0x0⟩,
  ⟨0x54, .t, false, 0x0, 0x0⟩]

/-- Registers of the DIA window. -/
def rowsDIA : List RegRow := [
  ⟨0x0, .f, false, 0x3, 0x1⟩,
  ⟨0x4, .f, false, 0xFFFF0F, 0xC00802⟩,
  ⟨0x8, .f, false, 0x0, 0x0⟩,
  ⟨0xC, .f, false, 0xFFFF0000, 0x1E00000⟩,
  ⟨0x10, .f, false, 0xFFC00000, 0x40000000⟩,
  ⟨0x14, .f, false, 0x0, 0x0⟩,
  ⟨0x18, .f, false, 0x0, 0x0⟩,
  ⟨0x1C, .m, false, 0x0, 0x0⟩,
  ⟨0x20, .f, false, 0x3FFFF, 0x0⟩,
  ⟨0x24, .t, false, 0x0, 0x0⟩,
  ⟨0x28, .f, false, 0x1FFF, 0x0⟩,
  ⟨0x2C, .t, false, 0x0, 0x0⟩,
  ⟨0x30, .f, false, 0x0, 0x0⟩,
  ⟨0x40, .c, false, 0x0, 0x0⟩]

/-- Registers of the PAT window, part 0. -/
def rowsPAT0 : List RegRow := [
  ⟨0x0, .f, false, 0xF, 0x9⟩,
  ⟨0x4, .f, false, 0xFFFFFF, 0x37280A⟩,
  ⟨0x8, .f, false, 0x3FF, 0x96⟩,
  ⟨0xC, .f, false, 0xFFFF0FFF, 0x10003C⟩,
  ⟨0x10, .f, false, 0xFFFF, 0x6CCD⟩,
  ⟨0x14, .f, false, 0xFFFF, 0x6CCD⟩,
  ⟨0x18, .f, false, 0xFFFF, 0x6CCD⟩,
  ⟨0x1C, .f, false, 0x3FFFFF, 0x40⟩,
  ⟨0x20, .f, false, 0x0, 0x0⟩,
  ⟨0x24, .f, false, 0x0, 0x0⟩,
  ⟨0x28, .f, false, 0xFFFFFFFF, 0x0⟩,
  ⟨0x2C, .f, false, 0xFFFFFFFF, 0x0⟩,
  ⟨0x30, .f, false, 0xFFFFFFFF, 0x0⟩,
  ⟨0x34, .f, false, 0xFFFFFFFF, 0x0⟩,
  ⟨0x38, .f, false, 0xFF, 0x3C⟩,
  ⟨0x3C, .f, false, 0x0, 0x0⟩,
  ⟨0x40, .w1, false, 0xFFFFFFFF, 0x0⟩,
  ⟨0x44, .m, false, 0x0, 0x0⟩,
  ⟨0x48, .f, false, 0xFFFFFFFF, 0x0⟩,
  ⟨0x4C, .f, false, 0xFFFFFFFF, 0x0⟩,
  ⟨0x50, .f, false, 0x0, 0x0⟩,
  ⟨0x54, .f, false, 0x3FFFFF, 0x0⟩,
  ⟨0x58, .t, false, 0x0, 0x0⟩,
  ⟨0x5C, .f, false, 0xFF, 0x0⟩]

/-- Registers of the PAT window, part 1. -/
def rowsPAT1 : List RegRow := [
  ⟨0x60, .t, false, 0x0, 0x0⟩,
  ⟨0x64, .c, false, 0x0, 0x0⟩]

/-- Registers of the PAT window. -/
def rowsPAT : List RegRow := rowsPAT0 ++ rowsPAT1

/-- Registers of the FEN window. -/
def rowsFEN : List RegRow := [
  ⟨0x0, .f, false, 0x3, 0x2⟩,
  ⟨0x4, .f, false, 0xFFFFFFFF, 0x0⟩,
  ⟨0x8, .f, false, 0xFFFF, 0x0⟩,
  ⟨0xC, .f, false, 0xFFFF, 0x0⟩,
  ⟨0x10, .f, false, 0xFFFF, 0x0⟩,
  ⟨0x14, .f, false, 0xFFFFFFFF, 0xFFFF⟩,
  ⟨0x18, .f, false, 0x7FFFFFF, 0x640960⟩,
  ⟨0x1C, .f, false, 0x3FF, 0x398⟩,
  ⟨0x20, .f, false, 0x0, 0x0⟩,
  ⟨0x24, .f, false, 0x0, 0x0⟩,
  ⟨0x28, .f, false, 0x0, 0x0⟩,
  ⟨0x2C, .f, false, 0x0, 0x0⟩,
  ⟨0x40, .c, false, 0x0, 0x0⟩]

/-- Registers of the CVU window. -/
def rowsCVU : List RegRow := [
  ⟨0x0, .f, false, 0xFFFF07DF, 0x25C⟩,
  ⟨0x4, .f, false, 0xFFFFFFFF, 0x1EDC6F41⟩,
  ⟨0x8, .f, false, 0xFFFFFFFF, 0xFFFFFFFF⟩,
  ⟨0xC, .f, false, 0xFFFFFFFF, 0xFFFFFFFF⟩,
  ⟨0x10, .f, true, 0xFFFFFFFF, 0x0⟩,
  ⟨0x14, .f, false, 0xFFFFFFFF, 0xFFFFFFFF⟩,
  ⟨0x18, .f, false, 0x0, 0x0⟩,
  ⟨0x1C, .f, false, 0xFFFFFFFF, 0x0⟩,
  ⟨0x20, .m, false, 0x0, 0x0⟩,
  ⟨0x24, .f, false, 0xFF, 0x0⟩,
  ⟨0x28, .f, false, 0x0, 0x0⟩,
  ⟨0x2C, .c, false, 0x0, 0x0⟩]

/-- Registers of the EVT window. -/
def rowsEVT : List RegRow := [
  ⟨0x0, .f, false, 0x0, 0x0⟩,
  ⟨0x4, .f, false, 0x7FFFF, 0x1FFFF⟩,
  ⟨0x8, .f, false, 0x0, 0x0⟩,
  ⟨0x10, .f, false, 0x0, 0x0⟩,
  ⟨0x14, .f, false, 0x0, 0x0⟩,
  ⟨0x18, .f, false, 0x0, 0x0⟩,
  ⟨0x1C, .f, false, 0x0, 0x0⟩,
  ⟨0x20, .f, false, 0x0, 0x0⟩,
  ⟨0x24, .f, false, 0x0, 0x0⟩,
  ⟨0x28, .f, false, 0x0, 0x0⟩,
  ⟨0x2C, .f, false, 0x0, 0x0⟩,
  ⟨0x30, .m, false, 0x0, 0x0⟩,
  ⟨0x34, .f, false, 0x1, 0x0⟩,
  ⟨0x38, .f, false, 0x7, 0x4⟩,
  ⟨0x3C, .m, false, 0x0, 0x0⟩,
  ⟨0x40, .c, false, 0x0, 0x0⟩]

/-- Registers of the RGS window. -/
def rowsRGS : List RegRow := [
  ⟨0x0, .f, false, 0x7FFFF, 0x2FFFF⟩,
  ⟨0x4, .f, false, 0x0, 0x0⟩,
  ⟨0x8, .f, false, 0x0, 0x0⟩,
  ⟨0xC, .f, false, 0x0, 0x0⟩,
  ⟨0x10, .f, false, 0x800FFFFF, 0x0⟩,
  ⟨0x14, .t, false, 0x0, 0x0⟩,
  ⟨0x18, .m, false, 0x0, 0x0⟩]

/-- Registers of the THM window, part 0. -/
def rowsTHM0 : List RegRow := [
  ⟨0x0, .f, false, 0x701, 0x200⟩,
  ⟨0x4, .f, false, 0xFF, 0xFF⟩,
  ⟨0x8, .f, false, 0x0, 0x0⟩,
  ⟨0x10, .f, false, 0x0, 0x0⟩,
  ⟨0x14, .f, false, 0x0, 0x0⟩,
  ⟨0x18, .f, false, 0x0, 0x0⟩,
  ⟨0x1C, .f, false, 0x0, 0x0⟩,
  ⟨0x20, .f, false, 0x0, 0x0⟩,
  ⟨0x24, .f, false, 0x0, 0x0⟩,
  ⟨0x28, .f, false, 0x0, 0x0⟩,
  ⟨0x2C, .f, false, 0x0, 0x0⟩,
  ⟨0x30, .f, false, 0x0, 0x0⟩,
  ⟨0x34, .f, false, 0x0, 0x0⟩,
  ⟨0x38, .f, false, 0x0, 0x0⟩,
  ⟨0x3C, .f, false, 0x0, 0x0⟩,
  ⟨0x40, .f, false, 0x0, 0x0⟩,
  ⟨0x44, .f, false, 0x0, 0x0⟩,
  ⟨0x48, .f, false, 0x0, 0x0⟩,
  ⟨0x4C, .f, false, 0x0, 0x0⟩,
  ⟨0x50, .f, false, 0xFFF0FFF, 0xFFF0FFF⟩,
  ⟨0x54, .f, false, 0xFFF0FFF, 0xFFF0FFF⟩,
  ⟨0x58, .f, false, 0xFFF0FFF, 0xFFF0FFF⟩,
  ⟨0x5C, .f, false, 0xFFF0FFF, 0xFFF0FFF⟩,
  ⟨0x60, .f, false, 0xFFFF, 0x140A⟩]

/-- Registers of the THM window, part 1. -/
def rowsTHM1 : List RegRow := [
  ⟨0x64, .f, false, 0xFFFFFFFF, 0x55504B46⟩,
  ⟨0x68, .f, false, 0xFFFF, 0x369⟩,
  ⟨0x6C, .f, false, 0xFFFFFFFF, 0x3E8735A⟩,
  ⟨0x70, .m, false, 0x0, 0x0⟩,
  ⟨0x80, .c, false, 0x0, 0x0⟩]

/-- Registers of the THM window. -/
def rowsTHM : List RegRow := rowsTHM0 ++ rowsTHM1

/-- Registers of the CEL window, part 0. -/
def rowsCEL0 : List RegRow := [
  ⟨0x0, .p, false, 0x10F, 0x10F⟩,
  ⟨0x4, .p, false, 0x0, 0x0⟩,
  ⟨0x8, .p, false, 0x0, 0x0⟩,
  ⟨0x10, .p, false, 0x0, 0x0⟩,
  ⟨0x14, .p, false, 0x0, 0x0⟩,
  ⟨0x18, .p, false, 0x0, 0x0⟩,
  ⟨0x1C, .p, false, 0x0, 0x0⟩,
  ⟨0x20, .p, false, 0x0, 0x0⟩,
  ⟨0x24, .p, false, 0x0, 0x0⟩,
  ⟨0x28, .p, false, 0x0, 0x0⟩,
  ⟨0x2C, .p, false, 0x0, 0x0⟩,
  ⟨0x30, .p, false, 0x0, 0x0⟩,
  ⟨0x34, .p, false, 0x0, 0x0⟩,
  ⟨0x38, .p, false, 0x0, 0x0⟩,
  ⟨0x3C, .p, false, 0x0, 0x0⟩,
  ⟨0x40, .p, false, 0x0, 0x0⟩,
  ⟨0x44, .p, false, 0x0, 0x0⟩,
  ⟨0x48, .p, false, 0x0, 0x0⟩,
  ⟨0x4C, .p, false, 0x0, 0x0⟩,
  ⟨0x50, .p, false, 0x0, 0x0⟩,
  ⟨0x54, .p, false, 0x0, 0x0⟩,
  ⟨0x58, .p, false, 0x0, 0x0⟩,
  ⟨0x5C, .p, false, 0x0, 0x0⟩,
  ⟨0x60, .p, false, 0x0, 0x0⟩]

/-- Registers of the CEL window, part 1. -/
def rowsCEL1 : List RegRow := [
  ⟨0x64, .p, false, 0x0, 0x0⟩,
  ⟨0x68, .p, false, 0x0, 0x0⟩,
  ⟨0x6C, .p, false, 0x0, 0x0⟩,
  ⟨0x70, .p, false, 0x0, 0x0⟩,
  ⟨0x74, .p, false, 0x0, 0x0⟩,
  ⟨0x78, .p, false, 0x0, 0x0⟩,
  ⟨0x7C, .p, false, 0x0, 0x0⟩,
  ⟨0x80, .p, false, 0x0, 0x0⟩,
  ⟨0x84, .p, false, 0x0, 0x0⟩,
  ⟨0x88, .p, false, 0x0, 0x0⟩,
  ⟨0x8C, .p, false, 0x0, 0x0⟩,
  ⟨0x90, .p, false, 0x0, 0x0⟩,
  ⟨0x94, .p, false, 0x0, 0x0⟩,
  ⟨0x98, .p, false, 0x0, 0x0⟩,
  ⟨0x9C, .p, false, 0x0, 0x0⟩,
  ⟨0xA0, .p, false, 0xFFFF, 0x64⟩,
  ⟨0xA4, .p, false, 0xFFFFFF, 0x64BE0A⟩,
  ⟨0xA8, .p, false, 0xFFFFFF01, 0xBB80200⟩,
  ⟨0xAC, .p, false, 0xFFF, 0x0⟩,
  ⟨0xB0, .p, false, 0x0, 0x0⟩,
  ⟨0xB4, .p, false, 0xFFFFFFFF, 0x10CC09C4⟩,
  ⟨0xB8, .p, false, 0xFFFFFFFF, 0xA040410⟩,
  ⟨0xBC, .p, false, 0x0, 0x0⟩,
  ⟨0xC0, .m, false, 0x0, 0x0⟩]

/-- Registers of the CEL window, part 2. -/
def rowsCEL2 : List RegRow := [
  ⟨0xC4, .w1, false, 0x1, 0x0⟩,
  ⟨0xC8, .p, false, 0xFFFFFFFF, 0x14081000⟩,
  ⟨0xD0, .p, false, 0x0, 0x0⟩,
  ⟨0xD4, .p, false, 0x0, 0x0⟩,
  ⟨0xD8, .p, false, 0x0, 0x0⟩,
  ⟨0xDC, .p, false, 0x0, 0x0⟩,
  ⟨0xE0, .p, false, 0x0, 0x0⟩,
  ⟨0xE4, .p, false, 0x0, 0x0⟩,
  ⟨0xE8, .p, false, 0x0, 0x0⟩,
  ⟨0xEC, .p, false, 0x0, 0x0⟩,
  ⟨0xF0, .p, false, 0x0, 0x0⟩,
  ⟨0xF4, .p, false, 0x0, 0x0⟩,
  ⟨0xF8, .p, false, 0x0, 0x0⟩,
  ⟨0xFC, .p, false, 0x0, 0x0⟩,
  ⟨0x100, .c, false, 0x0, 0x0⟩]

/-- Registers of the CEL window. -/
def rowsCEL : List RegRow := rowsCEL0 ++ rowsCEL1 ++ rowsCEL2

/-- Registers of the HBD window. -/
def rowsHBD : List RegRow := [
  ⟨0x0, .p, false, 0xFFFF0007, 0xA0001⟩,
  ⟨0x4, .p, false, 0x0, 0x0⟩,
  ⟨0x8, .p, false, 0x0, 0x0⟩,
  ⟨0xC, .p, false, 0x3FF03FF, 0xC80064⟩,
  ⟨0x10, .p, false, 0x1F, 0x0⟩,
  ⟨0x14, .p, false, 0xFF, 0xA⟩,
  ⟨0x18, .m, false, 0x0, 0x0⟩,
  ⟨0x1C, .p, false, 0x0, 0x0⟩,
  ⟨0x20, .p, false, 0x0, 0x0⟩,
  ⟨0x24, .p, false, 0x0, 0x0⟩,
  ⟨0x28, .p, false, 0x0, 0x0⟩,
  ⟨0x2C, .p, false, 0xFFFFFFFF, 0x6407D0⟩,
  ⟨0x30, .p, false, 0x0, 0x0⟩,
  ⟨0x40, .p, false, 0x3FF, 0x0⟩,
  ⟨0x44, .t, false, 0x0, 0x0⟩,
  ⟨0x50, .c, false, 0x0, 0x0⟩]

/-- Registers of the SAF window. -/
def rowsSAF : List RegRow := [
  ⟨0x0, .p, false, 0xF1F03, 0x50403⟩,
  ⟨0x4, .p, false, 0x3F, 0x5⟩,
  ⟨0x8, .p, false, 0x1F1F, 0xA0A⟩,
  ⟨0xC, .p, false, 0x3F013F, 0xA003F⟩,
  ⟨0x10, .p, false, 0x0, 0x0⟩,
  ⟨0x14, .p, false, 0x0, 0x0⟩,
  ⟨0x18, .p, false, 0xFFFFFFFF, 0x0⟩,
  ⟨0x1C, .m, false, 0x0, 0x0⟩,
  ⟨0x20, .p, false, 0x0, 0x0⟩,
  ⟨0x24, .p, false, 0x0, 0x0⟩,
  ⟨0x28, .p, false, 0x0, 0x0⟩,
  ⟨0x2C, .p, false, 0x0, 0x0⟩,
  ⟨0x40, .c, false, 0x0, 0x0⟩]

/-- Registers of the CAL window. -/
def rowsCAL : List RegRow := [
  ⟨0x0, .f, false, 0x3, 0x3⟩,
  ⟨0x4, .f, false, 0xFFFF, 0x3C⟩,
  ⟨0x8, .f, false, 0xFFFF, 0x1918⟩,
  ⟨0xC, .m, false, 0x0, 0x0⟩,
  ⟨0x10, .m, false, 0x0, 0x0⟩,
  ⟨0x14, .f, false, 0x0, 0x0⟩,
  ⟨0x18, .f, false, 0x0, 0x0⟩,
  ⟨0x1C, .f, false, 0x0, 0x0⟩,
  ⟨0x20, .f, false, 0x0, 0x0⟩,
  ⟨0x24, .f, false, 0x0, 0x0⟩,
  ⟨0x30, .f, false, 0xFF, 0x0⟩,
  ⟨0x34, .t, false, 0x0, 0x0⟩,
  ⟨0x40, .c, false, 0x0, 0x0⟩]

/-- Registers of the SEC window. -/
def rowsSEC : List RegRow := [
  ⟨0x0, .f, false, 0x0, 0x0⟩,
  ⟨0x10, .f, false, 0x0, 0x0⟩,
  ⟨0x14, .f, false, 0x0, 0x0⟩,
  ⟨0x18, .f, false, 0x0, 0x0⟩,
  ⟨0x1C, .f, false, 0x0, 0x0⟩,
  ⟨0x20, .f, false, 0x0, 0x0⟩,
  ⟨0x24, .f, false, 0x0, 0x0⟩,
  ⟨0x28, .f, false, 0x0, 0x0⟩,
  ⟨0x2C, .f, false, 0x0, 0x0⟩,
  ⟨0x30, .f, false, 0x0, 0x0⟩,
  ⟨0x40, .f, false, 0x7F, 0x0⟩,
  ⟨0x44, .f, false, 0xFFFFFFFF, 0x0⟩,
  ⟨0x48, .m, false, 0x0, 0x0⟩,
  ⟨0x4C, .f, false, 0x0, 0x0⟩]

/-- The windows in the order of the address map (R109), so that window `n` is bit `n` of `RAC_LOCK`, RAC itself
(bit 2) excepted (R108). The chapters lay out no register of CRP. -/
def windows : List Window := [
  ⟨0x0, 1, 0x1000, rowsGLB⟩,
  ⟨0x1000, 1, 0x1000, []⟩,
  ⟨0x2000, 1, 0x1000, rowsRAC⟩,
  ⟨0x10000, 4, 0x1000, rowsYZL⟩,
  ⟨0x20000, 4, 0x400, rowsHCX⟩,
  ⟨0x30000, 1, 0x10000, rowsCUR⟩,
  ⟨0x40000, 16, 0x100, rowsLAY⟩,
  ⟨0x50000, 1, 0x10000, rowsPIX⟩,
  ⟨0x60000, 1, 0x10000, rowsSCN⟩,
  ⟨0x70000, 1, 0x10000, rowsCCH⟩,
  ⟨0x80000, 1, 0x10000, rowsDIA⟩,
  ⟨0x90000, 1, 0x10000, rowsPAT⟩,
  ⟨0xA0000, 1, 0x10000, rowsFEN⟩,
  ⟨0xB0000, 8, 0x40, rowsCVU⟩,
  ⟨0xC0000, 1, 0x10000, rowsEVT⟩,
  ⟨0xD0000, 1, 0x10000, rowsRGS⟩,
  ⟨0xE0000, 1, 0x10000, rowsTHM⟩,
  ⟨0xF0000, 1, 0x10000, rowsCEL⟩,
  ⟨0x100000, 1, 0x10000, rowsHBD⟩,
  ⟨0x110000, 1, 0x10000, rowsSAF⟩,
  ⟨0x120000, 1, 0x10000, rowsCAL⟩,
  ⟨0x130000, 1, 0x10000, rowsSEC⟩]

end Sys2Proof.Machine
end

