-- ==== Sys2Proof/Machine/State.lean ====
section
/-! DEFINITION. The state of the block: every register, queue, buffer, counter, mode and pin that the spec
gives it, as plain data, and `State.reset`. Registers that only hold what was written live in `regs`
(staged or immediate) and `act` (captured by a commit, in effect); class C registers live in `cbits`; every
other register is a view of the fields here. -/

namespace Sys2Proof.Machine

open Sys2Proof

/-- Why a command stops. -/
inductive Fault where
  /-- The command's operands are none that a sender can send (`Instr.wf` is false of it). Raised by the
  meanings of commands that `WellFormed.lean` restricts. Safe: no such command exists outside the model. -/
  | illFormed (mnemonic : String)
  deriving DecidableEq, Repr

/-- Why the model gives a command no meaning. -/
inductive Refusal where
  /-- A command that the model does not give a meaning yet. Raised by arms of `exec` only. Safe. -/
  | notModelled (mnemonic : String)
  deriving DecidableEq, Repr

/-- Registers that hold what was written: address and word, addresses rising, no entry at its reset value. -/
abbrev RegFile := List (Nat × Word)

/-! ## Events (R39, R192, R479 to R497) -/

/-- An event as its source raises it: code, severity, source instance, event data bytes 20 to 31 as three
words, and the one context it goes to where it does not go to all (R193). -/
structure Event where
  code : Nat
  sev : Nat
  inst : Nat
  d0 : Nat := 0
  d1 : Nat := 0
  d2 : Nat := 0
  owner : Option Nat := none
  deriving DecidableEq, Repr

/-- An event with the arbiter's stamp (R482). -/
structure Stamped where
  seq : Nat
  ev : Event
  frame : Nat
  opsec : Nat
  deriving DecidableEq, Repr

/-- The arbiter and the management queue (R39, R484 to R487). -/
structure EventState where
  /-- Events waiting at their sources and in the crossings, oldest first (R41, R563). -/
  waiting : List (Source × Event) := []
  /-- Sequence number of the next event (R482). -/
  nextSeq : Nat := 0
  /-- Management queue, oldest first, at most 64 entries. -/
  mq : List Stamped := []
  mqLost : Nat := 0
  mqLastLost : Nat := 0
  /-- Severity 4 class of events not yet acknowledged (`EVT_FAULT_CTL.PEND`, R487). -/
  faultPend : Bool := false
  deriving DecidableEq, Repr

/-- An entry of the Registrar's hardware queue: an event, or a LOST entry with its running count (R493). -/
inductive RgsItem where
  | ev (e : Stamped)
  | lost (count lastSeq : Nat)
  deriving DecidableEq, Repr

/-- The Registrar (R488 to R496); what it has written lies in `Archive`. -/
structure RegistrarState where
  queue : List RgsItem := []
  /-- A count of lost events that has no LOST entry in the queue yet, with the last lost sequence number. -/
  lostRun : Nat := 0
  lostSeq : Nat := 0
  lostTotal : Nat := 0
  /-- Next slot of each region and next record number. -/
  permNext : Nat := 0
  rollNext : Nat := 0
  recNo : Nat := 0
  permFull : Bool := false
  corrupt : Nat := 0
  fails : Nat := 0
  stopped : Bool := false
  clearing : Bool := false
  deriving DecidableEq, Repr

/-- The handling model (R510 to R512). -/
structure HandlingState where
  slot : Option Stamped := none
  /-- Suspended handlers, the most recently pre-empted first. -/
  suspended : List Stamped := []
  /-- Queued events in stamp order. -/
  queued : List Stamped := []
  /-- Severities whose saturation has been reported and not yet cleared. -/
  saturated : List Nat := []
  deriving DecidableEq, Repr

/-! ## Supplies, clocks, reset (R60 to R84) -/

/-- One AON counter slot of the archive (R67). -/
structure AonSlot where
  opsec : Nat
  pwrcyc : Nat
  deriving DecidableEq, Repr

/-- The always-on block (R66 to R68). `ms` counts the milliseconds of the running second. -/
structure AonState where
  running : Bool := true
  opsec : Nat := 0
  ms : Nat := 0
  pwrcyc : Nat := 0
  deriving DecidableEq, Repr

/-- The Docent (R20, R79, R544). -/
inductive Docent where
  | off | running | restarting | halted
  deriving DecidableEq, Repr

/-- Supplies, clocks and the resets in force. -/
structure PowerState where
  /-- The logic-side internal reset is asserted. -/
  inReset : Bool := false
  /-- Reset sources that still hold the logic side (R64, R71). -/
  regulatorHold : Bool := false
  xiHold : Bool := false
  /-- The reset in force is a soft reset (R80). -/
  soft : Bool := false
  /-- Disagreeing LEGACY windows so far (R82). -/
  legacyWindows : Nat := 0
  legacy : Bool := false
  legacyUnst : Bool := false
  viocClass : Nat := 0
  viocOk : Bool := true
  /-- The R52 hold on the VIOC bank through `VIOC_FAULT`. -/
  viocHold : Bool := false
  vddaOk : Bool := true
  refOk : Bool := false
  refBad : Nat := 0
  refGood : Nat := 0
  /-- `REFCLK_LOST` has been raised and three good windows have not yet followed. -/
  refLost : Bool := false
  xiOk : Bool := true
  coreLock : Bool := false
  memLock : Bool := false
  scanLock : Bool := false
  sfaLock : Bool := false
  /-- The SCAN PLL unlocked and the dark frame after relock has not yet passed (R74). -/
  scanLost : Bool := false
  standby : Bool := false
  docent : Docent := .off
  /-- Cause bits of the last logic-side reset, as `GLB_RST_CAUSE` (R75). -/
  cause : Nat := 1
  /-- The barrier data channel carries valid frames (R38). -/
  barrierOk : Bool := true
  deriving DecidableEq, Repr

/-! ## Register access (R85 to R111) -/

/-- How a link write that waits for its slow domain is to be answered. -/
structure Reply where
  port : Nat
  tag : Nat
  addr : Nat
  size : Nat
  /-- Status of the earlier half of a 64-bit write. -/
  earlier : AccStatus
  /-- This is the access that ends the request. -/
  last : Bool
  /-- Status of the later half of a 64-bit write that needed no landing. -/
  after : AccStatus := .ok
  /-- Writes of the port to the domain that a waiting read comes after. -/
  wait : Nat := 0
  /-- The port has gone down since: the access still executes and is not answered (R160). -/
  mute : Bool := false
  deriving DecidableEq, Repr

/-- A write on its way into a slow domain. `bytes` is the mask of bytes written. -/
structure Posted where
  reader : Reader
  addr : Nat
  data : Word
  bytes : Nat
  reply : Option Reply
  deriving DecidableEq, Repr

/-- Register access control. -/
structure AccessState where
  /-- Address of the QREAD in progress (R92). -/
  qPend : Option Nat := none
  qRdy : Bool := false
  qData : Word := 0
  /-- Writes between CORE and each slow domain in order of entry: the holding register's and the link
  queue's (R96, R98, R99). -/
  scanQ : List Posted := []
  memQ : List Posted := []
  afeQ : List Posted := []
  hblQ : List Posted := []
  sfaQ : List Posted := []
  /-- Link writes held in the receive buffers because a queue is full, oldest first (R98). -/
  held : List (Slow × Posted) := []
  /-- Link reads that wait behind earlier writes of their port to the same domain (R157), oldest first. -/
  rrds : List (Slow × Reply) := []
  /-- Upper words latched by readers of 64-bit counters, keyed 8 × address + reader (R105). -/
  latch : List (Nat × Word) := []
  /-- Write-once registers that have been written (R107). -/
  written : List Nat := []
  deriving DecidableEq, Repr

/-! ## Yuzar Link (R112 to R162) -/

/-- States of a port (R124). -/
inductive PortSt where
  | disabled | train | exchange | up | idleWait | test
  deriving DecidableEq, Repr

/-- A retrain of a lane (R134). -/
inductive Retrain where
  | none | waiting | full | burst
  deriving DecidableEq, Repr

/-- What a received block brings, once descrambled (R118). `marker` stands for the alignment marker of a count, `void`
for a block that the receiver discards. -/
inductive RxItem where
  | idle | void
  | data (payload : BitVec 64)
  | msg (payload : BitVec 64)
  | start (bytes : List Nat)
  | term (bytes : List Nat)
  | marker (count : Nat)
  deriving DecidableEq, Repr

/-- Blocks that wait to be sent: one of the port stream, a LINK_MSG on every transmitting lane (R123), or one block
period of a burst with training on the lanes of a mask (R131, R134). -/
inductive TxItem where
  | stream (b : Block)
  | msg (payload : BitVec 64)
  | burst (mask : Nat)
  deriving DecidableEq, Repr

/-- One lane of a port. -/
structure LaneState where
  signal : Bool := false
  cdr : Bool := false
  block : Bool := false
  adapt : Bool := false
  /-- Foreground sampler calibration of this bring-up has passed (R499). -/
  calOk : Bool := false
  amOnce : Bool := false
  amLock : Bool := false
  amMiss : Nat := 0
  amCount : Nat := 0
  deskew : Bool := false
  polinv : Bool := false
  frozen : Bool := false
  ctle : Nat := 8
  dfe : List Int := [0, 0, 0, 0, 0]
  bip : Nat := 0
  /-- BIP8 errors of the last AM periods, newest first, at most 16 (R132). -/
  bipWin : List Nat := []
  /-- Transmit coefficient set in force and the one that waits for the next AM (R116). -/
  txeq : Word := 0x010C3004
  txeqNext : Option Word := none
  txeqRej : Bool := false
  lowScans : Nat := 0
  hmargin : Nat := 0
  vmargin : Nat := 0
  scans : Nat := 0
  retrain : Retrain := .none
  /-- Operating seconds of the retrains of the last minute (R132). -/
  retrainTimes : List Nat := []
  prbsLock : Bool := false
  prbsErr : Nat := 0
  /-- The checker's register, how many of its bits are seeded, error-free bits since, and the errors among the last 64
  bits, newest first (R136). -/
  prbsReg : BitVec 31 := 0
  prbsSeed : Nat := 0
  prbsGood : Nat := 0
  prbsWin : List Bool := []
  /-- Transmit scrambler, parity and blocks sent since the last marker, and the training generator (R119, R120, R124). -/
  txS : BitVec 58 := BitVec.allOnes 58
  txBip : BitVec 8 := 0
  txCount : Nat := 0
  txPrbs : BitVec 31 := BitVec.allOnes 31
  /-- Descrambler, parity and blocks received since the last marker (R119 to R121). -/
  rxS : BitVec 58 := 0
  rxBip : BitVec 8 := 0
  rxSince : Nat := 0
  /-- Invalid headers among the last 64 blocks, newest first (R125), and block errors counted (R118, R123). -/
  hdrWin : List Bool := []
  blockErr : Nat := 0
  /-- Blocks that adaptation has used (R130). -/
  adaptUse : Nat := 0
  /-- Training blocks that a received REFRESH still announces (R123, R131). -/
  refreshLeft : Nat := 0
  /-- Stream blocks and markers that wait for the other lane (R121, R122). -/
  rxFifo : List RxItem := []
  deriving DecidableEq, Repr

/-- What a host memory read is for. -/
inductive ReadFor where
  | surface (serial part : Nat)
  | clipList (serial part : Nat)
  | table (serial part : Nat)
  /-- The engine's own reads: a doorbell word, and descriptors from a ring index on, of one enabling of the context. -/
  | poll (life ring : Nat)
  | fetch (life head count : Nat)
  deriving DecidableEq, Repr

/-- An outstanding MRD (R144). -/
structure Mrd where
  tag : Nat
  addr : Nat
  count : Nat
  /-- Bytes received, in order. -/
  data : List Nat
  use : ReadFor
  deriving DecidableEq, Repr

/-- TRANS packets that the device sends (R143). -/
inductive TxPacket where
  | mrd (tag addr count : Nat)
  | mwr (addr : Nat) (bytes : List Nat)
  | rcpl (tag : Nat) (status : AccStatus) (addr size : Nat) (data : List Nat)
  | evt (seq code sev index : Nat)
  deriving DecidableEq, Repr

/-- The grant that the host has given for one pool and what the device has used of it (R151). -/
structure Grant where
  got : Bool := false
  inf : Bool := false
  hdr : Nat := 0
  data : Nat := 0
  usedHdr : Nat := 0
  usedData : Nat := 0
  deriving DecidableEq, Repr

/-- One port: bring-up, lanes and link layer. -/
structure PortState where
  st : PortSt := .disabled
  /-- RATE and LANES in force (staged in `YZL_PORT_CTL`, R524). -/
  rate : Bool := true
  lanes : Nat := 3
  active : Nat := 0
  swap : Bool := false
  restarts : Nat := 0
  /-- It has gone down and has not been UP since (R514). -/
  down : Bool := false
  version : Nat := 0
  lane : Vector LaneState 2 := Vector.replicate 2 {}
  /-- The last PORT_UP received (mask, version, rate) and how many identical ones in a row. -/
  puLast : Option (Nat × Nat × Bool) := none
  puCount : Nat := 0
  /-- The PORT_UP_ACK sent: chosen set and version. -/
  ackSent : Option (Nat × Nat) := none
  /-- The PORT_UP_ACK received before the own one was sent. -/
  ackGot : Option (Nat × Nat) := none
  /-- AM count of the next transmitted marker (R120). -/
  amTx : Nat := 0
  /-- Restore of the missing lane: training, LANE_RESTORE sent, LANE_RESTORE received (R133). -/
  restoring : Bool := false
  restoreSent : Bool := false
  restoreGot : Bool := false
  /-- Lane that rejoins striping after the next AM, and whether it is a restore. -/
  rejoin : Option (Nat × Bool) := none
  /-- Lane of the far end whose retrain this end feeds with training (R134). -/
  farRetrain : Option (Nat × Bool) := none
  /-- Blocks that wait for the next marker to have passed, oldest first, and port-stream blocks sent since the last one
  (R120, R122). -/
  txQ : List TxItem := []
  txPos : Nat := 0
  /-- Lanes whose blocks are merged into the received stream, the lane of the next block, and the lane that joins after
  the next received marker (R122, R133). -/
  rxMask : Nat := 0
  rxTurn : Nat := 0
  rxJoin : Option Nat := none
  /-- Two AM-locked lanes are further apart than the deskew reaches (R121). -/
  skewed : Bool := false
  /-- Bytes of the packet that is open (R139). -/
  rxOpen : Option (List Nat) := none
  /-- LINK_MSG payloads received lately: lane, payload, block periods since. -/
  rxMsgs : List (Nat × BitVec 64 × Nat) := []
  /-- Transaction layer. -/
  next : Nat := 0
  nakSent : Bool := false
  sinceAck : Nat := 0
  txSeq : Nat := 0
  replay : List (Nat × TxPacket) := []
  oldestReplays : Nat := 0
  /-- Millisecond of operating time of the last `LINK_REPLAY` (R154). -/
  lastReplay : Option Nat := none
  txWait : List TxPacket := []
  farP : Grant := {}
  farN : Grant := {}
  farC : Grant := {}
  /-- Receive buffers in use: P headers, P data credits, N headers (R150). -/
  nearPH : Nat := 0
  nearPD : Nat := 0
  nearNH : Nat := 0
  /-- P headers, P data credits and N headers received since UP (R151). -/
  rxPH : Nat := 0
  rxPD : Nat := 0
  rxNH : Nat := 0
  mrds : List Mrd := []
  quarantine : List Nat := []
  replays : Nat := 0
  naks : Nat := 0
  deriving DecidableEq, Repr

/-! ## Host contexts (R163 to R201) -/

/-- A descriptor as fetched: its submission slot and its sixteen words (R174). -/
structure Desc where
  slot : Nat
  w : List Nat
  deriving DecidableEq, Repr

/-- A completion (R190). -/
structure Completion where
  op : Nat
  status : Nat
  released : Bool
  late : Bool
  shadow : Bool
  alive : Nat
  user : Nat
  frame : Nat
  slot : Nat
  detail : Nat
  deriving DecidableEq, Repr

/-- A frame-bound descriptor that is pending (R187, R188). -/
structure Pend where
  d : Desc
  frame : Nat
  late : Bool
  /-- The load that a present waits for (R179). -/
  waits : Option Nat
  /-- Status of that load when it failed (R250). -/
  failed : Option Nat
  /-- Accepted while its context was the inactive one of a pair (R198, R199). -/
  shadow : Bool := false
  /-- Resolved: the status of the completion that F(frame) brings, and whether it went to shadow state only. -/
  done : Option (Nat × Bool) := none
  deriving DecidableEq, Repr

/-- Pages of each channel (R202). -/
structure PageSet where
  c0 : Nat
  c1 : Nat
  c2 : Nat
  c3 : Nat
  deriving DecidableEq, Repr

/-- The structures of the device region (R32). -/
inductive DevStruct where
  | composed | upload | matrices | ledger | gains | faultMap | tables | working
  deriving DecidableEq, Repr

/-- A read of host memory in parts of at most 4 KiB (R144): the parts still to be asked for, how many have been
asked for, and the parts received by number. -/
structure HostRead where
  todo : List (Nat × Nat)
  issued : Nat := 0
  parts : List (Nat × List Nat) := []
  deriving DecidableEq, Repr

/-- A SURFACE_LOAD in progress (R204). -/
structure Ingest where
  serial : Nat
  d : Desc
  handle : Nat
  /-- Waits for an earlier load to the same handle (R206). -/
  queued : Bool
  pages : PageSet
  size : Nat
  read : HostRead
  deriving DecidableEq, Repr

/-- A TABLE_LOAD in progress (R183). -/
structure TableLoad where
  serial : Nat
  d : Desc
  table : Nat
  offset : Nat
  swap : Bool
  frame : Nat
  late : Bool
  /-- Waits for the bank copy of R183. -/
  queued : Bool
  length : Nat
  read : HostRead
  /-- Data that arrived while the load waits for the copy: byte offsets in the bank, and bytes. -/
  kept : List (Nat × List Nat) := []
  deriving DecidableEq, Repr

/-- A swap that waits for its frame, with the descriptor that asked for it (R183, R277). -/
structure SwapReq where
  table : Nat
  frame : Nat
  late : Bool
  ctx : Option Nat
  d : Desc
  deriving DecidableEq, Repr

/-- A clip of a context (R216). -/
structure Clip where
  id : Nat
  loop : Bool
  entries : List (Nat × Nat)
  deriving DecidableEq, Repr

/-- A CLIP_DEFINE whose list is being read (R182). -/
structure ClipRead where
  serial : Nat
  d : Desc
  id : Nat
  loop : Bool
  count : Nat
  read : HostRead
  deriving DecidableEq, Repr

/-- The descriptor-set state of a layer (R230). -/
structure LayerSet where
  handle : Nat := 0
  blank : Bool := true
  dx : Int := 0
  dy : Int := 0
  dw : Nat := 0
  dh : Nat := 0
  sx : Nat := 0
  sy : Nat := 0
  sw : Nat := 0
  sh : Nat := 0
  prio : Nat := 0
  sync : Nat := 0
  fade : Nat := 1023
  keyEn : Bool := false
  keyYcc : Bool := false
  keyLo : List Nat := [0, 0, 0]
  keyHi : List Nat := [0, 0, 0]
  deriving DecidableEq, Repr

/-- A clip playing on a layer: context, clip, entry shown, frames of it left (R216). -/
structure Play where
  ctx : Nat
  clip : Nat
  entry : Nat
  left : Nat
  deriving DecidableEq, Repr

/-- Shadow state of one layer in the inactive context of a pair (R198, R519). -/
structure ShadowLayer where
  set : LayerSet := {}
  play : Option Play := none
  /-- A FRAME_PRESENT or CLIP_PLAY has been received. -/
  given : Bool := false
  /-- Groups of LAYER_PARAM received, one bit each. -/
  groups : Nat := 0
  /-- The handle before the clip advance of this boundary, where a clip plays (R217). -/
  before : Option Nat := none
  deriving DecidableEq, Repr

/-- A fence: its descriptor, mode and effective frame (R185, R187). -/
structure Fence where
  d : Desc
  mode : Nat
  frame : Nat
  late : Bool
  deriving DecidableEq, Repr

/-- One host context. -/
structure CtxState where
  sqTail : Nat := 0
  sqHead : Nat := 0
  cqHead : Nat := 0
  cqTail : Nat := 0
  eqHead : Nat := 0
  eqTail : Nat := 0
  cqPhase : Bool := true
  eqPhase : Bool := true
  /-- Descriptors fetched and not yet accepted. -/
  fetched : List Desc := []
  /-- Fences in force (R185). -/
  fences : List Fence := []
  pend : List Pend := []
  ingests : List Ingest := []
  tloads : List TableLoad := []
  cplq : List Completion := []
  evq : List Stamped := []
  evLost : Nat := 0
  evLostSeq : Nat := 0
  alive : Option Nat := none
  clips : List Clip := []
  /-- Redefinitions of playing clips that wait for the next boundary (R218). -/
  clipNext : List Clip := []
  clipReads : List ClipRead := []
  /-- QUERY descriptors: waiting for the port, or written with the number of posted packets up to its last that
  the host has not acknowledged (R184). -/
  queries : List (Desc × Option Nat) := []
  conflict : Bool := false
  cfgIgn : Bool := false
  pairBad : Bool := false
  /-- The context of a pair that drives the layers; read through `ctxActive`. -/
  pairActive : Bool := true
  misses : Nat := 0
  clean : Nat := 0
  latest : Option Nat := none
  switchReq : Bool := false
  /-- EN has been written 0 and the last completions are not yet written or discarded (R195). -/
  closing : Bool := false
  /-- How often the context has been enabled, by which its reads are told apart (the model's own). -/
  life : Nat := 0
  shadow : Vector ShadowLayer 16 := Vector.replicate 16 {}
  deriving DecidableEq, Repr

/-! ## Curator (R202 to R229) -/

/-- A handle of a context (R204 to R208). -/
structure Surface where
  ctx : Nat
  handle : Nat
  fmt : Nat
  width : Nat
  height : Nat
  pages : PageSet
  data : List Nat
  /-- Frame counter of the last frame that showed it, or of the end of its ingest (R208). -/
  shown : Nat
  /-- A frame has shown it. -/
  seen : Bool
  deriving DecidableEq, Repr

/-- A Vitrine run and its surface (R212 to R214). -/
structure Vitrine where
  layers : List Nat
  pages : PageSet
  /-- The flattening has finished; the surface is in use from the next composition. -/
  flat : Bool
  ready : Bool
  lastUsed : Nat
  deriving DecidableEq, Repr

/-- A band of the running or last composition (R219). -/
structure Band where
  engine : Nat
  first : Nat
  rows : Nat
  deriving DecidableEq, Repr

/-- A duplicate-band check in progress (R221, R222). -/
structure DupCheck where
  frame : Nat
  band : Nat
  engine : Nat
  dup : Nat
  third : Option Nat
  deriving DecidableEq, Repr

/-- The Curator and the DRAM controller. -/
structure CuratorState where
  surfaces : List Surface := []
  /-- Pages of replaced content, freed when the running composition ends (R205). -/
  oldPages : List (Nat × PageSet) := []
  free : PageSet := ⟨122880, 122880, 122880, 122880⟩
  /-- Pages of the structures of the device region, striped over the channels at reset (R32, R34, R202). -/
  device : List (DevStruct × PageSet) :=
    [(.composed, ⟨512, 512, 512, 512⟩), (.upload, ⟨768, 768, 768, 768⟩), (.matrices, ⟨1152, 1152, 1152, 1152⟩),
     (.ledger, ⟨384, 384, 384, 384⟩), (.gains, ⟨384, 384, 384, 384⟩), (.faultMap, ⟨24, 24, 24, 24⟩),
     (.tables, ⟨64, 64, 64, 64⟩), (.working, ⟨4904, 4904, 4904, 4904⟩)]
  vitrines : List Vitrine := []
  nextSerial : Nat := 0
  retired : Nat := 0
  /-- Engines commanded out of service from the next composition (R223). -/
  retireReq : Nat := 0
  hangs : List Nat := [0, 0, 0, 0, 0, 0, 0, 0]
  /-- Severity 2 has been raised for fewer than six engines (R19). -/
  degraded : Bool := false
  bands : List Band := []
  lastBands : List Band := []
  cycles : List Nat := [0, 0, 0, 0, 0, 0, 0, 0]
  /-- Cycles of each row quad in the last composition; empty forces equal bands (R219). -/
  quads : List Nat := []
  dup : Option DupCheck := none
  /-- Band check repeated at the next frame with the same engines (R222). -/
  dupAgain : Option DupCheck := none
  mapped : List RowAt := []
  /-- Handles that the composition in progress reads (R207). -/
  reading : List (Nat × Nat) := []
  failedRows : List RowAt := []
  ceTimes : List (RowAt × Nat) := []
  ce : Nat := 0
  ue : Nat := 0
  lastErr : Option (RowAt × Bool) := none
  /-- Corrected errors per channel since the last `ECC_CORRECTED`, and the second of that event (R229). -/
  ceSince : List Nat := [0, 0, 0, 0]
  ceEvent : List (Option Nat) := [none, none, none, none]
  shrunk : Bool := false
  qeff : List Nat := [960, 960, 960, 960]
  deriving DecidableEq, Repr

/-! ## Layers (R230 to R256) -/

/-- A layer: what descriptors set and what the deadlines decided. -/
structure LayerState where
  set : LayerSet := {}
  play : Option Play := none
  held : Option Nat := none
  stale : Bool := false
  hold : Nat := 0
  groupHold : Bool := false
  badScale : Bool := false
  /-- Context that drives the layer's content (for port-down holding, R250). -/
  driver : Option Nat := none
  /-- A replacement of the handle shown failed (R250 cause 1). -/
  loadFailed : Bool := false
  /-- Consecutive frames without a change, and a change since the last deadline (R212). -/
  unchanged : Nat := 0
  changed : Bool := false
  /-- `LAY_CTL.EN` as the last deadline took it. -/
  en : Bool := true
  /-- No enabled context held the layer at the last deadline. -/
  noGrant : Bool := false
  /-- Context and handle that a failover named and that the context does not hold (R519). -/
  await : Option (Nat × Nat) := none
  /-- The handle before the clip advance of this boundary, where a clip plays (R217). -/
  before : Option Nat := none
  deriving DecidableEq, Repr

/-! ## Pixel pipeline (R257 to R283) -/

/-- A table of the pixel pipeline: two banks, keyed by word index (R276, R277). -/
structure TableState where
  bank0 : List (Nat × Word) := []
  bank1 : List (Nat × Word) := []
  active : Bool := false
  copying : Bool := false
  /-- A swap took place since the last archive copy (R280). -/
  dirty : Bool := false
  deriving DecidableEq, Repr

/-- A brightness ramp: A′, Z, Z′, n and the step j reached (R269). -/
structure Ramp where
  a : Nat
  z : Nat
  n : Nat
  j : Nat
  deriving DecidableEq, Repr

/-- A word of a Vitrine surface that a composition found lost: the run, the pixel, and the bits that stay of its three
colours and its transmittance (R228; log entry 41). -/
structure LostWord where
  run : List Nat
  pixel : Nat
  keep : List Nat
  deriving DecidableEq, Repr

/-- A composed frame: its number and geometry, brightness level and ramp, the upload fields committed for it
(R281), the handles it reads, the emitters concealed and clamped, and the stored 20-bit values in emitter order. Then what a
word lost during the composition asks to compose it again from (R228): the layers with the surfaces that they show, the fault
map, the runs, those read through a Vitrine surface, and the Vitrine words lost. -/
structure Composed where
  frame : Nat
  w : Nat
  h : Nat
  b : Nat
  ramp : Option Ramp
  dith : Word
  olut : Word
  reads : List (Nat × Nat)
  conc : Nat
  clip : Nat
  px : List Nat
  srcs : List (Nat × Surface) := []
  map : List (Nat × Nat) := []
  runs : List (List Nat) := []
  flat : List (List Nat) := []
  lost : List LostWord := []
  deriving DecidableEq, Repr

/-- The pixel pipeline. -/
structure PixState where
  tbl : Vector TableState 4 := Vector.replicate 4 {}
  swaps : List SwapReq := []
  /-- B(k) of the latest composition deadline, and of the composition that ended last. -/
  b : Nat := 65535
  bEnded : Nat := 65535
  ramp : Option Ramp := none
  rampEnded : Option Ramp := none
  lfsr : Nat := 1
  /-- The SEED that the LFSR was loaded from last. -/
  seed : Nat := 1
  /-- The composition in progress and the composed frames that wait for or feed the upload (R32). -/
  composing : Option Composed := none
  composed : List Composed := []
  concCnt : Nat := 0
  clipCnt : Nat := 0
  e : Nat := 65535
  governed : Bool := false
  deriving DecidableEq, Repr

/-! ## Scan-out (R284 to R304) and the commit (R524 to R537) -/

/-- Genlock states (R294). -/
inductive Genlock where
  | free | wait | capture | track
  deriving DecidableEq, Repr

/-- Why frames are dark. -/
inductive Dark where
  /-- No complete frame since the last reload (R291, R301). -/
  | noFrame
  /-- The dark frames of a timing commit: how many are left (R300). -/
  | timing (left : Nat)
  /-- The dark frames of a reload under R333, R466, R522 or R534. -/
  | reload (left : Nat)
  /-- The dark frame after a SCAN PLL relock (R74). -/
  | relock
  /-- Dark while the display is frozen and `SCN_FREEZE.ACTION` asks for it (R297). -/
  | frozen
  /-- The outputs are held low (R62, R74, R466). -/
  | hold
  deriving DecidableEq, Repr

/-- The upload that runs (R290). -/
structure Upload where
  frame : Nat
  complete : Bool
  w : Nat
  h : Nat
  reads : List (Nat × Nat)
  /-- The code that the word of each emitter's channel carries on its line (R361). -/
  codes : List Nat
  deriving DecidableEq, Repr

/-- What the drivers' displaying bank holds: frame, geometry, handles and codes. -/
structure Shown where
  frame : Nat
  w : Nat
  h : Nat
  reads : List (Nat × Nat)
  codes : List Nat
  deriving DecidableEq, Repr

/-- Scan-out. -/
structure ScanState where
  /-- The frame counter (R186). -/
  frame : Nat := 0
  dark : Option Dark := some .noFrame
  /-- 0 active part, 1 frame blanking (R292). -/
  blanking : Bool := false
  subframe : Nat := 0
  line : Nat := 0
  upload : Option Upload := none
  /-- What the drivers show, none while they hold no complete frame. -/
  shown : Option Shown := none
  /-- The swap command has been sent for the coming boundary (R290). -/
  swapSent : Bool := false
  /-- The upload deadline of the frame has passed. -/
  deadlineDone : Bool := false
  genlock : Genlock := .free
  accepted : Nat := 0
  trim : Int := 0
  phaseErr : Int := 0
  rejects : Nat := 0
  glkPer : Nat := 0
  /-- `GENLOCK_LOST` has been raised and TRACK has not been entered since (R514). -/
  glkLost : Bool := false
  /-- A measured edge has been accepted since the source came into force. -/
  glkSeen : Bool := false
  outMode : Nat := 0
  /-- `SCN_LMATCH` in force. -/
  lmatch : Nat := 0
  glkOut : Bool := false
  freeze : Nat := 0
  frozen : Bool := false
  gateA : Nat := 0
  gateB : Nat := 0
  /-- The gate that the running line visit applies (R289). -/
  gateLine : Nat := 0
  underruns : Nat := 0
  rowen : Bool := false
  ra : Nat := 0
  /-- GCK runs in the groups with an enabled chain (R286). -/
  gck : Bool := false
  /-- FBI of the frame in progress, in SCAN cycles, where genlock changes it; otherwise it is that of R285 (R294). -/
  fbi : Option Nat := none
  /-- Frames whose composition was abandoned or held: no upload, no swap, no `UNDERRUN` (R30, R528). -/
  skipped : List Nat := []
  /-- Those of them that a commit held (R297, R528). -/
  heldFrames : List Nat := []
  /-- What kind of dark frame a hold or a relock interrupted. -/
  resume : Option Dark := none
  deriving DecidableEq, Repr

/-- A step of a commit: 1 timing, 2 geometry, 3 Vitrine, 4 ports (R527); the held compositions it still takes, and
whether it is applied visibly (R529). -/
structure CmtStep where
  step : Nat
  left : Nat
  visible : Bool
  begun : Bool := false
  deriving DecidableEq, Repr

/-- The configuration commit. -/
structure CommitState where
  pend : Bool := false
  err : Nat := 0
  commits : Nat := 0
  /-- An accepted commit has been made since reset. -/
  everAccepted : Bool := false
  /-- `GLB_CMT_STAT.FIRST`. -/
  first : Bool := true
  visible : Bool := false
  held : Nat := 0
  window : Bool := false
  /-- Steps not yet ended, the first being the one in progress. -/
  steps : List CmtStep := []
  /-- The captured set, the captured `CCH_CFG_DATA` entries, and the dark frames that it costs at F(m). -/
  captured : RegFile := []
  capturedCfg : List (Nat × Word) := []
  cost : Nat := 0
  /-- The set waits for F(m); the whole commit is the first after reset. -/
  due : Bool := false
  initial : Bool := false
  /-- Commands deferred to the end of step 2: `DIA_CMD.CLEAR`, `PAT_CMD.ZERO` (R536). -/
  deferClear : Bool := false
  deferZero : Bool := false
  /-- Pipeline and layer fields wait for the first composition (R281, R526). -/
  pixels : Bool := false
  /-- A `GLB_SVC_CMD.RELOAD` waits for the next boundary (R522). -/
  svcReload : Bool := false
  /-- Another reload of the drivers waits for the next boundary (R333, R466, R534). -/
  reload : Bool := false
  deriving DecidableEq, Repr


/-! ## Column chains (R305 to R336) -/

/-- What the device keeps of one chain. -/
structure ChainLane where
  broken : Bool := false
  /-- Consecutive frames with and without a mismatch (R325). -/
  bad : Nat := 0
  clean : Nat := 0
  phase : Nat := 8
  latency : Nat := 0
  deriving DecidableEq, Repr

/-- The commands of R312 and R337 that the device sends as LAT pulses. -/
inductive DrvCmd where
  | lineStore | frameSync | frameSwap | loadStart | statusCapture | configStore | reload
  | diagLine | diagRows | diagEven | diagOdd
  deriving DecidableEq, Repr

/-- The chain interface. -/
structure ChainState where
  lane : Vector ChainLane 32 := Vector.replicate 32 {}
  /-- `CCH_CFG_DATA` entries staged and in effect (R321, R332). -/
  cfg : List (Nat × Word) := []
  cfgAct : List (Nat × Word) := []
  lastMismatch : Option (Nat × Nat × Nat) := none
  /-- Frames since the last status read, consecutive deferrals, a read is due or running (R326). -/
  statFrames : Nat := 0
  statDefer : Nat := 0
  statDue : Bool := false
  statBusy : Bool := false
  /-- Status words of the last read, keyed 8192 × chain + word (R327). -/
  dst : List (Nat × Word) := []
  /-- The readback of the last line of the previous upload is still possible (R324). -/
  lastLineValid : Bool := false
  /-- The reload of R322 has run in the dark frame in progress. -/
  reloaded : Bool := false
  /-- `CHANNEL_MAP_INVALID` has been raised for the map in force (R329). -/
  mapReported : Bool := false
  /-- It has been raised since the last commit was accepted (R329). -/
  mapRaised : Bool := false
  deriving DecidableEq, Repr

/-! ## Emitter diagnostics (R337 to R359) -/

/-- States of the round in progress (`DIA_STAT.STATE`). -/
inductive DiaPhase where
  | idle | armed | awaiting
  deriving DecidableEq, Repr

/-- States of a fault-list entry (R353). -/
inductive FaultSt where
  | candidate | declared | clearing
  deriving DecidableEq, Repr

/-- A fault-list entry (R353): subject, state, counts. -/
structure FaultEntry where
  st : FaultSt
  cause : Nat
  level : Nat
  subject : Nat
  first : Nat
  count : Nat
  passes : Nat
  /-- It has failed in the running cycle. -/
  failed : Bool
  /-- A round of the running cycle has examined it. -/
  seen : Bool := false
  deriving DecidableEq, Repr

/-- Diagnostics. -/
structure DiaState where
  round : Nat := 0
  phase : DiaPhase := .idle
  /-- Frame whose display carries the test window of the round, and the frame of its bursts (R343). -/
  testFrame : Nat := 0
  /-- The burst commands of the round have been sent. -/
  burstsSent : Bool := false
  /-- Test frame of the following round, whose DIAG_LINE has been sent ahead. -/
  armed : Option Nat := none
  /-- Chains that have been broken at some time in the round, and in the following one, whose results do not count (R345). -/
  hurt : List Nat := []
  hurtNext : List Nat := []
  /-- The status read in progress is the round's. -/
  reading : Bool := false
  defer : Nat := 0
  steals : Nat := 0
  /-- Test frame of round 0 of the running cycle. -/
  cycleStart : Option Nat := none
  coverFrames : Nat := 0
  lateRaised : Bool := false
  faults : List FaultEntry := []
  listFull : Bool := false
  /-- The fault map, keyed by emitter; an unlisted emitter is UNTESTED (code 1). -/
  map : List (Nat × Nat) := []
  ot : List (Nat × Nat) := []
  concealHigh : Bool := false
  /-- A change has not been archived yet (R355). -/
  dirty : Bool := false
  deriving DecidableEq, Repr

/-! ## Patina (R360 to R375) -/

/-- Patina. -/
structure PatState where
  /-- The ledger, keyed by emitter; an unlisted emitter has dose 0. -/
  dose : List (Nat × Nat) := []
  /-- The gain banks, keyed by emitter; an unlisted emitter has gain 32,768. -/
  gain0 : List (Nat × Nat) := []
  gain1 : List (Nat × Nat) := []
  gainActive : Bool := false
  /-- A completed inactive bank waits for the next composition deadline (R367). -/
  gainReady : Bool := false
  /-- Content of the rounding LFSR: at reset the frame counter before it (R362). -/
  lfsr : Nat := 0
  /-- Weights of the 16 × 16 blocks, keyed by block; an unlisted block has weight 4,096 (R364). -/
  weight : List (Nat × Nat) := []
  noTemp : Bool := false
  /-- Curves, keyed 65 × colour + entry; an unlisted entry is 32,768 (R366). -/
  curve : List (Nat × Nat) := []
  /-- Curves written since they were archived. -/
  curveDirty : Bool := false
  /-- T_c in force and the targets found by the last update (R368). -/
  tgt : List Nat := [27853, 27853, 27853]
  tgtNext : List (Option Nat) := [none, none, none]
  followBegun : Bool := false
  firstDone : Bool := false
  /-- Emitters whose next gain is not limited by MAXSTEP (R367). -/
  fresh : List Nat := []
  exhaust : List Nat := [0, 0, 0]
  /-- Gates at the starts of the sub-frames of the frame displayed (R361). -/
  gates : List Nat := []
  /-- Snapshot in staging storage: ledger, operating seconds, frame, W, H. -/
  staging : Option (List (Nat × Nat) × Nat × Nat × Nat × Nat) := none
  snapDue : Bool := false
  snapAgain : Bool := false
  zeroDue : Bool := false
  heldSnaps : Bool := false
  snapTime : Nat := 0
  restored : Bool := false
  deriving DecidableEq, Repr

/-! ## Frame energy (R376 to R386) -/

/-- A completed forecast (R378, R385). Charges and energies in the units of the registers. -/
structure Forecast where
  frame : Nat
  q : Nat
  qr : Nat
  qg : Nat
  qb : Nat
  e : Nat
  p : Nat
  b : Nat
  g : Nat
  gn : Nat
  pg : Nat
  d : Nat
  l : Nat
  pgLow : Bool
  ident : Bool
  deriving DecidableEq, Repr

/-- The frame energy unit. -/
structure FenState where
  /-- The latest completed forecast; the forecasts of the frames on their way to display, newest first. -/
  last : Option Forecast := none
  recent : List Forecast := []
  g : Nat := 65535
  governing : Bool := false
  limited : Bool := false
  pgLow : Bool := false
  duty : Nat := 0
  /-- FEN fields as the last composition deadline took them (R383). -/
  act : RegFile := []
  /-- PG sum and count of the frames shown since the previous sweep (R384). -/
  pgSum : Nat := 0
  pgCount : Nat := 0
  /-- PG of the frame that is shown. -/
  pgShown : Nat := 0
  deriving DecidableEq, Repr

/-! ## Cell side (R387 to R406, R498 to R505) -/

/-- A voltage condition of one cell (R401): consecutive results of each path that show it, whether it has
tripped, and the latest usable result of each path since then. -/
structure VFilter where
  p : Nat := 0
  s : Nat := 0
  on : Bool := false
  lp : Option Nat := none
  ls : Option Nat := none
  deriving DecidableEq, Repr

/-- One cell of the segment: its primary path, its sweep path, its filters and its cross-calibration. -/
structure CellChan where
  /-- Last primary result as shown, LSB 100 µV, corrected under R400, with its flags. -/
  v : Nat := 0
  valid : Bool := false
  balact : Bool := false
  /-- The primary channel has failed (R404). -/
  fail : Bool := false
  /-- Last raw code, how many results in a row it has been, and the extremes of the sweep since then. -/
  code : Nat := 0
  run : Nat := 0
  svLo : Nat := 0
  svHi : Nat := 0
  /-- Last sweep result, LSB 100 µV, after the cross-calibration offset, with its flags. -/
  sv : Nat := 0
  sValid : Bool := false
  sBal : Bool := false
  sStale : Bool := false
  /-- Sweep result of the epoch before, where it may form a pair (R404). -/
  sPrev : Option Nat := none
  /-- Over-voltage and under-voltage (R401). -/
  ov : VFilter := {}
  uv : VFilter := {}
  /-- Primary result of the epoch before, where it may form a pair (R404). -/
  pv : Option Nat := none
  /-- Sum of the pairs of the running window in 10 µV and their number; completed windows, their last mean,
  and whether the last window lay beyond LIM. -/
  xSum : Int := 0
  xCount : Nat := 0
  xWindows : Nat := 0
  xMean : Int := 0
  xOver : Bool := false
  deriving DecidableEq, Repr

/-- One thermistor of the segment (R396). -/
structure CellSensor where
  t : Int := 0
  isOpen : Bool := false
  short : Bool := false
  stale : Bool := false
  /-- A result has been taken. -/
  seen : Bool := false
  bad : Nat := 0
  good : Nat := 0
  failed : Bool := false
  /-- How long the result has been at or above OT, in 10 ns, and the tripped condition. -/
  otTime : Option Nat := none
  ot : Bool := false
  deriving DecidableEq, Repr

/-- The cell side. Its registers that hold what was written lie in `regs` at their addresses. -/
structure CellState where
  /-- The cell side runs (R65). -/
  running : Bool := true
  cell : Vector CellChan 12 := Vector.replicate 12 {}
  sensor : Vector CellSensor 4 := Vector.replicate 4 {}
  /-- Apertures since cell-side power-on, and the count of the epoch whose primary results are ready. -/
  apertures : Nat := 0
  epoch : Nat := 0
  /-- Length in 10 ns of the epoch that ended at the last aperture. -/
  len : Nat := 100000
  /-- The pending trigger: its named instant and its arrival, in 10 ns after the last aperture (R389). -/
  trigger : Option (Nat × Int) := none
  /-- The epoch in progress began at a triggered aperture of this sweep. -/
  sweepOf : Option Nat := none
  current : Int := 0
  currentPrev : Int := 0
  iValid : Bool := false
  iFail : Bool := false
  iCode : Int := 0
  iRun : Nat := 0
  vsum : Nat := 0
  vsumSweep : Bool := false
  /-- Slots taken in the epoch in progress, one bit each. -/
  slots : Nat := 0
  stack : Nat := 0
  refA : Nat := 0
  refB : Nat := 0
  refBad : Nat := 0
  refGood : Nat := 0
  refFault : Bool := false
  stackRun : Nat := 0
  stackBad : Bool := false
  /-- `CELL_TEMP_LOST` stands, how long in 10 ns, and the tripped condition. -/
  tempLost : Bool := false
  tempLostTime : Nat := 0
  tlost : Bool := false
  coul : Int := 0
  coulRem : Int := 0
  dchg : Nat := 0
  dchgRem : Nat := 0
  /-- Balancing set and deferred set of the epoch in progress, THRU of it, and the guard (R399). -/
  bal : Nat := 0
  defer : Nat := 0
  thru : Bool := false
  guard : Bool := true
  /-- The latched demand of R402 and the CLEAR that waits for the epoch's last result. -/
  demand : Bool := false
  clearPend : Bool := false
  /-- Both protection lines toggle. -/
  lines : Bool := true
  /-- The cell run (R502): its epoch 0 to 25, another run that waits, the offset and gain conversions. -/
  calRun : Option Nat := none
  calAgain : Bool := true
  calOffset : Option Int := none
  calGain : Option Int := none
  /-- Coefficients written over the barrier that apply at the next aperture. -/
  coefNext : List (Nat × Int) := []
  /-- The cell side has seen no valid barrier frame for 10 ms (R38). -/
  logicLost : Bool := false
  /-- Bits of `CEL_ERR` and `HBD_ERR` that wait for the barrier channel. -/
  errPend : Nat := 0
  hbErrPend : Nat := 0
  /-- Result registers as the logic side's mirror holds them (R392, R393). -/
  shown : RegFile := []
  /-- The other CEL and HBD registers as the mirror held them when the barrier channel was lost. -/
  frozen : RegFile := []
  deriving DecidableEq, Repr

/-! ## Hatband chain (R407 to R431) -/

/-- Roles of a device in its chain (`HBD_STAT.ROLE`). -/
inductive HbRole where
  | unenumerated | member | head | orphan | addrFault
  deriving DecidableEq, Repr

/-- What the head is doing. -/
inductive HeadPhase where
  | idle
  /-- The ring waits for its ENUM to return. -/
  | ringEnum
  | ident (pos : Nat) (down : Bool)
  /-- A PING to a position, with the one-way delays measured so far. -/
  | ping (pos : Nat) (down : Bool) (got : List Nat)
  /-- Reading a position; `left` are the positions still to read, each with its port. -/
  | reading (cur : Option (Nat × Bool)) (left : List (Nat × Bool))
  deriving DecidableEq, Repr

/-- A member as the head knows it (`HBD_MEM_DATA`). -/
structure HbMember where
  pos : Nat
  addr : Nat := 0
  enumerated : Bool := false
  /-- It was reached through HB_DN. -/
  viaDn : Bool := false
  /-- Its address differs from its position (R414). -/
  out : Bool := false
  version : Nat := 0
  digest : Nat := 0
  cfgMis : Bool := false
  delayUp : Nat := 0
  delayDn : Nat := 0
  /-- The payload of its last response, 62 bytes, and the version it was sent in. -/
  resp : List Nat := []
  /-- It answered in the sweep in progress, and that response was merged or not. -/
  answered : Bool := false
  split : Bool := false
  silent : Bool := false
  /-- Silence count in ms (R426). -/
  silence : Nat := 0
  unmon : Bool := false
  /-- The set-point planned for it (R428). -/
  x : Option Int := none
  /-- It was missing in the last sweep and is tried again. -/
  missing : Bool := false
  deriving DecidableEq, Repr

/-- The results of the aperture of a sweep, as a response carries them (R420): the sweep, APT, and the bytes of the
cells, the current and the segment sum. -/
structure HbSample where
  sweep : Nat
  apt : Nat
  cells : List Nat
  current : List Nat
  vsum : List Nat
  deriving DecidableEq, Repr

/-- The Hatband chain logic of the cell side. -/
structure HbState where
  role : HbRole := .unenumerated
  pos : Nat := 0
  addr : Option Nat := none
  addrMismatch : Bool := false
  listening : Bool := false
  /-- Port of the PING whose ECHO is due: true for HB_UP. -/
  echoDue : Option Bool := none
  /-- ALIVE of the last frame sent, and last accepted per SRC. -/
  alive : Nat := 0
  aliveOf : List (Nat × Nat) := []
  enumAlive : Nat := 0
  enumSent : Bool := false
  version : Nat := 0
  split : Nat := 0
  delayUp : Nat := 0
  delayDn : Nat := 0
  chainTime : Nat := 0
  sweep : Nat := 0
  /-- A TRIGGER has been received since enumeration. -/
  swept : Bool := false
  apt : Option Nat := none
  tcorr : Bool := false
  corrSweeps : Nat := 0
  corrTimes : Nat := 0
  corrLast : Int := 0
  /-- Operating second of the last `CHAIN_CORRECTION` and of the last `HBD_ALIVE` event. -/
  corrAt : Option Nat := none
  aliveAt : Option Nat := none
  ringBroken : Bool := false
  strOpen : Nat := 0
  /-- A string lead holds its lines because its STR bit reads open. -/
  leadOpen : Bool := false
  orphanDemand : Bool := false
  members : List HbMember := []
  /-- Milliseconds since a frame of the head was last heard, up to 2,000 (R424, R425). -/
  silentMs : Nat := 0
  /-- The member records as the Docent last copied them into the HBD window. -/
  window : List HbMember := []
  /-- Devices enumerated including the head; the first enumeration's count (R426). -/
  count : Nat := 0
  firstCount : Nat := 0
  phase : HeadPhase := .idle
  enumDue : Bool := false
  /-- Chain time of the sweep's aperture, its consecutive missing positions, and whether it is a re-sweep. -/
  tap : Nat := 0
  missRun : Nat := 0
  /-- Last position reached upward in the sweep in which the ring broke (R422). -/
  breakUp : Option Nat := none
  resweep : Bool := false
  resweepDue : Bool := false
  resweeps : Nat := 0
  missing : Nat := 0
  result : Nat := 0
  /-- Set-point in force and whether it is held (R429). -/
  x : Int := 0
  xHeld : Bool := false
  /-- Results of the last triggered aperture (R420). -/
  sample : Option HbSample := none
  /-- The head has read its own results in this sweep (R421). -/
  ownRead : Bool := false
  /-- The report of the Docent: VALID, and bytes 52 to 61 of the response (R384, R420). -/
  docent : Option (Bool × List Nat) := none
  deriving DecidableEq, Repr

/-! ## Safe blackout (R432 to R455) -/

/-- States of the light function (R434). -/
inductive LightSt where
  | stopped | closing | run | ramp | delay | safe
  deriving DecidableEq, Repr

/-- States of the segment function (R434). -/
inductive SegSt where
  | stopped | closing | run
  deriving DecidableEq, Repr

/-- One demand channel as one core sees it (R438). -/
structure SafInput where
  /-- Accepted state is demand. -/
  demand : Bool := true
  /-- Consecutive samples that differ from the accepted state. -/
  run : Nat := 0
  deriving DecidableEq, Repr

/-- One demand channel as both cores have accepted it (R436, R439, R440). -/
structure SafChan where
  demand : Bool := true
  /-- Ticks of its filtered transitions within the last 100, newest first. -/
  trans : List Nat := []
  deriving DecidableEq, Repr

/-- What one core holds of its own (R435, R436). -/
structure SafSide where
  input : Vector SafInput 4 := Vector.replicate 4 {}
  /-- Confirmed feedback (open), and agreeing samples of a change (R444). -/
  fb : Vector Bool 2 := Vector.replicate 2 false
  fbRun : Vector Nat 2 := Vector.replicate 2 0
  /-- Readback of SQ1_A, SQ1_B, SQ2_A, SQ2_B, one bit each. -/
  rb : Nat := 0
  /-- Its 4-bit alive counter, and the alive count last expected of the other core (R11, R436). -/
  alive : Nat := 0
  heard : Nat := 0
  /-- Its copy of the configuration: IN_CTL, TD, RAMP, OUT_CTL (R450). -/
  cfg : List Word := [0x00050403, 0x5, 0xA0A, 0x000A003F]
  deriving DecidableEq, Repr

/-- The safety cores. Decisions marked `due` were taken at the last tick and act at the next (R436). -/
structure SafState where
  tick : Nat := 0
  a : SafSide := {}
  b : SafSide := {}
  chan : Vector SafChan 4 := Vector.replicate 4 {}
  light : LightSt := .stopped
  seg : SegSt := .stopped
  /-- Gate of the light function, its value at the start of the ramp, the step reached, ticks of DELAY left. -/
  gate : Nat := 0
  l0 : Nat := 0
  j : Nat := 0
  delayLeft : Nat := 0
  /-- Commanded levels of SQ1_A, SQ1_B, SQ2_A, SQ2_B, and the ticks of the last change of each output. -/
  out : Vector Bool 4 := Vector.replicate 4 false
  outAt : Vector Nat 2 := Vector.replicate 2 0
  /-- Feedback as both cores have confirmed it (open), and whether it has been confirmed since the last change
  of its output in the state that the output asks for. -/
  fb : Vector Bool 2 := Vector.replicate 2 false
  fbOk : Vector Bool 2 := Vector.replicate 2 false
  /-- Tick until which each feedback is not evaluated after a pulse. -/
  fbHold : Vector Nat 2 := Vector.replicate 2 0
  /-- The channel in its test pulse, and the outputs whose pulse was abandoned. -/
  pulse : Option Nat := none
  abandoned : Nat := 0
  /-- First channel of each input whose partner has not followed: the tick and the state it took (R439). -/
  follow : Vector (Option (Nat × Bool)) 2 := Vector.replicate 2 none
  lineA : Bool := false
  lineB : Bool := false
  /-- Ticks for which both lines have toggled, up to 10. -/
  lineTicks : Nat := 0
  lightDue : Bool := false
  /-- The light demand came within a pulse of SQ1 and skips ramp and delay (R446). -/
  skipRamp : Bool := false
  segDue : Bool := false
  safeDue : Bool := false
  releaseLight : Bool := false
  releaseSeg : Bool := false
  runLight : Bool := false
  runSeg : Bool := false
  stopLight : Bool := false
  stopSeg : Bool := false
  request : Bool := false
  locked : Bool := false
  inSafe : Bool := false
  /-- `SAF_FAULT`. -/
  fault : Nat := 0
  /-- Consecutive ticks with a disagreeing field and with a bad message. -/
  differ : Nat := 0
  badMsg : Nat := 0
  refuseLight : Nat := 0
  refuseSeg : Nat := 0
  refused : Nat := 0
  demands : Nat := 0
  releases : Nat := 0
  /-- Configuration in force of each function (R450). -/
  cfgLight : List Word := [0x00050403, 0x5, 0xA0A, 0x000A003F]
  cfgSeg : List Word := [0x00050403, 0x5, 0xA0A, 0x000A003F]
  deriving DecidableEq, Repr

/-! ## Thermal management (R456 to R468) -/

/-- One lamp sensor. Temperatures in 1/16 °C. -/
structure LampSensor where
  t : Int := 0
  isOpen : Bool := false
  short : Bool := false
  /-- A reading has been taken; the reading of the previous round may be compared. -/
  valid : Bool := false
  faulty : Bool := false
  bad : Nat := 0
  good : Nat := 0
  failed : Bool := false
  /-- Last value that was not faulty. -/
  held : Option Int := none
  eff : Int := 0
  zone : Nat := 0
  /-- Rounds in a row that this zone has stayed more than HYST below its threshold at the tile level. -/
  below : Nat := 0
  deriving DecidableEq, Repr

/-- The orderly stop (R464, R465). -/
inductive StopSt where
  | none
  | ramping (h0 n j : Nat)
  | stopped
  deriving DecidableEq, Repr

/-- Thermal management. -/
structure ThmState where
  lamp : Vector LampSensor 8 := Vector.replicate 8 {}
  /-- Enabled sensors of the last round. -/
  enabled : Nat := 0
  die : Vector Int 4 := Vector.replicate 4 0
  dieZone : Vector Nat 4 := Vector.replicate 4 0
  /-- Rounds in a row that each die zone has stayed more than HYST below THR. -/
  dieBelow : Vector Nat 4 := Vector.replicate 4 0
  level : Nat := 0
  hold : Bool := false
  stop : StopSt := .none
  /-- Consecutive rounds with a lamp or a die at or above its stop threshold, and cool rounds. -/
  hotLamp : Nat := 0
  hotDie : Nat := 0
  cool : Nat := 0
  hardCut : Bool := false
  /-- H of the last frame whose G was fixed. -/
  cap : Nat := 65535
  deriving DecidableEq, Repr

/-! ## Check-value units (R469 to R476) -/

/-- One unit. CTL, POLY, INIT, XOROUT and EXPECT lie in `regs`. -/
structure CvuState where
  run : Nat := 0xFFFFFFFF
  bytes : Nat := 0
  cmp : Nat := 0
  first : Bool := true
  last : Nat := 0
  skipped : Nat := 0
  /-- The timeout since the last accepted value has been reported. -/
  stale : Bool := false
  deriving DecidableEq, Repr

/-! ## Calibration of the logic side (R498 to R509) -/

/-- Calibration. -/
structure CalState where
  /-- In-service values by coefficient word (R506); an unlisted word holds its factory value. -/
  coef : List (Nat × Int) := []
  /-- Last foreground value of lane words, from which background drift counts. -/
  fg : List (Nat × Int) := []
  /-- Lane coefficient writes that wait for their next alignment marker. -/
  laneNext : List (Nat × Int) := []
  /-- Consecutive rejections by word; the words rejected or restored from fuses that have not been accepted
  since; `CAL_STAT.RECOVERY` (R504, R505). -/
  rejRun : List (Nat × Nat) := []
  owed : List Nat := []
  recovery : Bool := false
  /-- Access open, with its cause 1 to 3. -/
  access : Option Nat := none
  laneRuns : Nat := 0
  laneRejects : Nat := 0
  laneTime : Nat := 0
  cellRuns : Nat := 0
  cellRejects : Nat := 0
  cellTime : Nat := 0
  /-- Lanes with a background pass in progress, each with its next trim. -/
  passes : List (Nat × Nat) := []
  dirty : Bool := false
  deriving DecidableEq, Repr

/-! ## Firmware, fuses, debug port -/

/-- A firmware image slot of the archive (R515): version, verified by the last VERIFY, acceptable at start
(signature and key), words written since the last erase. -/
structure FwSlot where
  version : Nat
  signed : Bool
  words : List (Nat × Word)
  deriving DecidableEq, Repr

/-- Firmware update (R515 to R518). -/
structure FwState where
  running : Nat := 0
  boot : Nat := 0
  busyErase : Bool := false
  busyVerify : Bool := false
  verified : Bool := false
  unconf : Bool := false
  switchReq : Bool := false
  fallbackReq : Bool := false
  ready : Bool := true
  /-- Operating seconds of the lock-step faults of the unconfirmed image. -/
  locksteps : List Nat := []
  previous : Bool := false
  deriving DecidableEq, Repr

/-- Fuses (R539 to R541): words as blown, as sensed, and the uncorrectable words of the last sensing. -/
structure FuseState where
  blown : List (Nat × Word) := []
  sensed : List (Nat × Word) := []
  eccBad : List Nat := []
  busy : Option (Nat × Word) := none
  result : Nat := 0
  deriving DecidableEq, Repr

/-- Instructions of the debug port (R543). -/
inductive JtagIr where
  | extest | idcode | samplePreload | docentHalt | bypass
  deriving DecidableEq, Repr

/-- The debug port. -/
structure DebugState where
  ir : JtagIr := .idcode
  /-- Selected data register, its bits as a number. -/
  dr : Nat := 0
  boundary : List Bool := []
  deriving DecidableEq, Repr

/-! ## Archive (R66, R67, R280, R355, R370, R488 to R496, R505, R515) -/

/-- An archived table (R280). -/
structure ArcTable where
  words : List (Nat × Word)
  w : Nat
  h : Nat
  d : Nat
  crc : Nat
  deriving DecidableEq, Repr

/-- The archived fault map (R355). -/
structure ArcFaults where
  map : List (Nat × Nat)
  declared : List FaultEntry
  w : Nat
  h : Nat
  mapCrc : Nat
  crc : Nat
  deriving DecidableEq, Repr

/-- A Patina snapshot slot (R370). -/
structure ArcSnap where
  dose : List (Nat × Nat)
  opsec : Nat
  frame : Nat
  w : Nat
  h : Nat
  board : Word
  curve : List (Nat × Nat)
  /-- The CRC-32C over everything, written last. -/
  crc : Nat
  deriving DecidableEq, Repr

/-- A record of the Registrar: its 64 bytes and whether the valid mark has been written (R489, R490). -/
structure Record where
  bytes : List Nat
  crcOk : Bool
  deriving DecidableEq, Repr

/-- The archive. -/
structure Archive where
  aon : Vector (Option AonSlot) 2 := Vector.replicate 2 none
  aonLast : Nat := 1
  tables : Vector (Option ArcTable) 4 := Vector.replicate 4 none
  faults : Option ArcFaults := none
  /-- The curves of Patina, archived as table data, and their CRC. -/
  curves : Option (List (Nat × Nat) × Nat) := none
  snap : Vector (Option ArcSnap) 2 := Vector.replicate 2 none
  snapLast : Nat := 1
  /-- The in-service calibration values and their CRC (R505). -/
  cal : Option (List (Nat × Int) × Nat) := none
  /-- Records by slot: the permanent region and the rolling region (R491). -/
  perm : List (Nat × Record) := []
  roll : List (Nat × Record) := []
  fw : Vector FwSlot 2 := Vector.replicate 2 ⟨0x0100, true, []⟩
  boot : Nat := 0
  deriving DecidableEq, Repr

/-! ## What the block puts out -/

/-- A thing that leaves the block. The list of them is the model's own field. `driver`: a LAT pulse of `lat` rising DCK edges
(R312); `train`: so many words of the training pattern (R323); `gck`: GCK of a group starts or stops (R286); `gckBurst`: a
burst of a group, so many SCAN cycles after `SOB` (R341); `row`: the row bus, from an edge of the line visit on where one is
named (R330); `glkOut`: GLK_OUT rises or falls (R296). -/
inductive Output where
  | mio (word : Word)
  | amk (port lane count : Nat)
  | linkMsg (port : Nat) (kind field : Nat)
  | block (port lane : Nat) (b : Block)
  | prbs (port lane : Nat) (start : BitVec 31) (inv : Bool)
  | ack (port seq : Nat)
  | nak (port seq : Nat)
  | credit (port pool : Nat) (inf : Bool) (hdr data : Nat)
  | packet (port seq : Nat) (p : TxPacket)
  | driver (group : Nat) (c : DrvCmd) (lat : Nat)
  | line (chain row : Nat) (words : List Nat)
  /-- A Hatband frame: its port, whether it is repeated, its fields, and the level of the line in each half bit. -/
  | hatband (up again : Bool) (f : HbFrame) (line : List Bool)
  | train (chain words : Nat)
  | gck (group : Nat) (runs : Bool)
  | gckBurst (group at' edges : Nat)
  | row (edge : Option Nat) (rowen : Bool) (ra : Nat)
  | glkOut (high : Bool)
  /-- The bits that leave at TDO, first bit first. -/
  | tdo (bits : List Bool)
  deriving DecidableEq, Repr

/-- The whole block. -/
structure State where
  /-- Commands that wait, first in, first out. -/
  pending : List Instr := []
  out : List Output := []
  /-- Counter of free values (the model's own; `Config.freeNat` is applied to it). -/
  free : Nat := 0
  regs : RegFile := []
  act : RegFile := []
  cbits : RegFile := []
  evt : EventState := {}
  rgs : RegistrarState := {}
  hnd : HandlingState := {}
  aon : AonState := {}
  pwr : PowerState := {}
  acc : AccessState := {}
  port : Vector PortState 4 := Vector.replicate 4 {}
  ctx : Vector CtxState 4 := Vector.replicate 4 {}
  cur : CuratorState := {}
  layer : Vector LayerState 16 := Vector.replicate 16 {}
  /-- The layers as the composition in progress and the one that ended last used them (R231). -/
  layComp : Vector LayerState 16 := Vector.replicate 16 {}
  layEnd : Vector LayerState 16 := Vector.replicate 16 {}
  pix : PixState := {}
  scn : ScanState := {}
  cmt : CommitState := {}
  cch : ChainState := {}
  dia : DiaState := {}
  pat : PatState := {}
  fen : FenState := {}
  cel : CellState := {}
  hb : HbState := {}
  saf : SafState := {}
  thm : ThmState := {}
  cvu : Vector CvuState 8 := Vector.replicate 8 {}
  cal : CalState := {}
  fw : FwState := {}
  fuse : FuseState := {}
  dbg : DebugState := {}
  arc : Archive := {}
  deriving DecidableEq, Repr

/-- The machine right after the release of a power-on reset (R75, R79), before any PLL has locked and before the
Docent starts. The archive holds no record, table, map, snapshot or calibration (log entry 10), so that AON
counts from 0 (R67); the fuses hold the words of log entry 11. -/
def State.reset : State where
  aon := { pwrcyc := 1 }
  arc := { aon := #v[some ⟨0, 1⟩, none], aonLast := 0 }
  evt := { waiting :=
    [(.core, { code := 0x1008, sev := 0, inst := 0, d0 := 1, d1 := 1 }),
     (.aon, { code := 0x1006, sev := 3, inst := 0 })] }
  cbits := [(512, 1), (513, 1), (514, 1), (515, 1), (516, 1)]
  fuse := { blown := [(2, 1), (5, 1)], sensed := [(2, 1), (5, 1)] }

end Sys2Proof.Machine
end

