-- ==== Sys2Proof/Machine/Flags.lean ====
section
/-! DEFINITION. Flags and events: the five copies of a class C register (R100), the clearing of bits by reads
(R100) and by writes of 1 (R111), and the raising of events at their sources (R39, R192). -/

namespace Sys2Proof.Machine

/-- Reader number: 0 to 3 for the hosts, 4 for the management port (R481). -/
def readerNo : Reader → Nat
  | .host h => h.val
  | .mgmt => 4

/-- Key of a reader's copy of a class C register, or of its latch. -/
def copyKey (addr r : Nat) : Nat := 8 * addr + r

/-- The copy of one reader (R100). -/
def State.cCopy (s : State) (addr r : Nat) : Word := kget 0 s.cbits (copyKey addr r)

/-- The copy of one reader replaced. -/
def State.putC (s : State) (addr r : Nat) (w : Word) : State :=
  { s with cbits := kput 0 s.cbits (copyKey addr r) w }

/-- Copies with bits set in that of one reader. -/
def orCopy (m : RegFile) (addr r mask : Nat) : RegFile :=
  kput 0 m (copyKey addr r) (kget 0 m (copyKey addr r) ||| BitVec.ofNat 32 mask)

/-- Bits set in one reader's copy. -/
def State.setC1 (s : State) (addr r mask : Nat) : State := { s with cbits := orCopy s.cbits addr r mask }

/-- Bits set in all five copies (R100). -/
def State.setC (s : State) (addr mask : Nat) : State :=
  { s with cbits :=
      orCopy (orCopy (orCopy (orCopy (orCopy s.cbits addr 0 mask) addr 1 mask) addr 2 mask) addr 3 mask) addr 4 mask }

/-- Bits cleared in one reader's copy: those of `mask` (R100, R111). -/
def State.clearC1 (s : State) (addr r : Nat) (mask : Word) : State :=
  s.putC addr r (s.cCopy addr r &&& ~~~ mask)

/-- What the cell side reports reaches the logic side's storage: the barrier channel carries frames, and neither a
reset nor stand-by stops CORE (R37, R38, R81). -/
def State.mirrorOpen (s : State) : Bool := s.pwr.barrierOk && !s.pwr.inReset && !s.pwr.standby

/-- A status bit that the cell side reports crosses the barrier: it is set when the storage takes it and waits
otherwise (R37, R38, R81). -/
def State.setCel (s : State) (mask : Nat) : State :=
  if s.mirrorOpen then s.setC Reg.CEL_ERR mask
  else { s with cel := { s.cel with errPend := s.cel.errPend ||| mask } }

/-- The same for `HBD_ERR` (R562). -/
def State.setHbd (s : State) (mask : Nat) : State :=
  if s.mirrorOpen then s.setC Reg.HBD_ERR mask
  else { s with cel := { s.cel with hbErrPend := s.cel.hbErrPend ||| mask } }

/-- Bits that waited for the barrier channel or for CORE cross once they can (R38, R81, R564). -/
def State.flushErr (s : State) : State :=
  if s.mirrorOpen then
    let s1 := (s.setC Reg.CEL_ERR s.cel.errPend).setC Reg.HBD_ERR s.cel.hbErrPend
    { s1 with cel := { s1.cel with errPend := 0, hbErrPend := 0 } }
  else s

/-- An event waits at its source, behind those already there (R39, R41, R42). -/
def State.raiseEv (s : State) (src : Source) (e : Event) : State :=
  { s with evt := { s.evt with waiting := s.evt.waiting ++ [(src, e)] } }

/-- An event of a kind, with its source instance and data words (R192). -/
def State.raise (s : State) (src : Source) (k : EvKind) (inst : Nat := 0)
    (d0 : Nat := 0) (d1 : Nat := 0) (d2 : Nat := 0) : State :=
  s.raiseEv src { code := k.code, sev := k.sev, inst := inst,
                  d0 := d0 % 2 ^ 32, d1 := d1 % 2 ^ 32, d2 := d2 % 2 ^ 32 }

/-- An event that goes to one context only (R193). -/
def State.raiseTo (s : State) (c : Nat) (src : Source) (k : EvKind) (inst : Nat := 0)
    (d0 : Nat := 0) (d1 : Nat := 0) (d2 : Nat := 0) : State :=
  s.raiseEv src { code := k.code, sev := k.sev, inst := inst, d0 := d0 % 2 ^ 32, d1 := d1 % 2 ^ 32,
                  d2 := d2 % 2 ^ 32, owner := some c }

/-- Something leaves the block. -/
def State.emit (s : State) (o : Output) : State := { s with out := s.out ++ [o] }

/-- Several things leave the block, in order. -/
def State.emits (s : State) (os : List Output) : State := { s with out := s.out ++ os }

end Sys2Proof.Machine
end

