-- ==== Sys2Proof/Machine/Ops.lean ====
section
/-! DEFINITION. The operations that several families share: where a register lies, what it holds, free
values, the resets of the logic side and of the cell side (R75 to R79), and small control operations. -/

namespace Sys2Proof.Machine

/-! ## Registers by address -/

/-- The window that an address lies in, with its number in the address map, and the instance (R109). -/
def windowAt (addr : Nat) : Option (Nat × Window × Nat) :=
  match windows.findIdx? (fun w => decide (w.base ≤ addr) && decide (addr < w.base + w.count * w.size)) with
  | none => none
  | some i =>
    match windows[i]? with
    | none => none
    | some w => some (i, w, (addr - w.base) / w.size)

/-- The register at a word-aligned address: window number, instance and row (R109). -/
def rowAt (addr : Nat) : Option (Nat × Nat × RegRow) :=
  match windowAt addr with
  | none => none
  | some (i, w, n) =>
    match w.rows.find? (fun r => r.off == (addr - w.base) % w.size) with
    | none => none
    | some r => some (i, n, r)

/-- `YZL_PORT_CTL` of a port after reset in legacy mode: 10.3125 Gbaud, and only P[0] enabled (R137, R200). -/
def legacyPortCtl (inst : Nat) : Nat := if inst = 0 then 0xD else 0xC

/-- `CCH_DCK` after reset by VIOC class, where the reset divider is the smallest that the class allows. -/
def resetDck (vioc : Nat) : Nat := if vioc = 0 then 2 else if vioc = 1 then 3 else 4

/-- What a register holds after reset, by mode and VIOC class; 0 where no register lies. -/
def resetWord (legacy : Bool) (vioc addr : Nat) : Word :=
  match rowAt addr with
  | none => 0
  | some (win, inst, r) =>
    if win = 4 ∧ r.off = 0x30 then (if inst = 0 then 0xFFFF else 0)
    else if win = 9 ∧ r.off = 8 then BitVec.ofNat 32 ((r.reset / 16) * 16 + resetDck vioc)
    else if legacy ∧ win = 3 ∧ r.off = 0 then BitVec.ofNat 32 (legacyPortCtl inst)
    else if legacy ∧ win = 6 ∧ r.off = 0 ∧ 8 ≤ inst then BitVec.ofNat 32 (r.reset / 2 * 2)
    else if legacy ∧ addr = Reg.SCN_SH_MODE then BitVec.ofNat 32 (r.reset / 4 * 4)
    else BitVec.ofNat 32 r.reset

/-- What a register that only holds what was written holds. -/
def State.reg (s : State) (addr : Nat) : Word :=
  kget (resetWord s.pwr.legacy s.pwr.viocClass addr) s.regs addr

/-- A register given a new word. -/
def State.setReg (s : State) (addr : Nat) (w : Word) : State :=
  { s with regs := kput (resetWord s.pwr.legacy s.pwr.viocClass addr) s.regs addr w }

/-- A field of a register. -/
def State.rfld (s : State) (addr lo n : Nat) : Nat := fld (s.reg addr) lo n

/-- A field of a register replaced. -/
def State.setRfld (s : State) (addr lo n v : Nat) : State :=
  let w := (s.reg addr).toNat
  s.setReg addr (BitVec.ofNat 32 (w - natBits w lo n * 2 ^ lo + v % 2 ^ n * 2 ^ lo))

/-- The address of a register in an instance of its window. -/
def inst (base size n : Nat) : Nat := base + size * n

/-- The word of a captured register in effect. -/
def State.actReg (s : State) (addr : Nat) : Word :=
  kget (resetWord s.pwr.legacy s.pwr.viocClass addr) s.act addr

/-- A field of a captured register in effect. -/
def State.afld (s : State) (addr lo n : Nat) : Nat := fld (s.actReg addr) lo n

/-! ## Numbered parts -/

/-- A port changed. -/
def State.modPort (s : State) (p : Nat) (f : PortState → PortState) : State :=
  { s with port := vmod s.port p f }

/-- A lane of a port changed. -/
def State.modLane (s : State) (p l : Nat) (f : LaneState → LaneState) : State :=
  s.modPort p (fun q => { q with lane := vmod q.lane l f })

/-- A context changed. -/
def State.modCtx (s : State) (c : Nat) (f : CtxState → CtxState) : State :=
  { s with ctx := vmod s.ctx c f }

/-- A layer changed. -/
def State.modLayer (s : State) (n : Nat) (f : LayerState → LayerState) : State :=
  { s with layer := vmod s.layer n f }

/-- A cell channel changed. -/
def State.modCell (s : State) (n : Nat) (f : CellChan → CellChan) : State :=
  { s with cel := { s.cel with cell := vmod s.cel.cell n f } }

/-- A cell thermistor changed. -/
def State.modSensor (s : State) (n : Nat) (f : CellSensor → CellSensor) : State :=
  { s with cel := { s.cel with sensor := vmod s.cel.sensor n f } }

/-- A check-value unit changed. -/
def State.modCvu (s : State) (n : Nat) (f : CvuState → CvuState) : State :=
  { s with cvu := vmod s.cvu n f }

/-- A table of the pixel pipeline changed. -/
def State.modTable (s : State) (n : Nat) (f : TableState → TableState) : State :=
  { s with pix := { s.pix with tbl := vmod s.pix.tbl n f } }

/-- A column chain changed. -/
def State.modChain (s : State) (n : Nat) (f : ChainLane → ChainLane) : State :=
  { s with cch := { s.cch with lane := vmod s.cch.lane n f } }

/-! ## Free values -/

/-- A fresh free value: nothing constrains it. -/
def State.fresh (s : State) : Nat × State := (Config.freeNat s.free, { s with free := s.free + 1 })

/-- A quotient whose rounding the spec leaves open: rounded to the nearest or toward zero, whichever the free
constant says where the two differ (log entry 3). 0 for a divisor of 0. -/
def openRound (n d : Int) : Int :=
  let q := Int.tdiv n d
  let r := (Int.tmod n d).natAbs
  if d = 0 then 0
  else if 2 * r < d.natAbs then q
  else if Config.roundUp n d then (if (n < 0) = (d < 0) then q + 1 else q - 1) else q

/-- A quotient rounded to the nearest, where the spec writes `round`; halves go where the free constant says
(log entry 3). 0 for a divisor of 0. -/
def roundNear (n d : Int) : Int :=
  let q := Int.tdiv n d
  let r := (Int.tmod n d).natAbs
  let away := if (n < 0) = (d < 0) then q + 1 else q - 1
  if d = 0 then 0
  else if 2 * r < d.natAbs then q
  else if d.natAbs < 2 * r then away
  else if Config.roundUp n d then away else q

/-! ## Control -/

/-- A change made only where a condition holds. -/
def State.onlyIf (s : State) (b : Bool) (f : State → State) : State := if b then f s else s

/-- The answer of every meaning that is not ill-formed. -/
abbrev Out := Host.Outcome State Fault Refusal

/-- The logic side is out of reset and not in stand-by (R75, R81). -/
def State.released (s : State) : Bool := !s.pwr.inReset && !s.pwr.standby

/-- CORE runs: the logic side is released and the CORE PLL has locked (R70, R75, R81). -/
def State.awake (s : State) : Bool := s.released && s.pwr.coreLock

/-- The Docent executes its image (R20, R81). -/
def State.docentRuns (s : State) : Bool := s.awake && decide (s.pwr.docent = .running)

/-- The active timing, geometry and counters that many rules use. -/
def State.width (s : State) : Nat := fld (s.actReg Reg.PIX_GEOM) 0 12

/-- Active height. -/
def State.height (s : State) : Nat := fld (s.actReg Reg.PIX_GEOM) 16 11

/-- `GLB_MODE` (R82, R83). -/
def State.glbMode (s : State) : Nat :=
  s.pwr.viocClass * 16 + b2n s.pwr.legacyUnst * 2 + b2n s.pwr.legacy

/-- Operating seconds (R66). -/
def State.opsec (s : State) : Nat := s.aon.opsec

end Sys2Proof.Machine
end

