-- ==== Sys2Proof/Machine/Calibration.lean ====
section
/-! DEFINITION. Calibration and trimming (R498 to R509): ranges and plausibility, the in-service values, the
lane passes, the runs, coefficient access and the archive copy. -/

namespace Sys2Proof.Machine

/-! ## Coefficient words -/

/-- The range of a coefficient word (R498, R501); none for a reserved word and beyond word 0xA5. -/
def calRange (s : State) (w : Nat) : Option (Int × Int) :=
  if w < 0x80 then
    (if w % 16 ≤ 7 then some (-63, 63) else if w % 16 = 8 then some (-16, 16) else none)
  else if w ≤ 0x8B then some (-100, 100)
  else if w ≤ 0x97 then some (-50, 50)
  else if w = 0x98 then some (-100, 100)
  else if w = 0x99 then some (-50, 50)
  else if w ≤ 0xA5 then
    let l : Int := s.rfld Reg.CEL_XCAL_CTL 16 8
    some (-(l * 100), l * 100)
  else none

/-- The first row of R504: inside the range and at neither end. -/
def calInRange (s : State) (w : Nat) (v : Int) : Bool :=
  match calRange s w with
  | none => false
  | some (lo, hi) => decide (lo < v) && decide (v < hi)

/-- The factory value of a word, from the fuses as sensed (R539). -/
def calFactory (s : State) (w : Nat) : Int :=
  sext 16 (fld (kget 0 s.fuse.sensed (16 + w / 2)) (16 * (w % 2)) 16)

/-- The in-service value of a word (R506). -/
def calValue (s : State) (w : Nat) : Int := kget (calFactory s w) s.cal.coef w

/-- The bounds of R504 on how far a value may lie from an earlier one. -/
def calNear (a b : Int) (n : Nat) : Bool := decide ((a - b).natAbs ≤ n)

/-- A word taken off the list of words that RECOVERY waits for (R505); RECOVERY clears with the last, and with
it a coefficient access that it opened (R506). -/
def State.calSettle (s : State) (w : Nat) : State :=
  let owed := s.cal.owed.filter (· != w)
  let rec' := s.cal.recovery && !owed.isEmpty
  let acc := if s.cal.access = some 3 ∧ ¬ rec' then none else s.cal.access
  { s with cal := { s.cal with owed := owed, recovery := rec', access := acc,
                               rejRun := kdel s.cal.rejRun w } }

/-- A value accepted into service (R504). -/
def State.calAccept (s : State) (w : Nat) (v : Int) : State :=
  let s := s.calSettle w
  { s with cal := { s.cal with coef := kset s.cal.coef w v, dirty := true } }

/-- A value rejected under R504: the value in force stays, the event carries the word and the value, and the
third rejection in a row sets RECOVERY. -/
def State.calReject (s : State) (w : Nat) (v : Int) : State :=
  let lane := decide (w < 0x80)
  let n := kget 0 s.cal.rejRun w + 1
  let s := { s with cal := { s.cal with
    rejRun := kset s.cal.rejRun w n
    owed := if w ∈ s.cal.owed then s.cal.owed else s.cal.owed ++ [w]
    recovery := s.cal.recovery || decide (3 ≤ n)
    laneRejects := if lane then satAdd 16 s.cal.laneRejects 1 else s.cal.laneRejects
    cellRejects := if lane then s.cal.cellRejects else satAdd 16 s.cal.cellRejects 1 } }
  let data := w + toTwos 16 v * 2 ^ 16
  if lane then (s.setC Reg.CAL_ERR 1).raise .core Ev.CAL_LANE_REJECT (w / 16) data
  else (s.setC Reg.CAL_ERR 2).raise .afe Ev.CAL_CELL_REJECT 12 data

/-! ## Lanes -/

/-- One trim of a foreground calibration (R499, R504): the value it converged to, or none. The last accepted
value of the lane is the in-service value. What a trim that has not converged stands at is a free value. -/
def State.calForeTrim (s : State) (lane w : Nat) (v : Option Int) : State :=
  let word := 16 * lane + w
  match v with
  | none => let q := s.fresh; q.2.calReject word (sext 16 (q.1 % 65536))
  | some v =>
    if calInRange s word v && calNear v (calValue s word) 24 then
      let s := s.calAccept word v
      { s with cal := { s.cal with fg := kset s.cal.fg word v } }
    else s.calReject word v

/-- The nine trims of a lane, in the order of the word column (R498). -/
def State.calForeTrims (s : State) (lane : Nat) : Nat → List (Option Int) → State
  | _, [] => s
  | w, v :: vs => (s.calForeTrim lane w v).calForeTrims lane (w + 1) vs

/-- A foreground calibration of lane `16·lane…` ends (R499). -/
def State.calForeground (s : State) (lane : Nat) (trims : List (Option Int)) : State :=
  let s := s.calForeTrims lane 0 trims
  let s := { s with cal := { s.cal with laneRuns := satAdd 16 s.cal.laneRuns 1, laneTime := s.opsec } }
  s.raise .core Ev.CAL_LANE_DONE lane

/-- One step of a background pass; none while a coefficient write to the lane is pending (R500, R504). -/
def State.calBackStep (s : State) (lane : Nat) (st : Nat × Int) : State :=
  let word := 16 * lane + st.1
  let old := calValue s word
  let v := old + st.2
  if s.cal.laneNext.any (fun q => q.1 / 16 == lane) then s
  else if calInRange s word v && calNear v (kget old s.cal.fg word) 16 then s.calAccept word v
  else s.calReject word v

/-- Lane `16·lane…` is in no state that stops the background pass (R500). -/
def calBackAllowed (s : State) (p l : Nat) : Bool :=
  let pt := vget s.port p
  let ln := vget pt.lane l
  decide (pt.st = .up) && hasBit pt.active l && !ln.frozen && decide (ln.retrain = .none) &&
    !s.pwr.inReset && !s.pwr.standby

/-- `LANE_BACKGROUND_CAL`: the windows of one background pass end (R500). Steps are (trim, −1 to 1). -/
def execLaneBackgroundCal (p : Fin 4) (l : Fin 2) (steps : List (Nat × Int)) (s : State) : Out :=
  let lane := 2 * p.val + l.val
  if steps.any (fun st => decide (8 < st.1) || decide (1 < st.2.natAbs)) then
    .fault (.illFormed "LANE_BACKGROUND_CAL")
  else if calBackAllowed s p l &&
      ((bitOf (s.reg Reg.CAL_CTL) 0 && s.rfld Reg.CAL_LANE_CTL 0 16 != 0) ||
        s.cal.passes.any (fun q => q.1 == lane)) then
    let s := steps.foldl (fun s st => s.calBackStep lane st) s
    let s := { s with cal := { s.cal with laneRuns := satAdd 16 s.cal.laneRuns 1, laneTime := s.opsec,
                                          passes := s.cal.passes.filter (fun q => q.1 != lane) } }
    .next (s.raise .core Ev.CAL_LANE_DONE lane)
  else .next { s with cal := { s.cal with passes := s.cal.passes.filter (fun q => q.1 != lane) } }

/-- The active lanes of the ports in UP. -/
def activeLanes (s : State) : List Nat :=
  (List.range 8).filter (fun n =>
    let pt := vget s.port (n / 2)
    decide (pt.st = .up) && hasBit pt.active (n % 2))

/-- `CAL_LANE_RUN_CMD`: a background pass on every active lane begins (R500). -/
def execCalLaneRunCmd (s : State) : Out :=
  .next { s with cal := { s.cal with passes := (activeLanes s).map (fun n => (n, 0)) } }

/-! ## Cell runs -/

/-- A cell run is requested: it starts at the next aperture, or after the run in progress (R502, R508). -/
def State.cellCalRequest (s : State) : State := { s with cel := { s.cel with calAgain := true } }

/-- `CELL_CAL_RUN`: a run that the schedule or the AFE die temperature asks for (R502). -/
def execCellCalRun (byTemp : Bool) (s : State) : Out :=
  let on := bitOf (s.reg Reg.CAL_CTL) 1 &&
    (if byTemp then s.rfld Reg.CAL_CELL_CTL 8 8 != 0 else s.rfld Reg.CAL_CELL_CTL 0 8 != 0)
  .next (s.onlyIf (on && s.pwr.barrierOk && s.cel.running) State.cellCalRequest)

/-- `CAL_CELL_RUN_CMD` (R502). -/
def execCalCellRunCmd (s : State) : Out :=
  .next (s.onlyIf (s.pwr.barrierOk && s.cel.running) State.cellCalRequest)

/-- Offset of a converter from a conversion of the internal short, `m` in 10 µV: the code in force less the
error, in steps of 20 µV for a cell and 0.1 µV for the current channel (R501, R502). -/
def calOffsetOf (s : State) (conv : Nat) (m : Int) : Int :=
  if conv < 12 then calValue s (0x80 + conv) - openRound m 2 else calValue s 0x98 - 100 * m

/-- Gain of a converter from a conversion of REF_A (1.2500 V) or of the 100.0 mV reference, `m` in 10 µV, in
steps of 0.01 % (R501, R502). -/
def calGainOf (s : State) (conv : Nat) (m : Int) : Int :=
  if conv < 12 then calValue s (0x8C + conv) - openRound ((m - 125000) * 2) 25
  else calValue s 0x99 - (m - 10000)

/-- REF_B, as read in the epoch, is within 2.0 mV of 3.3000 V (R504). -/
def refBOk (s : State) : Bool := decide (((s.cel.refB : Int) - 33000).natAbs ≤ 20)

/-- The results of converter `conv` applied at the aperture after its gain epoch (R502 to R504). A channel
whose results both pass has its failure cleared. A coefficient written meanwhile wins: the result for its word is
discarded (R508). -/
def State.cellCalApply (s : State) (conv : Nat) : State :=
  match s.cel.calOffset, s.cel.calGain with
  | some m0, some m1 =>
    let wo := if conv < 12 then 0x80 + conv else 0x98
    let wg := if conv < 12 then 0x8C + conv else 0x99
    let off := calOffsetOf s conv m0
    let gain := calGainOf s conv m1
    let written w := s.cel.coefNext.any (fun q => q.1 == w)
    let okO := calInRange s wo off && calNear off (calValue s wo) 25 && !written wo
    let okG := calInRange s wg gain && calNear gain (calValue s wg) 20 && refBOk s && !written wg
    let s := if written wo then s else if okO then s.calAccept wo off else s.calReject wo off
    let s := if written wg then s else if okG then s.calAccept wg gain else s.calReject wg gain
    if okO && okG then
      (if conv < 12 then
        s.modCell conv (fun c => { c with fail := false, run := 0, xCount := 0, xSum := 0, xOver := false })
       else { s with cel := { s.cel with iFail := false, iRun := 0 } })
    else s
  | _, _ => s

/-- The run at an aperture: results of the converter whose gain epoch has ended are applied, and the next epoch
of the run, or the next run, begins (R502). -/
def State.cellCalAperture (s : State) : State :=
  match s.cel.calRun with
  | none =>
    if s.cel.calAgain then
      { s with cel := { s.cel with calRun := some 0, calAgain := false, calOffset := none, calGain := none } }
    else s
  | some k =>
    let s := if k % 2 = 1 then s.cellCalApply (k / 2) else s
    let s := if k % 2 = 1 then { s with cel := { s.cel with calOffset := none, calGain := none } } else s
    if k + 1 < 26 then { s with cel := { s.cel with calRun := some (k + 1) } }
    else
      let s := { s with cal := { s.cal with cellRuns := satAdd 16 s.cal.cellRuns 1, cellTime := s.opsec } }
      let s := s.raise .afe Ev.CAL_CELL_DONE 12
      if s.cel.calAgain then { s with cel := { s.cel with calRun := some 0, calAgain := false } }
      else { s with cel := { s.cel with calRun := none } }

/-- The converter under calibration in the epoch in progress. -/
def calConv (s : State) : Option Nat := s.cel.calRun.map (· / 2)

/-! ## Access and storage -/

/-- The lifecycle state as the fuses were sensed: 0 TEST, 1 FIELD, 3 RETURN; an uncorrectable word and 0b10
read as FIELD (R539, R540). -/
def lifecycle (s : State) : Nat :=
  if 2 ∈ s.fuse.eccBad then 1
  else
    let l := fld (kget 0 s.fuse.sensed 2) 0 2
    if l = 2 then 1 else l

/-- The cause that opens coefficient access now, 0 for none (R506). -/
def calCause (s : State) : Nat :=
  if !s.cmt.everAccepted then 1 else if lifecycle s = 0 then 2 else if s.cal.recovery then 3 else 0

/-- A keyed write of `CAL_ACCESS` opens access where a cause holds (R506). -/
def State.calOpen (s : State) : State :=
  if calCause s = 0 then
    (s.setC1 Reg.RAC_STATUS 4 2).raise .core Ev.REG_WRITE_LOCKED 0 Reg.CAL_ACCESS 4
  else
    ({ s with cal := { s.cal with access := some (calCause s) } }).raise .core Ev.CAL_ACCESS_OPENED 12

/-- `CAL_ACCESS_OPEN`: a write of `CAL_ACCESS` by the management port (R506). -/
def execCalAccessOpen (data : Word) (s : State) : Out :=
  .next (s.onlyIf (acts data 0 && keyed data 0x96) State.calOpen)

/-- `CAL_ACCESS_CLOSE` (R506). -/
def execCalAccessClose (s : State) : Out := .next { s with cal := { s.cal with access := none } }

/-- A lane word takes its written value at the next alignment marker, a cell word at the next aperture after
the barrier crossing; it counts as accepted at once (R507). -/
def State.calWriteCoef (s : State) (w : Nat) (v : Int) : State :=
  let s := s.calSettle w
  let s := if w < 0x80 then { s with cal := { s.cal with laneNext := kset s.cal.laneNext w v } }
           else { s with cel := { s.cel with coefNext := kset s.cel.coefNext w v } }
  s.raise .core Ev.CAL_COEF_WRITTEN (if w < 0x80 then w / 16 else 12) (w + toTwos 16 v * 2 ^ 16)

/-- The index of the coefficient port. -/
def calIndex (s : State) : Nat := s.rfld Reg.CAL_COEF_INDEX 0 8

/-- The index advanced by one access (R93). -/
def State.calAdvance (s : State) : State := s.setRfld Reg.CAL_COEF_INDEX 0 8 (calIndex s + 1)

/-- The word that an open coefficient port shows. -/
def calPortWord (s : State) : Word :=
  let w := calIndex s
  if (w < 0x80 ∧ 8 < w % 16) ∨ 0xA5 < w then 0
  else mkWord [(0, toTwos 16 (calValue s w)), (16, toTwos 16 (calFactory s w))]

/-- An access to `CAL_COEF_DATA` (R506, R507): a read, or a write of a word. Answers the word read. -/
def calPort (s : State) (r : Reader) (write : Option Word) : Word × State :=
  let w := calIndex s
  match s.cal.access, write with
  | none, none => (0, s)
  | none, some d =>
    (0, (s.setC1 Reg.RAC_STATUS (readerNo r) 2).raise .core Ev.REG_WRITE_LOCKED 0 Reg.CAL_COEF_DATA
          (readerNo r + fld d 0 24 * 256) (fld d 24 8))
  | some _, none =>
    if 0xA5 < w then (0, s.setC Reg.CAL_ERR 8) else (calPortWord s, s.calAdvance)
  | some _, some d =>
    if 0xA5 < w then (0, s.setC Reg.CAL_ERR 8)
    else if w < 0x80 ∧ 8 < w % 16 then (0, s.calAdvance)
    else
      let v := sext 16 (fld d 0 16)
      if calInRange s w v then (0, (s.calWriteCoef w v).calAdvance) else (0, s.setC Reg.CAL_ERR 8)

/-- `CAL_COEF_DATA_ACCESS` (R506, R507). -/
def execCalCoefDataAccess (r : Reader) (write : Option Word) (s : State) : Out :=
  .next (calPort s r write).2

/-- The words that a lane's next alignment marker makes effective (R507). -/
def State.calLaneMarker (s : State) (lane : Nat) : State :=
  let mine := s.cal.laneNext.filter (fun q => q.1 / 16 == lane)
  { s with cal := { s.cal with
      coef := mine.foldl (fun m q => kset m q.1 q.2) s.cal.coef
      laneNext := s.cal.laneNext.filter (fun q => q.1 / 16 != lane)
      dirty := s.cal.dirty || !mine.isEmpty } }

/-- The bytes that the CRC of the archived values covers: every value as a signed word with its coefficient word in front
(R505; log entry 97). -/
def calBytes (m : List (Nat × Int)) : List Nat := m.flatMap (fun q => bytesLE 2 q.1 ++ bytesLE 4 (toTwos 32 q.2))

/-- An archived copy, where its CRC is good. -/
def calCopy (a : Option (List (Nat × Int) × Nat)) : Option (List (Nat × Int)) :=
  a.bind (fun x => if x.2 = crc32c (calBytes x.1) then some x.1 else none)

/-- `CAL_ARCHIVE`: the Docent writes every in-service value to the archive (R505). -/
def execCalArchive (s : State) : Out :=
  .next (s.onlyIf s.docentRuns (fun s =>
    { s with arc := { s.arc with cal := some (s.cal.coef, crc32c (calBytes s.cal.coef)) }, cal := { s.cal with dirty := false } }))

/-- The archived values fail their check: the factory values of these words apply (R505). -/
def State.calRestoreFail (s : State) (words : List Nat) : State :=
  let owed := s.cal.owed.filter (fun w => !words.contains w) ++ words
  (({ s with cal := { s.cal with owed := owed, recovery := true } }).setC Reg.CAL_ERR 4).raise .core
    Ev.CAL_RESTORE_FAIL 12

/-- The values restored at start (R505): lane words from the archive, and where its copy fails its check the
factory values with `CAL_RESTORE_FAIL`. An archive without a copy leaves the factory values. The cell side
keeps its own. -/
def State.calRestore (s : State) : State :=
  let kept := s.cal.coef.filter (fun q => decide (0x80 ≤ q.1))
  match s.arc.cal, calCopy s.arc.cal with
  | none, _ => { s with cal := { s.cal with coef := kept } }
  | some _, some m =>
    { s with cal := { s.cal with coef :=
        (m.filter (fun q => decide (q.1 < 0x80))) ++ kept } }
  | some _, none =>
    ({ s with cal := { s.cal with coef := kept } }).calRestoreFail ((List.range 0x80).filter (fun w => decide (w % 16 ≤ 8)))

/-- `CAL_STAT`. -/
def viewCalStat (s : State) : Word :=
  mkWord [(2, b2n s.cal.recovery), (1, b2n (!s.cal.passes.isEmpty)), (0, b2n s.cel.calRun.isSome)]

/-- The registers of the CAL window that are not plain storage. -/
def viewCal (s : State) (addr : Nat) : Option Word :=
  if addr = Reg.CAL_CMD then some 0
  else if addr = Reg.CAL_ACCESS then some (mkWord [(4, s.cal.access.getD 0)])
  else if addr = Reg.CAL_STAT then some (viewCalStat s)
  else if addr = Reg.CAL_LANE_CNT then some (mkWord [(16, s.cal.laneRuns), (0, s.cal.laneRejects)])
  else if addr = Reg.CAL_CELL_CNT then some (mkWord [(16, s.cal.cellRuns), (0, s.cal.cellRejects)])
  else if addr = Reg.CAL_LANE_TIME then some (BitVec.ofNat 32 s.cal.laneTime)
  else if addr = Reg.CAL_CELL_TIME then some (BitVec.ofNat 32 s.cal.cellTime)
  else if addr = Reg.CAL_COEF_DATA then some (if s.cal.access.isSome then calPortWord s else 0)
  else none

end Sys2Proof.Machine
end

