-- ==== Sys2Proof/Machine/Events.lean ====
section
/-! DEFINITION. Events, interrupts, the Registrar and the handling model (R39 to R42, R479 to R497, R510 to
R512, R563). -/

namespace Sys2Proof.Machine

/-! ## Waiting and stamping (R39 to R42, R482, R483) -/

/-- The fixed order in which events of one CORE cycle are stamped (R39). -/
def sourceOrder : List Source := [.sfa, .sfb, .afe, .scan, .mem, .core, .refl, .mgmt, .aon]

/-- The source can deliver into CORE now: the cell side only over a working barrier channel (R38, R39). -/
def sourceOpen (s : State) (src : Source) : Bool := decide (src ≠ .afe) || s.pwr.barrierOk

/-- The first waiting event of a source. -/
def firstOf (src : Source) (w : List (Source × Event)) : Option Event :=
  (w.find? (fun p => p.1 == src)).map (·.2)

/-- The list with its first occurrence of an event of a source taken out (R41, R42). -/
def dropEvent (x : Source × Event) : List (Source × Event) → List (Source × Event)
  | [] => []
  | p :: w => if p = x then w else p :: dropEvent x w

/-- The event that the arbiter accepts next: `SYSTEM_START` before every other (R483, R563), else the first of
the arrived sources in the fixed order that has an event (R39). -/
def nextArrival (s : State) (arrived : List Source) : Option (Source × Event) :=
  match s.evt.waiting.find? (fun p => p.2.code == Ev.SYSTEM_START.code) with
  | some p => some p
  | none =>
    (sourceOrder.filter (fun src => arrived.contains src && sourceOpen s src)).findSome? (fun src =>
      (firstOf src s.evt.waiting).map (fun e => (src, e)))

/-- The class of an event code (R479). -/
def classOf (code : Nat) : Nat := code / 256

/-- A class bit of a filter: bit `k - 1` stands for class `k` (R193, R484, R488). -/
def classOn (classes code : Nat) : Bool := decide (1 ≤ classOf code) && classes.testBit (classOf code - 1)

/-- A context is enabled (R168). -/
def ctxEnabled (s : State) (c : Nat) : Bool := bitOf (s.reg (inst Reg.HCX_CTL 0x400 c)) 0

/-- The contexts that an event concerns (R193). -/
def eventContexts (e : Event) : List Nat :=
  if classOf e.code = 1 ∨ classOf e.code = 2 then [e.inst]
  else match e.owner with
    | some c => [c]
    | none => [0, 1, 2, 3]

/-- A context receives an event (R193). -/
def ctxTakes (s : State) (e : Event) (c : Nat) : Bool :=
  let f := s.reg (inst Reg.HCX_EVT_FILTER 0x400 c)
  (eventContexts e).contains c && ctxEnabled s c && decide (fld f 16 3 ≤ e.sev) && classOn (fld f 0 16) e.code

/-- The event to the contexts' rings, where it waits to be written in stamping order (R193). -/
def State.toContexts (s : State) (x : Stamped) : State :=
  (List.range 4).foldl (fun (s : State) c =>
    if ctxTakes s x.ev c then s.modCtx c (fun q => { q with evq := q.evq ++ [x] }) else s) s

/-- The event to the management queue, or counted as lost (R484, R485). -/
def State.toMq (s : State) (x : Stamped) : State :=
  let f := s.reg Reg.EVT_MQ_CTL
  if decide (fld f 16 3 ≤ x.ev.sev) && classOn (fld f 0 16) x.ev.code then
    if s.evt.mq.length < 64 then { s with evt := { s.evt with mq := s.evt.mq ++ [x] } }
    else
      let s : State := { s with evt := { s.evt with
        mqLost := satAdd 16 s.evt.mqLost 1, mqLastLost := x.seq } }
      s.setC Reg.EVT_ERR 1
  else s

/-- An event of the severity that drives FAULT_N (R487). -/
def State.toFault (s : State) (x : Stamped) : State :=
  if s.rfld Reg.EVT_FAULT_CTL 0 3 ≤ x.ev.sev then { s with evt := { s.evt with faultPend := true } } else s

/-- One more event that the Registrar loses (R493, R494). -/
def State.rgsLose (s : State) (x : Stamped) : State :=
  let total := satAdd 32 s.rgs.lostTotal 1
  let s := s.setC Reg.EVT_ERR 2
  match s.rgs.queue.getLast?, s.rgs.queue.any (fun q => match q with | .lost _ _ => true | .ev _ => false) with
  | some _, true =>
    let queue := s.rgs.queue.map (fun q => match q with | .lost n _ => RgsItem.lost (n + 1) x.seq | e => e)
    { s with rgs := { s.rgs with queue := queue, lostTotal := total } }
  | _, _ => { s with rgs := { s.rgs with lostRun := s.rgs.lostRun + 1, lostSeq := x.seq, lostTotal := total } }

/-- The event to the Registrar's queue, or lost (R488, R493, R494). The Registrar's own `RGS_LOST` has its
record already (log entry 16). -/
def State.toRegistrar (s : State) (x : Stamped) : State :=
  let f := s.reg Reg.RGS_CTL
  let wanted := (decide (fld f 16 3 ≤ x.ev.sev) && classOn (fld f 0 16) x.ev.code) || x.ev.sev == 4 ||
    x.ev.code == Ev.REG_WRITE_LOCKED.code || x.ev.code == Ev.SYSTEM_START.code
  if !wanted || x.ev.code == Ev.RGS_LOST.code then s
  else if s.rgs.stopped || decide (256 ≤ s.rgs.queue.length) then s.rgsLose x
  else { s with rgs := { s.rgs with queue := s.rgs.queue ++ [.ev x] } }

/-! ## Handling (R510 to R512) -/

/-- The pending count of a severity. -/
def pendCount (s : State) (sev : Nat) : Nat := (s.hnd.queued.filter (fun x => x.ev.sev == sev)).length

/-- A stamped event enters the handling model (R511, R512). -/
def State.toHandling (s : State) (x : Stamped) : State :=
  match s.hnd.slot with
  | none => { s with hnd := { s.hnd with slot := some x } }
  | some y =>
    if y.ev.sev < x.ev.sev then
      { s with hnd := { s.hnd with slot := some x, suspended := y :: s.hnd.suspended } }
    else if pendCount s x.ev.sev < 255 then
      { s with hnd := { s.hnd with queued := s.hnd.queued ++ [x] } }
    else if s.hnd.saturated.contains x.ev.sev then s
    else
      let s : State := { s with hnd := { s.hnd with saturated := s.hnd.saturated ++ [x.ev.sev] } }
      s.raise .core Ev.HANDLING_SATURATED

/-- The queued event that goes first: the highest severity, then the earliest stamp (R511). -/
def bestQueued : List Stamped → Option Stamped
  | [] => none
  | x :: xs => match bestQueued xs with
    | none => some x
    | some y => if x.ev.sev < y.ev.sev then some y else some x

/-- The list without the first entry equal to one. -/
def removeOne (x : Stamped) : List Stamped → List Stamped
  | [] => []
  | y :: ys => if y = x then ys else y :: removeOne x ys

/-- The next handler takes the slot (R511), and a severity whose count has fallen below 255 may report
saturation again (R512). -/
def State.handleNext (s : State) : State :=
  let queuedBest := bestQueued s.hnd.queued
  let resume := match s.hnd.suspended, queuedBest with
    | y :: _, some q => decide (q.ev.sev ≤ y.ev.sev)
    | _ :: _, none => true
    | [], _ => false
  if resume then
    { s with hnd := { s.hnd with slot := s.hnd.suspended.head?, suspended := s.hnd.suspended.drop 1 } }
  else match queuedBest with
    | none => { s with hnd := { s.hnd with slot := none } }
    | some q =>
      let s : State := { s with hnd := { s.hnd with slot := some q, queued := removeOne q s.hnd.queued } }
      { s with hnd := { s.hnd with saturated := s.hnd.saturated.filter (fun v => decide (255 ≤ pendCount s v)) } }

/-- `HANDLER_COMPLETE`: the Docent finishes a handler (R511). -/
def execHandlerComplete (s : State) : Out :=
  .next (s.onlyIf (s.docentRuns && s.hnd.slot.isSome) State.handleNext)

/-- The arbiter stamps an event and hands it to its consumers (R39, R482). -/
def State.stamp (s : State) (src : Source) (e : Event) : State :=
  let x : Stamped := { seq := s.evt.nextSeq, ev := e, frame := s.scn.frame, opsec := s.opsec }
  let s : State := { s with evt := { s.evt with
    waiting := dropEvent (src, e) s.evt.waiting, nextSeq := wrapAdd 32 s.evt.nextSeq 1 } }
  ((((s.toContexts x).toMq x).toFault x).toRegistrar x).toHandling x

/-- `EVENT_STAMP`: one CORE cycle of the arbiter, with the sources whose events have arrived (R39, R42). While
CORE does not run nothing is stamped (R563). -/
def execEventStamp (arrived : List Source) (s : State) : Out :=
  if s.awake then
    match nextArrival s arrived with
    | none => .next s
    | some (src, e) => .next (s.stamp src e)
  else .next s

/-! ## Event entries (R192), the management queue, FAULT_N -/

/-- The eight words of an event entry with a phase bit (R192); the frame counter has 48 bits (R11). -/
def entryWords (x : Stamped) (phase : Bool) : List Nat :=
  [x.seq, x.ev.code + x.ev.sev * 2 ^ 16 + b2n phase * 2 ^ 19 + x.ev.inst % 256 * 2 ^ 24,
   x.frame % 2 ^ 32, x.frame / 2 ^ 32 % 2 ^ 16, x.opsec, x.ev.d0, x.ev.d1, x.ev.d2]

/-- The overflow entry of the management queue (R485). -/
def mqOverflow (s : State) : Stamped :=
  { seq := s.evt.mqLastLost, frame := s.scn.frame, opsec := s.opsec,
    ev := { code := Ev.EVT_RING_OVERFLOW.code, sev := 1, inst := 4, d0 := s.evt.mqLost } }

/-- The oldest entry of the management queue removed; after losses the freed entry takes the overflow entry
(R484, R485). -/
def State.mqPop (s : State) : State :=
  match s.evt.mq with
  | [] => s
  | _ :: rest =>
    if s.evt.mqLost = 0 then { s with evt := { s.evt with mq := rest } }
    else { s with evt := { s.evt with mq := rest ++ [mqOverflow s], mqLost := 0 } }

/-- `MQ_POP`. -/
def execMqPop (s : State) : Out := .next s.mqPop

/-- Every event stamped before is acknowledged (R487). -/
def State.faultAck (s : State) : State := { s with evt := { s.evt with faultPend := false } }

/-- `FAULT_ACK`. -/
def execFaultAck (s : State) : Out := .next s.faultAck

/-- The pin IRQ_N is driven low (R486). -/
def irqLow (s : State) : Bool :=
  s.awake && bitOf (s.reg Reg.EVT_IRQ_CTL) 0 && !s.evt.mq.isEmpty

/-- The pin FAULT_N is driven low (R487). -/
def faultLow (s : State) : Bool := s.pwr.inReset || decide (s.pwr.docent = .off) || s.evt.faultPend

/-! ## The Registrar (R488 to R496) -/

/-- Bytes 0 to 55 of a record (R489). -/
def recordBody (s : State) (x : Stamped) : List Nat :=
  bytesLE 4 x.seq ++ bytesLE 2 x.ev.code ++ [x.ev.sev + b2n s.pwr.legacy * 8, x.ev.inst % 256] ++
  bytesLE 6 x.frame ++ [0, 0] ++ bytesLE 4 x.opsec ++ bytesLE 4 s.aon.pwrcyc ++
  bytesLE 4 x.ev.d0 ++ bytesLE 4 x.ev.d1 ++ bytesLE 4 x.ev.d2 ++ bytesLE 4 s.rgs.recNo ++
  List.replicate 16 0

/-- A record with its CRC and its mark (R489). -/
def recordOf (s : State) (x : Stamped) : Record :=
  let body := recordBody s x
  { bytes := body ++ bytesLE 4 (crc32c body) ++ bytesLE 4 0xC35AA53C, crcOk := true }

/-- The LOST entry as a record's event (R493). -/
def lostEvent (s : State) (count seq : Nat) : Stamped :=
  { seq := seq, frame := s.scn.frame, opsec := s.opsec,
    ev := { code := Ev.RGS_LOST.code, sev := Ev.RGS_LOST.sev, inst := 0, d0 := min count (2 ^ 32 - 1) } }

/-- The block of 64 slots that a rolling write position opens is erased first (R491). -/
def eraseAhead (m : List (Nat × Record)) (slot : Nat) : List (Nat × Record) :=
  if slot % 64 = 0 then m.filter (fun p => p.1 / 64 != slot / 64) else m

/-- A slot of a region holds a valid record (R492). -/
def slotTaken (m : List (Nat × Record)) (i : Nat) : Bool := m.any (fun p => p.1 == i && p.2.crcOk)

/-- The first of `fuel` slots from `i` on without a valid record, else the slot behind them. -/
def freeWithin (m : List (Nat × Record)) : Nat → Nat → Nat
  | 0, i => i
  | fuel + 1, i => if slotTaken m i then freeWithin m fuel (i + 1) else i

/-- The first slot of the permanent region from `i` on without a valid record, 4,096 where there is none (R492). -/
def firstFree (m : List (Nat × Record)) (i : Nat) : Nat := freeWithin m (4096 - i) i

/-- A record written into the next slot (R490, R491). No valid record of the permanent region is written over. -/
def State.putRecord (s : State) (r : Record) : State :=
  if s.rgs.permNext < 4096 then
    let next := firstFree s.arc.perm (s.rgs.permNext + 1)
    { s with
      arc := { s.arc with perm := kset s.arc.perm s.rgs.permNext r }
      rgs := { s.rgs with permNext := next, recNo := wrapAdd 32 s.rgs.recNo 1,
                          permFull := decide (4096 ≤ next), fails := 0 } }
  else
    { s with
      arc := { s.arc with roll := kset (eraseAhead s.arc.roll s.rgs.rollNext) s.rgs.rollNext r }
      rgs := { s.rgs with rollNext := (s.rgs.rollNext + 1) % 65536, recNo := wrapAdd 32 s.rgs.recNo 1,
                          fails := 0 } }

/-- The front entry leaves the queue; a running LOST count takes the freed entry (R493). -/
def State.rgsAdvance (s : State) : State :=
  let rest := s.rgs.queue.drop 1
  if s.rgs.lostRun = 0 then { s with rgs := { s.rgs with queue := rest } }
  else { s with rgs := { s.rgs with queue := rest ++ [.lost s.rgs.lostRun s.rgs.lostSeq], lostRun := 0 } }

/-- An archive write fails: the slot is skipped, and after eight in a row writing stops (R494). The block that a
rolling write position opens is erased all the same (R491). -/
def State.rgsFail (s : State) : State :=
  let s : State := if s.rgs.permNext < 4096 then
      let next := firstFree s.arc.perm (s.rgs.permNext + 1)
      { s with rgs := { s.rgs with permNext := next, permFull := decide (4096 ≤ next), fails := s.rgs.fails + 1 } }
    else
      { s with
        arc := { s.arc with roll := eraseAhead s.arc.roll s.rgs.rollNext }
        rgs := { s.rgs with rollNext := (s.rgs.rollNext + 1) % 65536, fails := s.rgs.fails + 1 } }
  if s.rgs.fails < 8 then s
  else
    let s : State := { s with rgs := { s.rgs with stopped := true } }
    (s.setC Reg.EVT_ERR 4).raise .core Ev.RGS_STOPPED

/-- `RECORD_WRITE`: the Registrar writes its next queued event; `ok` says whether the archive took it (R490,
R493, R494). -/
def execRecordWrite (ok : Bool) (s : State) : Out :=
  if s.docentRuns && !s.rgs.stopped && !s.rgs.clearing then
    match s.rgs.queue with
    | [] => .next s
    | .ev x :: _ => .next (if ok then (s.putRecord (recordOf s x)).rgsAdvance else s.rgsFail)
    | .lost n q :: _ =>
      .next (if ok then
          (((s.putRecord (recordOf s (lostEvent s n q))).rgsAdvance).raise .core Ev.RGS_LOST 0 n)
        else s.rgsFail)
  else .next s

/-- The valid record with the highest record number under R12 of a region: slot and number (R492). -/
def highestRecord (m : List (Nat × Record)) : Option (Nat × Nat) :=
  (m.filter (fun p => p.2.crcOk)).foldl (fun (a : Option (Nat × Nat)) p =>
    let n := ofBytesLE ((p.2.bytes.drop 36).take 4)
    match a with
    | none => some (p.1, n)
    | some b => if later 32 n b.2 then some (p.1, n) else some b) none

/-- The scan at a start of the Docent (R492). -/
def State.rgsScan (s : State) : State :=
  let hi := match highestRecord s.arc.perm, highestRecord s.arc.roll with
    | none, none => none
    | some p, none => some p.2
    | none, some r => some r.2
    | some p, some r => some (if later 32 p.2 r.2 then p.2 else r.2)
  let free := firstFree s.arc.perm 0
  let corrupt := ((s.arc.perm ++ s.arc.roll).filter (fun p => !p.2.crcOk)).length
  { s with rgs := { s.rgs with
    permNext := free
    permFull := decide (4096 ≤ free)
    rollNext := match highestRecord s.arc.roll with
      | none => 0
      | some r => (r.1 + 1) % 65536
    recNo := match hi with
      | none => 0
      | some n => wrapAdd 32 n 1
    corrupt := min corrupt 0xFFFF } }

/-- A factory clear begins where the write carries the key and the lifecycle allows it (R496, R540). -/
def execFactoryClear (data : Word) (s : State) : Out :=
  .next (s.onlyIf (acts data 0 && keyed data 0x3C && decide (lifecycle s ≠ 1)) (fun s =>
    { s with rgs := { s.rgs with clearing := true } }))

/-- `FACTORY_CLEAR_DONE`: both regions are erased, and queued entries are written from record number 0 (R494,
R496). -/
def execFactoryClearDone (s : State) : Out :=
  .next (s.onlyIf s.rgs.clearing (fun s =>
    let s : State := { s with
      arc := { s.arc with perm := [], roll := [] }
      rgs := { s.rgs with clearing := false, permNext := 0, rollNext := 0, recNo := 0, permFull := false } }
    s.raise .core Ev.RGS_CLEARED))

/-! ## Reading the log (R495) -/

/-- The stored `RGS_RD_INDEX`: a slot beyond the permanent region is stored as its last slot. -/
def rgsIndexStored (w : Word) : Word :=
  if fld w 31 1 = 1 then w else mkWord [(4, min 4095 (fld w 4 16)), (0, fld w 0 4)]

/-- A read of `RGS_RD_DATA`: a word of the slot as stored, and the index advanced (R495, R93). What a slot
without a record holds the spec does not say: a free value (log entry 17). -/
def rgsPort (s : State) : Word × State :=
  let roll := fld (s.reg Reg.RGS_RD_INDEX) 31 1
  let slot := s.rfld Reg.RGS_RD_INDEX 4 16
  let w := s.rfld Reg.RGS_RD_INDEX 0 4
  let last := if roll = 1 then 65535 else 4095
  let s1 := if w < 15 then s.setRfld Reg.RGS_RD_INDEX 0 4 (w + 1)
    else (s.setRfld Reg.RGS_RD_INDEX 0 4 0).setRfld Reg.RGS_RD_INDEX 4 16 (if slot < last then slot + 1 else last)
  match kfind (if roll = 1 then s.arc.roll else s.arc.perm) slot with
  | some r => (BitVec.ofNat 32 (ofBytesLE ((r.bytes.drop (4 * w)).take 4)), s1)
  | none => let q := s1.fresh; (BitVec.ofNat 32 q.1, q.2)

/-- `RGS_RD_DATA_ACCESS`. -/
def execRgsRdDataAccess (_r : Reader) (s : State) : Out := .next (rgsPort s).2

/-! ## Registers -/

/-- The registers of the EVT and RGS windows that are not plain storage. -/
def viewEvt (s : State) (addr : Nat) : Option Word :=
  if addr = Reg.EVT_SEQ then some (BitVec.ofNat 32 s.evt.nextSeq)
  else if addr = Reg.EVT_MQ_STAT then some (mkWord [(16, s.evt.mqLost), (0, s.evt.mq.length)])
  else if Reg.EVT_MQ_W0 ≤ addr ∧ addr ≤ Reg.EVT_MQ_W7 then
    some (match s.evt.mq with
      | [] => 0
      | x :: _ => BitVec.ofNat 32 ((entryWords x false).getD ((addr - Reg.EVT_MQ_W0) / 4) 0))
  else if addr = Reg.EVT_MQ_CMD ∨ addr = Reg.EVT_FAULT_CMD ∨ addr = Reg.RGS_CMD then some 0
  else if addr = Reg.EVT_FAULT_CTL then
    some (mkWord [(3, b2n s.evt.faultPend), (0, s.rfld Reg.EVT_FAULT_CTL 0 3)])
  else if addr = Reg.RGS_STAT then
    some (mkWord [(31, b2n s.rgs.stopped), (30, b2n s.rgs.permFull), (16, s.rgs.queue.length),
      (0, s.rgs.corrupt)])
  else if addr = Reg.RGS_RECNO then some (BitVec.ofNat 32 s.rgs.recNo)
  else if addr = Reg.RGS_LOST_TOTAL then some (BitVec.ofNat 32 s.rgs.lostTotal)
  else none

/-- What a write of an EVT or RGS register stores. -/
def evtStored (addr : Nat) (w : Word) : Word :=
  if addr = Reg.EVT_MQ_CTL ∨ addr = Reg.RGS_CTL then mkWord [(16, min 4 (fld w 16 3)), (0, fld w 0 16)]
  else if addr = Reg.EVT_FAULT_CTL then mkWord [(0, min 4 (fld w 0 3))]
  else if addr = Reg.RGS_RD_INDEX then rgsIndexStored w
  else w

/-- `GLB_HANDLE_STAT` (R510). -/
def viewHandle (s : State) : Word :=
  match s.hnd.slot with
  | none => mkWord [(0, min 255 s.hnd.suspended.length)]
  | some x => mkWord [(16, x.ev.code), (11, 1), (8, x.ev.sev), (0, min 255 s.hnd.suspended.length)]

end Sys2Proof.Machine
end

