-- ==== Sys2Proof/Machine/LineCode.lean ====
section
/-! DEFINITION. Line coding of the Yuzar Link (R117 to R120, R123, R130, R136): blocks, the scrambler, alignment
markers, LINK_MSG payloads, the check of blocks for adaptation, and PRBS31. -/

namespace Sys2Proof.Machine

/-! ## Bits of a payload (R117) -/

/-- The 64 bits of a payload in transmission order. -/
def payloadBits (w : BitVec 64) : List Bool := (List.range 64).map w.getLsbD

/-- The number that a list of bits spells, its first bit lowest. -/
def bitsNat : List Bool → Nat
  | [] => 0
  | b :: bs => b2n b + 2 * bitsNat bs

/-- The payload of a list of bits in transmission order. -/
def payloadOf (bs : List Bool) : BitVec 64 := BitVec.ofNat 64 (bitsNat bs)

/-- A field of a payload. -/
def payFld (w : BitVec 64) (lo n : Nat) : Nat := natBits w.toNat lo n

/-- Byte `i` of a payload. -/
def payByte (w : BitVec 64) (i : Nat) : Nat := payFld w (8 * i) 8

/-- The bytes of a payload, bits 7:0 first. -/
def payBytes (w : BitVec 64) : List Nat := (List.range 8).map (payByte w)

/-- The payload of eight bytes. -/
def bytesPay (bs : List Nat) : BitVec 64 := BitVec.ofNat 64 (ofBytesLE bs)

/-- A data block (header 0b01). -/
def dataBlock (w : BitVec 64) : Block := ⟨false, true, w⟩

/-- A control block (header 0b10). -/
def controlBlock (w : BitVec 64) : Block := ⟨true, false, w⟩

/-- The header is valid. -/
def headerValid (b : Block) : Bool := b.h0 != b.h1

/-- A block whose 66 bits are inverted. -/
def invertBlock (b : Block) : Block := ⟨!b.h0, !b.h1, ~~~b.payload⟩

/-! ## The scrambler (R119) -/

/-- A shift register takes a bit as its bit 0. -/
def shiftIn {n : Nat} (x : BitVec n) (b : Bool) : BitVec n := (x <<< 1) ||| BitVec.ofNat n (b2n b)

/-- The scrambler over bits in transmission order: the line bits and the register. -/
def scrambleBits : BitVec 58 → List Bool → List Bool × BitVec 58
  | x, [] => ([], x)
  | x, d :: ds =>
    let b := d ^^ (x.getLsbD 38 ^^ x.getLsbD 57)
    let r := scrambleBits (shiftIn x b) ds
    (b :: r.1, r.2)

/-- The descrambler over received bits. -/
def descrambleBits : BitVec 58 → List Bool → List Bool × BitVec 58
  | x, [] => ([], x)
  | x, r :: rs =>
    let t := descrambleBits (shiftIn x r) rs
    ((r ^^ (x.getLsbD 38 ^^ x.getLsbD 57)) :: t.1, t.2)

/-- A payload scrambled. -/
def scramble (x : BitVec 58) (w : BitVec 64) : BitVec 64 × BitVec 58 :=
  let r := scrambleBits x (payloadBits w)
  (payloadOf r.1, r.2)

/-- A payload descrambled. -/
def descramble (x : BitVec 58) (w : BitVec 64) : BitVec 64 × BitVec 58 :=
  let r := descrambleBits x (payloadBits w)
  (payloadOf r.1, r.2)

/-! ## Control blocks (R118) -/

def typeIdle : Nat := 0x11
def typeMsg : Nat := 0x4B
def typeStart : Nat := 0x78

/-- An IDLE block before scrambling. -/
def idleBlock : Block := controlBlock (BitVec.ofNat 64 typeIdle)

/-- What a received block is, once descrambled. -/
def classify (b : Block) (w : BitVec 64) : RxItem :=
  let typ := payByte w 0
  if !headerValid b then .void
  else if b.h1 then .data w
  else if typ = typeIdle then .idle
  else if typ = typeMsg then .msg w
  else if typ = typeStart then .start ((payBytes w).drop 1)
  else if 0x80 ≤ typ ∧ typ ≤ 0x87 then .term (((payBytes w).drop 1).take (typ - 0x80))
  else .void

/-! ## Parity and adaptation (R120, R130) -/

/-- BIP8 with a payload taken in: bit `i` covers payload positions `j` with `j mod 8 = i`. -/
def bipAdd (b : BitVec 8) (w : BitVec 64) : BitVec 8 :=
  b ^^^ BitVec.ofNat 8 ((payBytes w).foldl (fun a x => a ^^^ x) 0)

/-- Adjacent bits that differ. -/
def changes : List Bool → Nat
  | a :: b :: l => b2n (a != b) + changes (b :: l)
  | _ => 0

/-- The longest run of equal bits: `n` equal bits end in the bit before, `best` is the longest run so far. -/
def longestRun : Nat → Nat → Option Bool → List Bool → Nat
  | n, best, _, [] => max n best
  | n, best, last, b :: l =>
    if last = some b then longestRun (n + 1) best (some b) l else longestRun 1 (max n best) (some b) l

/-- The 66 line bits of a block. -/
def lineBits (b : Block) : List Bool := b.h0 :: b.h1 :: payloadBits b.payload

/-- A block contributes to adaptation (R130). -/
def adaptBlock (b : Block) : Bool :=
  let n := changes (lineBits b)
  decide (20 ≤ n) && decide (n ≤ 45) && decide (longestRun 0 0 none (lineBits b) ≤ 10)

/-! ## Alignment markers (R120, R121) -/

/-- The payload of an alignment marker. -/
def amPayload (p l count : Nat) (bip : BitVec 8) : BitVec 64 :=
  BitVec.ofNat 64 (0xD22D + (l % 4) * 2 ^ 16 + (p % 4) * 2 ^ 18 + (count % 256) * 2 ^ 24 + 0x6E91 * 2 ^ 32 +
    bip.toNat * 2 ^ 56)

/-- The block begins as a marker does: header 0b10 and 0xD22D in bits 15:0. -/
def isMarker (b : Block) : Bool := b.h0 && !b.h1 && payFld b.payload 0 16 == 0xD22D

/-- The block is a marker of a lane of reversed polarity: header 0b01 and 0x2DD2 in bits 15:0 (R121). -/
def isInverted (b : Block) : Bool := !b.h0 && b.h1 && payFld b.payload 0 16 == 0x2DD2

/-- A marker carries the expected port index, and its fixed fields. -/
def markerOk (p : Nat) (w : BitVec 64) : Bool :=
  payFld w 18 2 == p % 4 && decide (payFld w 16 2 < 2) && payFld w 20 4 == 0 && payFld w 32 16 == 0x6E91 &&
    payFld w 48 8 == 0

/-! ## LINK_MSG (R123) -/

/-- The payload of a LINK_MSG: its code and bits 55:16. The CRC-8 takes bytes 0 to 6 in order, the high bit of each
first (log entry 83). -/
def msgPayload (code field : Nat) : BitVec 64 :=
  let bs := [typeMsg, code % 256] ++ bytesLE 5 field
  bytesPay (bs ++ [crc8 bs])

/-- The CRC-8 of a LINK_MSG holds. -/
def msgOk (w : BitVec 64) : Bool := payByte w 7 == crc8 ((payBytes w).take 7)

/-! ## PRBS31 (R124, R136) -/

/-- The next bit of x^31 + x^28 + 1. -/
def prbsBit (x : BitVec 31) : Bool := x.getLsbD 30 ^^ x.getLsbD 27

/-- `n` bits of PRBS31 and the register after them. -/
def prbsBits : Nat → BitVec 31 → List Bool × BitVec 31
  | 0, x => ([], x)
  | n + 1, x =>
    let b := prbsBit x
    let r := prbsBits n (shiftIn x b)
    (b :: r.1, r.2)

/-! ## Sending blocks on a lane (R117 to R120) -/

/-- A block of a lane scrambled and sent; parity and the place since the last marker follow. -/
def LaneState.sendBlock (x : LaneState) (b : Block) : Block × LaneState :=
  let r := scramble x.txS b.payload
  ({ b with payload := r.1 }, { x with txS := r.2, txBip := bipAdd x.txBip r.1, txCount := x.txCount + 1 })

/-- A block of the training pattern (R124). -/
def LaneState.sendTraining (x : LaneState) : Block × LaneState :=
  let r := prbsBits 64 x.txPrbs
  ({ x with txPrbs := r.2 } : LaneState).sendBlock (dataBlock (payloadOf r.1))

/-- `n` blocks of fill: IDLE, or training. -/
def LaneState.sendFill (training : Bool) : Nat → LaneState → List Block × LaneState
  | 0, x => ([], x)
  | n + 1, x =>
    let a := if training then x.sendTraining else x.sendBlock idleBlock
    let r := LaneState.sendFill training n a.2
    (a.1 :: r.1, r.2)

/-- An alignment marker: it is not scrambled, carries the parity since the last one, and starts a new period. -/
def LaneState.sendMarker (x : LaneState) (p l count : Nat) : Block × LaneState :=
  (controlBlock (amPayload p l count x.txBip), { x with txBip := 0, txCount := 0 })

end Sys2Proof.Machine
end

