-- ==== Sys2Proof/Machine/Packets.lean ====
section
/-! DEFINITION. The bytes of Yuzar Link packets (R139 to R145): framing into blocks, the link word, the LCRC, the
transaction header and the types, as sent and as received. -/

namespace Sys2Proof.Machine

/-! ## Framing (R139) -/

/-- Bytes cut into groups of eight. `fuel` bounds the number of groups. -/
def groups8 : Nat → List Nat → List (List Nat)
  | 0, _ => []
  | fuel + 1, bs => if bs.length < 8 then [] else bs.take 8 :: groups8 fuel (bs.drop 8)

/-- The blocks of a packet before scrambling: START with bytes 0 to 6, data blocks, and TERM with the bytes left. -/
def frame (bs : List Nat) : List Block :=
  let body := bs.drop 7
  let t := body.length % 8
  controlBlock (bytesPay (typeStart :: bs.take 7)) ::
    (groups8 (body.length / 8) body).map (fun g => dataBlock (bytesPay g)) ++
    [controlBlock (bytesPay ((0x80 + t) :: body.drop (8 * (body.length / 8))))]

/-! ## The link word and the LCRC (R140, R141) -/

def kindTrans : Nat := 1
def kindAck : Nat := 2
def kindNak : Nat := 3
def kindCredit : Nat := 4

/-- The link word of a packet of `dw` 4-byte units. -/
def linkWord (kind seq dw : Nat) : Nat := kind + (seq % 4096) * 2 ^ 4 + dw * 2 ^ 16

/-- A packet: link word, what follows it, and the LCRC over all of that. -/
def packetBytes (kind seq : Nat) (body : List Nat) : List Nat :=
  let bs := bytesLE 4 (linkWord kind seq ((body.length + 8) / 4)) ++ body
  bs ++ bytesLE 4 (crc32c bs)

/-- A link control packet with its content word (R141). -/
def controlBytes (kind seq content : Nat) : List Nat := packetBytes kind seq (bytesLE 4 content)

/-- The content word of a CREDIT. -/
def creditWord (pool : Nat) (inf : Bool) (hdr data : Nat) : Nat :=
  pool + b2n inf * 2 ^ 2 + (hdr % 256) * 2 ^ 4 + (data % 4096) * 2 ^ 16

/-! ## Transaction packets (R142 to R145) -/

/-- The value of a completion status (R145). -/
def statusCode : AccStatus → Nat
  | .ok => 0
  | .unmapped => 1
  | .align => 2
  | .width => 3
  | .denied => 4
  | .locked => 5
  | .ur => 6
  | .unavail => 8

/-- The four dwords of a transaction header. -/
def headerBytes (typ tag len status d1 d2 d3 : Nat) : List Nat :=
  bytesLE 4 (typ + (tag % 256) * 2 ^ 8 + len * 2 ^ 16 + status * 2 ^ 28) ++ bytesLE 4 d1 ++ bytesLE 4 d2 ++ bytesLE 4 d3

/-- A payload filled with zero bytes to a multiple of 4. -/
def padded (bs : List Nat) : List Nat := bs ++ List.replicate (4 * divCeil bs.length 4 - bs.length) 0

/-- The header and payload of a packet that the device sends. -/
def TxPacket.body : TxPacket → List Nat
  | .mrd tag addr count => headerBytes 0x01 tag 0 0 (addr % 2 ^ 32) (addr / 2 ^ 32) count
  | .mwr addr bytes => headerBytes 0x02 0 bytes.length 0 (addr % 2 ^ 32) (addr / 2 ^ 32) 0 ++ padded bytes
  | .rcpl tag status addr size data => headerBytes 0x22 tag data.length (statusCode status) addr 0 size ++ padded data
  | .evt seq code sev index => headerBytes 0x30 0 0 0 seq (code + sev * 2 ^ 16) index

/-- The bytes of a packet that the device sends with a sequence number. -/
def TxPacket.bytes (k : TxPacket) (seq : Nat) : List Nat := packetBytes kindTrans seq k.body

/-! ## Received packets (R140 to R143, R158) -/

/-- The KIND of a packet, as its first byte has it. -/
def kindOf (bs : List Nat) : Nat := bs.headD 0 % 16

/-- A packet is good: its framing whole, its length as DW says, its LCRC right (R139, R141). -/
def packetGood (bs : List Nat) : Bool :=
  let n := bs.length
  decide (12 ≤ n) && n % 4 == 0 && natBits (ofBytesLE (bs.take 4)) 16 9 * 4 == n &&
    ofBytesLE (bs.drop (n - 4)) == crc32c (bs.take (n - 4))

/-- The SEQ field. -/
def seqOf (bs : List Nat) : Nat := natBits (ofBytesLE (bs.take 4)) 4 12

/-- A received TRANS packet as its header has it. -/
structure Trans where
  seq : Nat
  typ : Nat
  tag : Nat
  len : Nat
  status : Nat
  d1 : Nat
  d2 : Nat
  d3 : Nat
  payload : List Nat
  /-- The bytes of the packet agree with LEN, the padding is 0, and so are the reserved bits of the link word. -/
  shapeOk : Bool
  deriving DecidableEq, Repr

/-- The TRANS packet that good bytes spell. -/
def transOf (bs : List Nat) : Trans :=
  let dw := fun (i : Nat) => ofBytesLE ((bs.drop (4 * i)).take 4)
  let len := natBits (dw 1) 16 12
  let rest := (bs.drop 20).take (bs.length - 24)
  { seq := seqOf bs, typ := natBits (dw 1) 0 8, tag := natBits (dw 1) 8 8, len := len, status := natBits (dw 1) 28 4,
    d1 := dw 2, d2 := dw 3, d3 := dw 4, payload := rest.take len
    shapeOk := decide (24 ≤ bs.length) && decide (len ≤ 512) && rest.length == 4 * divCeil len 4 &&
      (rest.drop len).all (· == 0) && natBits (dw 0) 25 7 == 0 }

/-- The pool of a packet type: 0 P, 1 N, 2 C (R143). -/
def typePool (typ : Nat) : Option Nat :=
  if typ = 0x01 ∨ typ = 0x20 then some 1
  else if typ = 0x02 ∨ typ = 0x10 ∨ typ = 0x21 ∨ typ = 0x30 then some 0
  else if typ = 0x03 ∨ typ = 0x22 then some 2
  else none

/-- The packet is one that a host sends and its fields hold what R143, R146 and R148 allow; `limit` is the largest payload
of the version in force (R161). -/
def Trans.fieldsOk (t : Trans) (limit : Nat) : Bool :=
  t.shapeOk &&
  (if t.typ = 0x03 then
     decide (t.len ≤ limit) && decide (t.d1 < 2 ^ 13) && decide (t.d2 < 2 ^ 12) && t.d3 == 0 &&
       (t.status == 0 || t.len == 0)
   else if t.typ = 0x10 then
     t.status == 0 && t.len == 0 && decide (natBits t.d1 0 2 < 3) && natBits t.d1 2 14 == 0 && t.d2 == 0 && t.d3 == 0
   else if t.typ = 0x20 then t.status == 0 && t.len == 0 && t.d2 == 0 && decide (t.d3 < 4)
   else if t.typ = 0x21 then t.status == 0 && t.d2 == 0 && decide (t.d3 < 4) && t.len == 2 ^ t.d3
   else false)

/-- The request that a malformed packet makes and that is answered with UR: tag, address and size (R146, R158). -/
def Trans.request (t : Trans) : Option (Nat × Nat × Nat) :=
  if t.typ = 0x20 ∨ t.typ = 0x21 then some (t.tag, t.d1, t.d3 % 4) else none

/-- The TAG that an event about the packet names: a nudge, a write of memory and an event packet have none (R162). -/
def Trans.eventTag (t : Trans) : Nat :=
  if t.typ = 0x01 ∨ t.typ = 0x03 ∨ t.typ = 0x20 ∨ t.typ = 0x21 ∨ t.typ = 0x22 then t.tag else 0

end Sys2Proof.Machine
end

