-- ==== Sys2Proof/Machine/LineRx.lean ====
section
/-! DEFINITION. The receiving side of a port up to whole packets (R117 to R123, R125, R130, R131, R139, R141): headers,
markers, descrambling, deskew, the merge of two lanes, and the framing of packets. It changes the port alone and hands on
what the blocks bring. -/

namespace Sys2Proof.Machine

/-- What the blocks of a period bring. -/
inductive LineItem where
  /-- 16 invalid headers within 64 blocks (R125). -/
  | unlocked (l : Nat)
  /-- A good marker on a lane, with the BIP8 errors of its period (R120). -/
  | marker (l bipErrors : Nat)
  /-- A marker is missing or corrupt at its place (R125). -/
  | badMarker (l : Nat)
  /-- A LINK_MSG (R123). -/
  | msg (code lane version : Nat) (rate : Bool) (arg : Nat)
  /-- A whole packet, framed well or badly (R139, R141). -/
  | packet (bytes : List Nat)
  | broken (bytes : List Nat)
  deriving DecidableEq, Repr

/-- A lane of a port changed. -/
def PortState.modLane (q : PortState) (l : Nat) (f : LaneState → LaneState) : PortState :=
  { q with lane := vmod q.lane l f }

/-- What lies behind block lock is lost with it. -/
def LaneState.unlock (x : LaneState) : LaneState :=
  { x with block := false, adapt := false, calOk := false, amOnce := false, amLock := false, deskew := false
           hdrWin := [], rxFifo := [] }

/-! ## Deskew and merge (R121, R122) -/

/-- A lane's blocks take part in the merge: it belongs to the stream, joins it, or the port is still being brought up. -/
def PortState.merges (q : PortState) (l : Nat) : Bool :=
  decide (q.st ≠ .up) || hasBit q.rxMask l || q.rxJoin == some l

/-- A stream block or a marker waits for its turn. Until the lanes are aligned a lane's first entry is a marker. -/
def PortState.enqueue (q : PortState) (l : Nat) (i : RxItem) : PortState :=
  let x := vget q.lane l
  let isAm := match i with | .marker _ => true | _ => false
  let flows := decide (q.st = .up) && hasBit q.rxMask l && (x.deskew || q.rxMask != 3)
  if q.merges l && (isAm || flows || !x.rxFifo.isEmpty) then q.modLane l (fun x => { x with rxFifo := x.rxFifo ++ [i] })
  else q

/-- The first entry of a lane leaves. -/
def PortState.popLane (q : PortState) (l : Nat) : PortState := q.modLane l (fun x => { x with rxFifo := x.rxFifo.drop 1 })

/-- Both lanes are aligned at markers of equal count, and lane 0 is next (R121, R122). -/
def PortState.aligned (q : PortState) : PortState :=
  let q := (q.popLane 0).popLane 1
  let q := (q.modLane 0 (fun x => { x with deskew := true })).modLane 1 (fun x => { x with deskew := true })
  { q with rxTurn := 0, skewed := false }

/-- More than 16 blocks wait behind a marker or a turn that the other lane does not bring: the lanes cannot be deskewed
(R121). -/
def PortState.overrun (q : PortState) (l : Nat) : PortState :=
  if 17 < (vget q.lane l).rxFifo.length then
    let both := (vget q.lane 0).amLock && (vget q.lane 1).amLock
    let q := (q.modLane 0 (fun x => { x with rxFifo := [], deskew := false })).modLane 1
      (fun x => { x with rxFifo := [], deskew := false })
    { q with skewed := q.skewed || both }
  else q

/-- One step of the merge of two lanes: the block that is next in the stream, or none, and whether anything moved. The
lane that is behind the other's marker loses what it still has of the period before. -/
def PortState.mergeTwo (q : PortState) : Option RxItem × Bool × PortState :=
  match (vget q.lane 0).rxFifo, (vget q.lane 1).rxFifo with
  | [], [] => (none, false, q)
  | [], _ :: _ => (none, false, q.overrun 1)
  | .marker a :: _, .marker b :: _ =>
    if a = b then (none, true, q.aligned)
    else if later 8 b a then (none, true, q.popLane 0) else (none, true, q.popLane 1)
  | .marker _ :: _, [] => (none, false, q.overrun 0)
  | .marker _ :: _, y :: _ =>
    if q.rxTurn = 1 then (some y, true, { q.popLane 1 with rxTurn := 0 }) else (none, true, q.popLane 1)
  | x :: _, [] =>
    if q.rxTurn = 0 then (some x, true, { q.popLane 0 with rxTurn := 1 }) else (none, false, q.overrun 0)
  | _ :: _, .marker _ :: _ => (none, true, { q.popLane 0 with rxTurn := 0 })
  | x :: _, y :: _ =>
    if q.rxTurn = 0 then (some x, true, { q.popLane 0 with rxTurn := 1 })
    else (some y, true, { q.popLane 1 with rxTurn := 0 })

/-- One step of a stream of one lane. At its next marker a lane that joins makes two of it (R133). -/
def PortState.mergeOne (q : PortState) (l : Nat) : Option RxItem × Bool × PortState :=
  match (vget q.lane l).rxFifo with
  | [] => (none, false, q)
  | .marker _ :: _ =>
    if q.rxJoin.isSome then (none, true, { q with rxMask := 3, rxJoin := none, rxTurn := 0 }) else (none, true, q.popLane l)
  | x :: _ => (some x, true, q.popLane l)

/-- No lane carries the stream: the lane that joins does so at its own next marker. -/
def PortState.mergeNone (q : PortState) : Option RxItem × Bool × PortState :=
  match q.rxJoin with
  | none => (none, false, q)
  | some l =>
    match (vget q.lane l).rxFifo with
    | [] => (none, false, q)
    | .marker _ :: _ => (none, true, { q with rxMask := 2 ^ (l % 2), rxJoin := none, rxTurn := 0 })
    | _ :: _ => (none, true, q.popLane l)

/-- One step of the merge. -/
def PortState.mergeStep (q : PortState) : Option RxItem × Bool × PortState :=
  if q.st = .up ∧ q.rxMask = 0 then q.mergeNone
  else if q.st = .up ∧ q.rxMask = 1 then q.mergeOne 0
  else if q.st = .up ∧ q.rxMask = 2 then q.mergeOne 1
  else q.mergeTwo

/-! ## Packets (R118, R139) -/

/-- A block of the stream: data outside a packet and a TERM without a START carry none; a START, or an IDLE, within a
packet ends it as bad (log entry 84). -/
def PortState.reassemble (q : PortState) (i : RxItem) : PortState × List LineItem :=
  if q.st ≠ .up then (q, [])
  else match i, q.rxOpen with
    | .start bs, none => ({ q with rxOpen := some bs }, [])
    | .start bs, some old => ({ q with rxOpen := some bs }, [.broken old])
    | .data w, some old => ({ q with rxOpen := some (old ++ payBytes w) }, [])
    | .term bs, some old => ({ q with rxOpen := none }, [.packet (old ++ bs)])
    | .idle, some old => ({ q with rxOpen := none }, [.broken old])
    | _, _ => (q, [])

/-- The blocks that can be merged go through. `fuel` bounds the steps. -/
def PortState.mergeAll : Nat → PortState → PortState × List LineItem
  | 0, q => (q, [])
  | fuel + 1, q =>
    match q.mergeStep with
    | (none, false, q) => (q, [])
    | (none, true, q) => q.mergeAll fuel
    | (some i, _, q) =>
      let r := q.reassemble i
      let t := r.1.mergeAll fuel
      (t.1, r.2 ++ t.2)

/-! ## Blocks of a lane (R117 to R121, R123, R125, R130) -/

/-- A LINK_MSG, unless it is the copy of one that the other lane brought within the deskew (R123; log entry 85). -/
def PortState.takeMsg (q : PortState) (l : Nat) (w : BitVec 64) : PortState × List LineItem :=
  if !msgOk w then (q.modLane l (fun x => { x with blockErr := x.blockErr + 1 }), [])
  else if q.rxMsgs.any (fun m => m.1 != l && m.2.1 == w) then
    ({ q with rxMsgs := q.rxMsgs.filter (fun m => !(m.1 != l && m.2.1 == w)) }, [])
  else
    ({ q with rxMsgs := q.rxMsgs ++ [(l, w, 0)] },
     [.msg (payByte w 1) (payByte w 2) (payFld w 24 4) (w.getLsbD 28) (payFld w 29 27)])

/-- A marker at its place, good or not: a new period begins, and the place is kept in the stream. -/
def PortState.markPeriod (q : PortState) (l : Nat) : PortState :=
  let q := q.modLane l (fun x => { x with rxSince := 0, rxBip := 0 })
  if (vget q.lane l).amLock then q.enqueue l (.marker (vget q.lane l).amCount) else q

/-- A marker that is missing or corrupt: three in a row lose AM lock, of which `badMarker` tells (R125). -/
def PortState.markerLost (q : PortState) (l : Nat) : PortState × List LineItem :=
  let q := q.modLane l (fun x => { x with
    amMiss := x.amMiss + 1, amOnce := x.amLock, amCount := wrapAdd 8 x.amCount 1 })
  (q.markPeriod l, [.badMarker l])

/-- A good marker: lane order, AM lock at the second one 16,384 blocks after the first, and the parity of the period
(R120, R121, R125). -/
def PortState.markerGood (q : PortState) (l : Nat) (w : BitVec 64) : PortState × List LineItem :=
  let x := vget q.lane l
  let whole := x.amOnce && x.rxSince + 1 == 16384
  let errors := if whole then popCount 8 ((BitVec.ofNat 8 (payByte w 7) ^^^ x.rxBip).toNat) else 0
  let q := { q with swap := decide (payFld w 16 2 ≠ l) }
  let q := q.modLane l (fun x => { x with amLock := x.amLock || whole, amOnce := true, amMiss := 0, amCount := payByte w 3 })
  (q.markPeriod l, [.marker l errors])

/-- A block that begins as a marker, its polarity corrected. -/
def PortState.takeMarker (q : PortState) (l : Nat) (p : Nat) (b : Block) : PortState × List LineItem :=
  if markerOk p b.payload then q.markerGood l b.payload else q.markerLost l

/-- Another block: descrambled, taken into the parity, judged for adaptation, and handed on. -/
def PortState.takeBlock (q : PortState) (l : Nat) (b : Block) : PortState × List LineItem :=
  let x := vget q.lane l
  let r := descramble x.rxS b.payload
  let i := classify b r.1
  let fits := adaptBlock b
  let isData := match i with | .data _ => true | _ => false
  let bad := match i with | .void => true | _ => false
  let q := q.modLane l (fun x => { x with
    rxS := r.2, rxBip := bipAdd x.rxBip b.payload, rxSince := min 16384 (x.rxSince + 1)
    blockErr := x.blockErr + b2n bad, adaptUse := x.adaptUse + b2n fits
    refreshLeft := x.refreshLeft - b2n isData, frozen := x.frozen && !(isData && fits) })
  match i with
  | .msg w => q.takeMsg l w
  | i => (q.enqueue l i, [])

/-- The header of a block noted; 16 invalid ones within 64 blocks lose block lock (R125). -/
def PortState.noteHeader (q : PortState) (l : Nat) (b : Block) : PortState :=
  q.modLane l (fun x => { x with hdrWin := ((!headerValid b) :: x.hdrWin).take 64 })

/-- A block on a lane that holds block lock. With AM lock a marker is taken at its place only; without, where it comes. A
lane of reversed polarity shows an inverted marker (R121). -/
def PortState.lineBlock (q : PortState) (p l : Nat) (raw : Block) : PortState × List LineItem :=
  if !(vget q.lane l).block then (q, [])
  else
    let b := if (vget q.lane l).polinv then invertBlock raw else raw
    let q := q.noteHeader l b
    let x := vget q.lane l
    if 16 ≤ (x.hdrWin.filter id).length then (q.modLane l LaneState.unlock, [.unlocked l])
    else
      let place := x.amLock && x.rxSince + 1 == 16384
      if !x.amLock || place then
        if isMarker b then q.takeMarker l p b
        else if isInverted b && markerOk p (invertBlock b).payload then
          (q.modLane l (fun x => { x with polinv := !x.polinv })).takeMarker l p (invertBlock b)
        else if place then q.markerLost l
        else q.takeBlock l b
      else q.takeBlock l b

/-- The blocks of one period on both lanes, then the merge. -/
def PortState.lineSlot (q : PortState) (p : Nat) (x : RxSlot) : PortState × List LineItem :=
  let q : PortState := { q with rxMsgs := (q.rxMsgs.map (fun m => (m.1, m.2.1, m.2.2 + 1))).filter (fun m => decide (m.2.2 ≤ 16)) }
  let a := match x.l0 with
    | none => (q, [])
    | some b => q.lineBlock p 0 b
  let b := match x.l1 with
    | none => (a.1, [])
    | some b => a.1.lineBlock p 1 b
  let n := (vget b.1.lane 0).rxFifo.length + (vget b.1.lane 1).rxFifo.length
  let c := b.1.mergeAll (2 * n + 4)
  (c.1, a.2 ++ b.2 ++ c.2)

end Sys2Proof.Machine
end

