-- ==== Sys2Proof/Machine/LinkBase.lean ====
section
/-! DEFINITION. The sending side of the Yuzar Link: blocks on the lanes (R117 to R124), LINK_MSG, and the transaction layer
(R142 to R144, R150 to R154): credits, sequence numbers, the replay buffer, and memory requests and writes cut as the
rules ask. -/

namespace Sys2Proof.Machine

/-! ## Blocks on the lanes (R120, R122, R123) -/

/-- Lane `l` carries no traffic because it retrains in full, at either end (R134). -/
def PortState.retrains (q : PortState) (l : Nat) : Bool :=
  decide ((vget q.lane l).retrain = .full) || q.farRetrain == some (l, false)

/-- A lane carries the port stream: it is active, it is in no full retrain, and it does not wait for a marker to rejoin
(R122, R133, R134). -/
def PortState.carries (q : PortState) (l : Nat) : Bool :=
  decide (q.st = .up) && hasBit q.active l && !q.retrains l && !q.rejoin.any (fun r => r.1 == l)

/-- The lanes that carry the port stream, as a mask. -/
def PortState.carry (q : PortState) : Nat := b2n (q.carries 0) + 2 * b2n (q.carries 1)

/-- The lane of the next port-stream block: blocks alternate on two lanes, beginning with lane 0 after a marker (R122). -/
def PortState.streamLane (q : PortState) : Nat :=
  if q.carry = 3 then q.txPos % 2 else if q.carry = 2 then 1 else 0

/-- The lane has room before its next marker (R120). -/
def laneRoom (q : PortState) (l : Nat) : Bool := decide ((vget q.lane l).txCount < 16383)

/-- A block that waits can be sent before the next marker. -/
def PortState.txFits (q : PortState) : TxItem → Bool
  | .stream _ => q.carry != 0 && laneRoom q q.streamLane
  | .msg _ => laneRoom q 0 && laneRoom q 1
  | .burst _ => laneRoom q 0 && laneRoom q 1

/-- A lane sends a block. -/
def PortState.txLane (q : PortState) (l : Nat) (send : LaneState → Block × LaneState) : PortState × List (Nat × Block) :=
  let r := send (vget q.lane l)
  (q.modLane l (fun _ => r.2), [(l, r.1)])

/-- What a lane sends in a block period of a burst: training where the mask names it, IDLE where it carries the stream
(R131). -/
def PortState.txBurst (q : PortState) (mask l : Nat) : PortState × List (Nat × Block) :=
  if hasBit mask l then q.txLane l LaneState.sendTraining
  else if q.carries l then q.txLane l (fun x => x.sendBlock idleBlock)
  else (q, [])

/-- One item sent: the lanes and their blocks. -/
def PortState.txItem (q : PortState) : TxItem → PortState × List (Nat × Block)
  | .stream b =>
    let r := q.txLane q.streamLane (fun x => x.sendBlock b)
    ({ r.1 with txPos := r.1.txPos + 1 }, r.2)
  | .msg w =>
    let a := q.txLane 0 (fun x => x.sendBlock (controlBlock w))
    let b := a.1.txLane 1 (fun x => x.sendBlock (controlBlock w))
    (b.1, a.2 ++ b.2)
  | .burst mask =>
    let a := q.txBurst mask 0
    let b := a.1.txBurst mask 1
    ({ b.1 with txPos := b.1.txPos + 2 }, a.2 ++ b.2)

/-- Items sent in order as far as they go before the next marker; the rest waits for it. -/
def PortState.txRun : PortState → List TxItem → PortState × List (Nat × Block)
  | q, [] => ({ q with txQ := [] }, [])
  | q, i :: is =>
    if q.txFits i then
      let r := q.txItem i
      let t := r.1.txRun is
      (t.1, r.2 ++ t.2)
    else ({ q with txQ := i :: is }, [])

/-- The port transmits blocks with alignment markers (R124). -/
def transmits (s : State) (p : Nat) : Bool :=
  let st := (vget s.port p).st
  decide (st = .train) || decide (st = .exchange) || decide (st = .up)

/-- Blocks of a port go out. -/
def blocksOut (p : Nat) (bs : List (Nat × Block)) : List Output := bs.map (fun x => .block p x.1 x.2)

/-- Items given to a port to send. -/
def State.txSend (s : State) (p : Nat) (is : List TxItem) : State :=
  if transmits s p then
    let q := vget s.port p
    let r := q.txRun (q.txQ ++ is)
    (s.modPort p (fun _ => r.1)).emits (blocksOut p r.2)
  else s

/-- The items of a packet (R139). -/
def frameItems (bs : List Nat) : List TxItem := (frame bs).map .stream

/-- A LINK_MSG sent on a port: message code and payload bits 55:16 (R123). -/
def State.msgSend (s : State) (p code field : Nat) : State :=
  (s.emit (.linkMsg p code field)).txSend p [.msg (msgPayload code field)]

/-- A LINK_MSG that names a lane or lanes, with its argument (R123). -/
def State.linkMsg (s : State) (p code lane arg : Nat) : State := s.msgSend p code (lane + arg * 2 ^ 13)

/-- A link control packet sent (R141). -/
def State.controlSend (s : State) (p : Nat) (o : Output) (kind seq content : Nat) : State :=
  (s.emit o).txSend p (frameItems (controlBytes kind seq content))

/-! ## Credits (R150, R151) -/

/-- Payload bytes of a packet. -/
def TxPacket.len : TxPacket → Nat
  | .mrd _ _ _ => 0
  | .mwr _ bytes => bytes.length
  | .rcpl _ _ _ _ data => data.length
  | .evt _ _ _ _ => 0

/-- Bytes of a packet on the line (R142). -/
def TxPacket.size (k : TxPacket) : Nat := 24 + 4 * divCeil k.len 4

/-- The pool of a packet: 0 P, 1 N, 2 C (R143). -/
def TxPacket.pool : TxPacket → Nat
  | .mrd _ _ _ => 1
  | .mwr _ _ => 0
  | .rcpl _ _ _ _ _ => 2
  | .evt _ _ _ _ => 0

/-- The far grant of a pool. -/
def PortState.far (q : PortState) (pool : Nat) : Grant :=
  if pool = 0 then q.farP else if pool = 1 then q.farN else q.farC

/-- The far grant of a pool replaced. -/
def PortState.putFar (q : PortState) (pool : Nat) (g : Grant) : PortState :=
  if pool = 0 then { q with farP := g } else if pool = 1 then { q with farN := g } else { q with farC := g }

/-- Credits left of a cumulative count of `n` bits, compared under R12 (R151); whether a count half the range apart
leaves any is open (log entry 74). -/
def creditsLeft (n granted used : Nat) : Nat :=
  let d := ahead n granted used
  if d = 2 ^ (n - 1) then (if halfApart n granted used then d else 0)
  else if d < 2 ^ (n - 1) then d else 0

/-- Header credits left. -/
def Grant.hdrLeft (g : Grant) : Nat := if g.got then creditsLeft 8 g.hdr g.usedHdr else 0

/-- Data credits left. -/
def Grant.dataLeft (g : Grant) : Nat := if g.got then creditsLeft 12 g.data g.usedData else 0

/-- The grant covers a packet with `d` data credits (R150). -/
def Grant.covers (g : Grant) (d : Nat) : Bool :=
  g.got && (g.inf || (decide (1 ≤ g.hdrLeft) && decide (d ≤ g.dataLeft)))

/-- The grant after such a packet. -/
def Grant.take (g : Grant) (d : Nat) : Grant :=
  { g with usedHdr := wrapAdd 8 g.usedHdr 1, usedData := wrapAdd 12 g.usedData d }

/-! ## Sending (R153, R154, R156) -/

/-- The replay buffer has room for a packet (R154). -/
def PortState.room (q : PortState) (k : TxPacket) : Bool :=
  decide (q.replay.length < 2047) &&
    decide (lsum (q.replay.map (fun p => p.2.size)) + k.size ≤ 65536)

/-- One packet that may go leaves with the next sequence number and stays in the replay buffer. -/
def PortState.sendOne (q : PortState) (k : TxPacket) : PortState :=
  let g := q.far k.pool
  let q := q.putFar k.pool (g.take (divCeil k.len 16))
  { q with replay := q.replay ++ [(q.txSeq, k)], txSeq := wrapAdd 12 q.txSeq 1 }

/-- The waiting packets in order: those that may go leave; a pool that is short holds its own packets only, and a replay
buffer without room for the next packet holds all (R152, R154, R156). Answers the port and the packets that left. -/
def PortState.pump (q : PortState) (blocked : List Nat) : List TxPacket → PortState × List (Nat × TxPacket)
  | [] => (q, [])
  | k :: ks =>
    if !q.room k then ({ q with txWait := k :: ks }, [])
    else if !blocked.contains k.pool && (q.far k.pool).covers (divCeil k.len 16) then
      let seq := q.txSeq
      let r := (q.sendOne k).pump blocked ks
      (r.1, (seq, k) :: r.2)
    else
      let r := q.pump (k.pool :: blocked) ks
      ({ r.1 with txWait := k :: r.1.txWait }, r.2)

/-- Packets that wait at a port leave as far as they may. -/
def State.pumpPort (s : State) (p : Nat) : State :=
  let q := vget s.port p
  if q.st = .up then
    let r := ({ q with txWait := [] }).pump [] q.txWait
    ((s.modPort p (fun _ => r.1)).emits (r.2.map (fun x => .packet p x.1 x.2))).txSend p
      (r.2.flatMap (fun x => frameItems (x.2.bytes x.1)))
  else s

/-- Packets issued on a port that is UP (R156). -/
def State.sendPackets (s : State) (p : Nat) (ks : List TxPacket) : State :=
  if (vget s.port p).st = .up then
    (s.modPort p (fun q => { q with txWait := q.txWait ++ ks })).pumpPort p
  else s

/-- Largest payload of the version in force (R161). -/
def maxPayload (s : State) (p : Nat) : Nat := if (vget s.port p).version = 1 then 256 else 512

/-- A host write cut so that no MWR crosses a boundary of the largest payload (R144, R161). `fuel` bounds the
number of packets. -/
def cutWrite (limit : Nat) : Nat → Nat → List Nat → List TxPacket
  | 0, _, _ => []
  | _, _, [] => []
  | fuel + 1, addr, bytes =>
    let n := limit - addr % limit
    .mwr addr (bytes.take n) :: cutWrite limit fuel (addr + n) (bytes.drop n)

/-- Bytes written to host memory over a port (R143, R144). -/
def State.hostWrite (s : State) (p addr : Nat) (bytes : List Nat) : State :=
  s.sendPackets p (cutWrite (maxPayload s p) (bytes.length + 1) addr bytes)

/-! ## Memory reads (R144, R161) -/

/-- A host read cut so that no MRD is longer than 4,096 bytes or crosses a 4 KiB boundary. -/
def cutRead : Nat → Nat → Nat → List (Nat × Nat)
  | 0, _, _ => []
  | fuel + 1, addr, n =>
    if n = 0 then []
    else
      let k := min n (4096 - addr % 4096)
      (addr, k) :: cutRead fuel (addr + k) (n - k)

/-- The chunks of a host read. -/
def readChunks (addr n : Nat) : List (Nat × Nat) := cutRead (n / 4096 + 2) addr n

/-- Most MRDs outstanding in the version in force. -/
def maxMrds (s : State) (p : Nat) : Nat := if (vget s.port p).version = 1 then 16 else 32

/-- A tag that is neither outstanding nor in quarantine (R144, R159). -/
def freeTag (s : State) (p : Nat) : Option Nat :=
  let q := vget s.port p
  (List.range (maxMrds s p)).find? (fun t => !(q.mrds.any (fun m => m.tag == t)) && !q.quarantine.contains t)

/-- Requested bytes outstanding on a port. -/
def mrdBytes (s : State) (p : Nat) : Nat := lsum ((vget s.port p).mrds.map (fun m => m.count))

/-- One MRD issued, where a tag and the 16 KiB allow it (R144). Answers whether it was. -/
def State.issueMrd (s : State) (p addr n : Nat) (use : ReadFor) : Bool × State :=
  match freeTag s p with
  | some t =>
    if (vget s.port p).st = .up ∧ mrdBytes s p + n ≤ 16384 then
      let m : Mrd := { tag := t, addr := addr, count := n, data := [], use := use }
      (true, (s.modPort p (fun q => { q with mrds := q.mrds ++ [m] })).sendPackets p [.mrd t addr n])
    else (false, s)
  | none => (false, s)

/-- Reads of a list of chunks issued as far as they may; answers the chunks left. -/
def State.issueReads (s : State) (p : Nat) (use : ReadFor) : List (Nat × Nat) → List (Nat × Nat) × State
  | [] => ([], s)
  | (a, n) :: cs =>
    match s.issueMrd p a n use with
    | (true, s) => s.issueReads p use cs
    | (false, s) => ((a, n) :: cs, s)

/-! ## Receive credits and control packets (R150, R151, R153) -/

/-- The grants of the device for its pools P and N, counted since UP (R150, R151); C is infinite, its counts are ignored. -/
def nearGrant (q : PortState) (pool : Nat) : Nat × Nat :=
  if pool = 0 then ((q.rxPH + 32 - q.nearPH) % 256, (q.rxPD + 64 - q.nearPD) % 4096)
  else if pool = 1 then ((q.rxNH + 16 - q.nearNH) % 256, 0)
  else (0, 0)

/-- A CREDIT for one pool. -/
def State.sendCredit (s : State) (p pool : Nat) : State :=
  let g := nearGrant (vget s.port p) pool
  s.controlSend p (.credit p pool (pool == 2) g.1 g.2) kindCredit 0 (creditWord pool (pool == 2) g.1 g.2)

/-- A CREDIT for every pool. -/
def State.sendCredits (s : State) (p : Nat) : State := ((s.sendCredit p 0).sendCredit p 1).sendCredit p 2

/-- The transaction layer as a port comes UP: sequence numbers and credits start afresh (R151, R153, R160). -/
def PortState.fresh (q : PortState) : PortState :=
  { q with next := 0, nakSent := false, sinceAck := 0, txSeq := 0, replay := [], oldestReplays := 0,
           txWait := [], rxOpen := none, farP := {}, farN := {}, farC := {}, nearPH := 0, nearPD := 0, nearNH := 0,
           rxPH := 0, rxPD := 0, rxNH := 0, mrds := [] }

/-- Event data of a port event: byte 20 the port, byte 21 the lane or the tag (R138, R162; log entry 22). -/
def portData (p x : Nat) : Nat := p + x * 256

/-- The address of a YZL register of a port. -/
def yzlReg (base p : Nat) : Nat := inst base 0x1000 p

end Sys2Proof.Machine
end

