-- ==== Sys2Proof/Machine/Curator.lean ====
section
/-! DEFINITION. The Curator (R202 to R229): pages and channels, quotas, admission and eviction, Vitrine
surfaces, bands and engines. DRAM errors are in `Ecc.lean`. -/

namespace Sys2Proof.Machine

/-! ## Pages and channels (R202, R203) -/

/-- Pages of a channel. -/
def PageSet.get (p : PageSet) (c : Nat) : Nat :=
  if c = 0 then p.c0 else if c = 1 then p.c1 else if c = 2 then p.c2 else p.c3

/-- Pages of a channel replaced. -/
def PageSet.put (p : PageSet) (c n : Nat) : PageSet :=
  if c = 0 then { p with c0 := n } else if c = 1 then { p with c1 := n }
  else if c = 2 then { p with c2 := n } else { p with c3 := n }

/-- No pages. -/
def noPages : PageSet := ⟨0, 0, 0, 0⟩

/-- Pages of all channels. -/
def PageSet.total (p : PageSet) : Nat := p.c0 + p.c1 + p.c2 + p.c3

/-- Two sets of pages together. -/
def PageSet.add (a b : PageSet) : PageSet := ⟨a.c0 + b.c0, a.c1 + b.c1, a.c2 + b.c2, a.c3 + b.c3⟩

/-- The channel with the most free pages, the lower one of a tie (R202). -/
def PageSet.firstChannel (p : PageSet) : Nat :=
  (List.range 4).foldl (fun a c => if p.get a < p.get c then c else a) 0

/-- The next channel in turn that has a free page. -/
def PageSet.turn (p : PageSet) (c : Nat) : Nat :=
  ((List.range 4).map (fun i => (c + i) % 4)).find? (fun k => p.get k != 0) |>.getD c

/-- `n` pages taken in turn from channel `c` on: the pages taken and those left. -/
def takePages : Nat → Nat → PageSet → PageSet → PageSet × PageSet
  | 0, _, got, free => (got, free)
  | n + 1, c, got, free =>
    let k := free.turn c
    takePages n ((k + 1) % 4) (got.put k (got.get k + 1)) (free.put k (free.get k - 1))

/-- Pages of one structure taken from the pool (R202). -/
def State.takePool (s : State) (n : Nat) : PageSet × State :=
  let r := takePages n s.cur.free.firstChannel noPages s.cur.free
  (r.1, { s with cur := { s.cur with free := r.2 } })

/-- Bytes of the device region that a structure takes (R32). -/
def DevStruct.bytes : DevStruct → Nat
  | .composed => 16 * 2 ^ 20
  | .upload => 24 * 2 ^ 20
  | .matrices => 36 * 2 ^ 20
  | .ledger => 12 * 2 ^ 20
  | .gains => 12 * 2 ^ 20
  | .faultMap => 768 * 2 ^ 10
  | .tables => 2 * 2 ^ 20
  | .working => 613 * 2 ^ 18

/-- Pages that a structure has on a channel. -/
def devPages (s : State) (d : DevStruct) (ch : Nat) : Nat :=
  match s.cur.device.find? (fun x => x.1 == d) with
  | none => 0
  | some x => x.2.get ch

/-- The channel of a byte of a structure: its pages are taken in turn from channel 0 on, as every structure has a multiple of
four of them (R202). -/
def devChannel (byte : Nat) : Nat := byte / 8192 % 4

/-- Pages given back to the pool. -/
def State.givePool (s : State) (p : PageSet) : State :=
  { s with cur := { s.cur with free := s.cur.free.add p } }

/-- Family, sub-sampling and depth of a format code (R232). -/
def fmtFamily (f : Nat) : Nat := f / 16
/-- 0 for 4:4:4, 1 for 4:2:2, 2 for 4:2:0. -/
def fmtSub (f : Nat) : Nat := f / 4 % 4
/-- 0 for 8 bits, 1 for 10, 2 for 12. -/
def fmtDepth (f : Nat) : Nat := f % 4

/-- A valid format code (R232). -/
def fmtValid (f : Nat) : Bool :=
  decide (fmtDepth f < 3) && decide (fmtSub f < 3) &&
    ((fmtFamily f == 1 && fmtSub f == 0) || fmtFamily f == 2 || fmtFamily f == 3)

/-- Row bytes and rows of each plane (R232). -/
def planesOf (f w h : Nat) : List (Nat × Nat) :=
  let b := if fmtDepth f = 0 then 1 else 2
  let wc := if fmtSub f = 0 then w else w / 2
  let hc := if fmtSub f = 2 then h / 2 else h
  if fmtFamily f = 1 then [((if fmtDepth f = 0 then 3 else if fmtDepth f = 1 then 4 else 6) * w, h)]
  else if fmtFamily f = 2 then [(w * b, h), (2 * wc * b, hc)]
  else [(w * b, h), (wc * b, hc), (wc * b, hc)]

/-- Bytes of a surface (R203). -/
def surfaceBytes (f w h : Nat) : Nat := lsum ((planesOf f w h).map (fun p => p.1 * p.2))

/-- Pages of a number of bytes (R203). -/
def pagesOf (bytes : Nat) : Nat := divCeil bytes 8192

/-! ## Use and quotas (R203, R210) -/

/-- A surface that is live in a context. -/
def findSurface (s : State) (c h : Nat) : Option Surface :=
  s.cur.surfaces.find? (fun x => x.ctx == c && x.handle == h)

/-- Pages that count against a context: its handles, its ingests and its replaced content (R204, R205). -/
def ctxPages (s : State) (c : Nat) : Nat :=
  lsum ((s.cur.surfaces.filter (fun x => x.ctx == c)).map (fun x => x.pages.total)) +
  lsum ((vget s.ctx c).ingests.map (fun g => g.pages.total)) +
  lsum ((s.cur.oldPages.filter (fun x => x.1 == c)).map (fun x => x.2.total))

/-- Live handles of a context. -/
def ctxHandles (s : State) (c : Nat) : Nat := (s.cur.surfaces.filter (fun x => x.ctx == c)).length

/-- Pool capacity in KiB (R33, R226). -/
def poolKib (s : State) : Nat := 3932160 - 8 * s.cur.mapped.length

/-- `HCX_QUOTA` of a context. -/
def quotaMib (s : State) (c : Nat) : Nat := s.rfld (inst Reg.HCX_QUOTA 0x400 c) 0 16
/-- Handles allowed. -/
def quotaHandles (s : State) (c : Nat) : Nat := s.rfld (inst Reg.HCX_QUOTA 0x400 c) 16 16

/-- The effective quotas in MiB (R210). -/
def effectiveQuotas (s : State) : List Nat :=
  let cap := poolKib s / 1024
  let total := lsum (((List.range 4).filter (fun c => ctxEnabled s c || ctxHandles s c != 0)).map (quotaMib s))
  (List.range 4).map (fun c => if total ≤ cap then quotaMib s c else quotaMib s c * cap / total)

/-- The effective quotas computed again (R210). `shrunk` names the channel whose row took capacity away. -/
def State.requota (s : State) (shrunk : Option Nat) : State :=
  let new := effectiveQuotas s
  let fell := (List.range 4).any (fun c => decide (new.getD c 0 < s.cur.qeff.getD c 0))
  let s : State := { s with cur := { s.cur with qeff := new } }
  match shrunk with
  | none => s
  | some ch =>
    if fell then
      let s : State := { s with cur := { s.cur with shrunk := true } }
      (s.setC Reg.CUR_ERR 256).raise .core Ev.POOL_SHRUNK ch
    else s

/-! ## Protection and recency (R207, R208) -/

/-- The handle that a layer shows. -/
def layerShows (s : State) (n : Nat) : Option (Nat × Nat) :=
  let x := vget s.layer n
  if x.set.blank ∨ x.set.handle = 0 then none else x.driver.map (fun c => (c, x.set.handle))

/-- A clip of a context. -/
def findClip (s : State) (c id : Nat) : Option Clip := (vget s.ctx c).clips.find? (fun k => k.id == id)

/-- The handles of a clip. -/
def clipHolds (s : State) (c id h : Nat) : Bool :=
  match findClip s c id with
  | none => false
  | some k => k.entries.any (fun e => e.1 == h)

/-- Word `i` of a descriptor. -/
def Desc.word (d : Desc) (i : Nat) : Nat := d.w.getD i 0
/-- A field of word `i`. -/
def Desc.bits (d : Desc) (i lo n : Nat) : Nat := natBits (d.word i) lo n
/-- Opcode of a descriptor (R174). -/
def Desc.op (d : Desc) : Nat := d.bits 0 0 8

/-- A pending descriptor names a handle (R207). -/
def pendNames (s : State) (c h : Nat) (p : Pend) : Bool :=
  if p.d.op = 2 then p.d.bits 4 8 1 == 0 && p.d.word 5 == h
  else if p.d.op = 6 then clipHolds s c (p.d.bits 4 0 8) h else false

/-- A live handle is protected (R207). -/
def protectedHandle (s : State) (c h : Nat) : Bool :=
  let q := vget s.ctx c
  (List.range 16).any (fun n => layerShows s n == some (c, h)) ||
  (List.range 16).any (fun n => let x := vget q.shadow n; x.given && !x.set.blank && x.set.handle == h) ||
  q.pend.any (pendNames s c h) ||
  (q.clips ++ q.clipNext).any (fun k => k.entries.any (fun e => e.1 == h)) ||
  q.ingests.any (fun g => g.handle == h) ||
  s.cur.reading.contains (c, h)

/-- Eviction order (R208, and contexts in ascending order for R209). -/
def evictsBefore (a b : Surface) : Bool :=
  if a.shown ≠ b.shown then decide (a.shown < b.shown)
  else if a.handle ≠ b.handle then decide (a.handle < b.handle) else decide (a.ctx ≤ b.ctx)

/-- The evictable handles of the contexts that a test admits, least recently shown first. -/
def evictable (s : State) (ok : Nat → Bool) : List Surface :=
  (s.cur.surfaces.filter (fun x => ok x.ctx && !protectedHandle s x.ctx x.handle)).mergeSort evictsBefore

/-! ## Eviction plans (R209) -/

/-- What an eviction takes. -/
inductive Victim where
  | vitrine (v : Vitrine)
  | surface (x : Surface)
  deriving DecidableEq, Repr

/-- Pages that a victim frees. -/
def Victim.pages : Victim → PageSet
  | .vitrine v => v.pages
  | .surface x => x.pages

/-- Pages of a context that a plan frees. -/
def planPages (c : Nat) (plan : List Surface) : Nat :=
  lsum ((plan.filter (fun x => x.ctx == c)).map (fun x => x.pages.total))

/-- Surfaces from a list until a condition on those taken holds; none where it never does. -/
def takeUntil (done : List Surface → Bool) : List Surface → List Surface → Option (List Surface)
  | got, l =>
    if done got then some got
    else match l with
      | [] => none
      | x :: xs => takeUntil done (got ++ [x]) xs
termination_by structural _ l => l

/-- Pages by which a context may still be taken from as one over its quota. -/
def overQuota (s : State) (c : Nat) (plan : List Surface) : Bool :=
  decide (s.cur.qeff.getD c 0 * 128 < ctxPages s c - planPages c plan)

/-- The handles that the second source of rule 3 gives, in its order: a context that has come down to its quota
is passed over (R209). -/
def overSource (s : State) : List Surface → List Surface → List Surface
  | _, [] => []
  | taken, x :: xs =>
    if overQuota s x.ctx taken then x :: overSource s (taken ++ [x]) xs else overSource s taken xs

/-- The sources of rule 3 in order, with `plan` already taken (R209). -/
def poolSources (s : State) (plan : List Surface) : List Victim :=
  let vit := (s.cur.vitrines.mergeSort (fun a b => decide (a.lastUsed ≤ b.lastUsed))).map Victim.vitrine
  let free := fun (x : Surface) => !plan.contains x
  let above := overSource s plan ((evictable s (fun _ => true)).filter free)
  let off := (evictable s (fun c => !ctxEnabled s c)).filter (fun x => free x && !above.contains x)
  vit ++ (above ++ off).map Victim.surface

/-- Victims in order until enough is free. -/
def takeVictims (enough : PageSet → Bool) : PageSet → List Victim → Option (List Victim)
  | free, l =>
    if enough free then some []
    else match l with
      | [] => none
      | v :: vs => (takeVictims enough (free.add v.pages) vs).map (fun r => v :: r)
termination_by structural _ l => l

/-- The evictions that make a load of `n` pages to a handle fit, none where nothing does (R209). -/
def admission (s : State) (c h n : Nat) : Option (List Victim) :=
  let own := evictable s (fun k => k == c)
  let live := (findSurface s c h).isSome
  let slot := fun (plan : List Surface) => live || decide (ctxHandles s c - plan.length < quotaHandles s c)
  let fits := fun (plan : List Surface) =>
    slot plan && decide (ctxPages s c - planPages c plan + n ≤ s.cur.qeff.getD c 0 * 128)
  match takeUntil fits [] own with
  | none => none
  | some plan =>
    let free := plan.foldl (fun (f : PageSet) x => f.add x.pages) s.cur.free
    (takeVictims (fun f => decide (n ≤ f.total)) free (poolSources s plan)).map
      (fun r => plan.map Victim.surface ++ r)

/-- A Vitrine surface discarded, its pages returned (R214). -/
def State.dropVitrine (s : State) (v : Vitrine) : State :=
  let s : State := { s with cur := { s.cur with vitrines := s.cur.vitrines.filter (fun x => x.layers != v.layers) } }
  s.givePool v.pages

/-- A handle evicted (R207). -/
def State.evict (s : State) (x : Surface) : State :=
  let s : State := { s with cur := { s.cur with
    surfaces := s.cur.surfaces.filter (fun y => !(y.ctx == x.ctx && y.handle == x.handle)) } }
  ((s.givePool x.pages).setC Reg.CUR_ERR 1).raiseTo x.ctx .core Ev.HANDLE_EVICTED x.ctx x.handle

/-- A victim taken. -/
def State.takeVictim (s : State) : Victim → State
  | .vitrine v => s.dropVitrine v
  | .surface x => s.evict x

/-- Victims taken in order. -/
def State.takeAll (s : State) (l : List Victim) : State := l.foldl (fun (s : State) v => s.takeVictim v) s

/-- Old content freed when the running composition ends, or at once where none runs (R205). -/
def State.freeOld (s : State) : State :=
  let l := s.cur.oldPages
  let s : State := { s with cur := { s.cur with oldPages := [] } }
  l.foldl (fun (s : State) x => s.givePool x.2) s

/-! ## Bands (R219, R220) -/

/-- An engine is in service. -/
def beInService (s : State) (e : Nat) : Bool := decide (e < 8) && !hasBit s.cur.retired e

/-- The engines in service in ascending order. -/
def beList (s : State) : List Nat := (List.range 8).filter (beInService s)

/-- Row quads of a height (R219). -/
def quadsOf (h : Nat) : Nat := max 1 (h / 4)

/-- The first quad boundary where `n` times the cumulative cycles reach `j` times the total. -/
def bandBoundary (n goal : Nat) : Nat → Nat → List Nat → Nat
  | at', _, [] => at'
  | at', cum, c :: cs => if goal ≤ n * cum then at' else bandBoundary n goal (at' + 1) (cum + c) cs

/-- The quad boundaries of `n` bands, the ends included (R219). -/
def bandBounds (q n : Nat) (cycles : List Nat) : List Nat :=
  (List.range (n + 1)).map (fun j =>
    if j = 0 then 0
    else if j = n then q
    else if cycles.length = q then bandBoundary n (j * lsum cycles) 0 0 cycles
    else (2 * j * q + n) / (2 * n))

/-- The bands of a composition: engines in service in ascending order take ascending rows (R219). -/
def assignBands (s : State) (h : Nat) : List Band :=
  let es := beList s
  let q := quadsOf h
  let bs := bandBounds q es.length s.cur.quads
  let row := fun b => if b = q then h else min h (4 * b)
  (es.zip (bs.zip (bs.drop 1))).map (fun x =>
    { engine := x.1, first := row x.2.1, rows := row x.2.2 - row x.2.1 })

/-- Cycles of an engine: those of the quads of its band. -/
def bandCycles (b : Band) (cycles : List Nat) : Nat :=
  if b.rows = 0 then 0 else lsum ((cycles.drop (b.first / 4)).take (divCeil b.rows 4))

/-! ## Retirement (R35, R222 to R224) -/

/-- Causes of a retirement in the event data of `BE_RETIRED` (log entry 26). -/
def retireCheck : Nat := 0
/-- An engine that hangs. -/
def retireHang : Nat := 1
/-- A command. -/
def retireCmd : Nat := 2

/-- `BAND_CHECK_UNRESOLVED`. -/
def State.unresolved (s : State) (e : Nat) : State :=
  (s.setC Reg.CUR_ERR 16).raise .core Ev.BAND_CHECK_UNRESOLVED e

/-- An engine retired, unless none would be left (R223). -/
def State.retire (s : State) (e cause : Nat) : State :=
  if !beInService s e then s
  else if (beList s).length ≤ 1 then s.unresolved e
  else
    let left := (beList s).length - 1
    let s : State := { s with cur := { s.cur with
      retired := setBit s.cur.retired e, degraded := s.cur.degraded || decide (left < 6) } }
    (s.setC Reg.CUR_ERR 8).raise .core Ev.BE_RETIRED e cause

/-- Engines that `CUR_BE_CMD` names leave service from the next composition; a command that leaves none changes
nothing (R223). -/
def State.retireCommand (s : State) (data : Word) : State :=
  let bits := actionBits data % 256
  let left := (beList s).filter (fun e => !hasBit (bits ||| s.cur.retireReq) e)
  if left.isEmpty then s
  else { s with cur := { s.cur with retireReq := s.cur.retireReq ||| bits } }

/-- `BE_RETIRE_CMD`: a write of `CUR_BE_CMD` (R223). -/
def execBeRetireCmd (data : Word) (s : State) : Out := .next (s.retireCommand data)

/-- The engines commanded out of service leave it as a composition starts; where that would leave none by now, nothing
changes (R223). -/
def State.retireDue (s : State) : State :=
  let req := s.cur.retireReq
  let s : State := { s with cur := { s.cur with retireReq := 0 } }
  s.onlyIf ((beList s).any (fun e => !hasBit req e)) fun s => (List.range 8).foldl (fun (s : State) e => if hasBit req e then s.retire e retireCmd else s) s

/-- The engines late at F(k-1): one alone counts a hang, several count for none (R224). The last engine in service stays,
and each of its hangs is reported (R223). -/
def State.countHang (s : State) (late : List Nat) : State :=
  let l := (beList s).filter (fun e => late.contains e)
  match l with
  | [e] =>
    let n := s.cur.hangs.getD e 0 + 1
    let limit := max 1 (s.rfld Reg.CUR_CTL 8 4)
    let keep := fun (m : Nat) => (List.range 8).map (fun i => if i = e then m else 0)
    if (beList s).length = 1 then ({ s with cur := { s.cur with hangs := keep 0 } } : State).unresolved e
    else if limit ≤ n then (let s : State := { s with cur := { s.cur with hangs := keep 0 } }; s.retire e retireHang)
    else { s with cur := { s.cur with hangs := keep n } }
  | _ => { s with cur := { s.cur with hangs := List.replicate 8 0 } }

/-! ## Abandoned compositions (R30) -/

/-- A composition, or a composed frame, that is given up: no upload, no swap, `COMPOSE_OVERRUN`, and equal bands
for the next frame (R30, R219). -/
def State.abandonFrame (s : State) (k : Nat) : State :=
  let running := s.pix.composing.any (fun x => x.frame == k)
  let s : State := { s with
    pix := { s.pix with
      composing := if running then none else s.pix.composing
      composed := s.pix.composed.filter (fun x => x.frame != k) }
    scn := { s.scn with skipped := k :: s.scn.skipped }
    cur := { s.cur with quads := [], reading := if running then [] else s.cur.reading } }
  let s := if running then s.freeOld else s
  (s.setC Reg.CUR_ERR 512).raise .core Ev.COMPOSE_OVERRUN 0

/-! ## Duplicate bands (R221, R222) -/

/-- The band that is checked in frame `k`, its engine and the duplicate engine (R221, R222). -/
def dupOf (s : State) (k : Nat) : Option DupCheck :=
  match s.cur.dupAgain with
  | some d => some { d with frame := k }
  | none =>
    let es := s.cur.bands.map (·.engine)
    let n := es.length
    if bitOf (s.reg Reg.CUR_CTL) 0 && decide (2 ≤ n) && k % 64 == 0 then
      let i := k / 64 % n
      some { frame := k, band := i, engine := es.getD i 0, dup := es.getD ((i + 1) % n) 0,
             third := if 3 ≤ n then some (es.getD ((i + 2) % n) 0) else none }
    else none

/-- `BAND_CHECK_COMPARE`: whether the two values agree, and where they do not and a third engine composes the
band, which of the two it agrees with: the checked engine (true), the duplicate (false) or neither (R222). -/
def execBandCheckCompare (agree : Bool) (third : Option Bool) (s : State) : Out :=
  match s.cur.dup with
  | none => .next s
  | some d =>
    let s : State := { s with cur := { s.cur with dup := none } }
    if agree then .next s
    else match d.third with
      | none => .next (s.unresolved d.engine)
      | some _ =>
        match third with
        | some checkedGood =>
          let s := (s.setC Reg.CUR_ERR 4).raise .core Ev.BAND_CHECK_MISMATCH d.engine
          .next (s.retire (if checkedGood then d.dup else d.engine) retireCheck)
        | none =>
          let runs := s.pix.composing.any (fun c => c.frame == d.frame) || s.pix.composed.any (fun c => c.frame == d.frame)
          let s := (s.unresolved d.engine).onlyIf runs (fun s => s.abandonFrame d.frame)
          .next { s with cur := { s.cur with dupAgain := some d } }

/-! ## Registers -/

/-- What `CUR_CTL`, `CUR_VIT_CTL` and `CUR_ECC_CTL` hold of a word written. -/
def curStored (addr : Nat) (w : Word) : Word :=
  if addr = Reg.CUR_CTL then mkWord [(8, max 1 (fld w 8 4)), (0, fld w 0 1)]
  else if addr = Reg.CUR_VIT_CTL then
    mkWord [(8, min 4 (fld w 8 3)), (0, if fld w 0 8 = 1 then 2 else fld w 0 8)]
  else if addr = Reg.CUR_ECC_CTL then mkWord [(24, fld w 24 8), (0, max 1 (fld w 0 8))]
  else w

/-- `CUR_BANDn` of the composition that ended last (R220). -/
def viewBand (s : State) (n : Nat) : Word :=
  match s.cur.lastBands[n]? with
  | none => 0
  | some b => if b.rows = 0 then 0 else mkWord [(31, 1), (28, b.engine), (16, b.rows), (0, b.first)]

/-- The place of a DRAM row in `CUR_ECC_LAST`. -/
def rowCode (r : RowAt) : Nat := r.channel % 4 * 2 ^ 17 + r.bank % 16 * 2 ^ 13 + r.row % 8192

/-- Layers composed through a Vitrine surface. -/
def vitrineLayers (s : State) : Nat :=
  (s.cur.vitrines.filter (·.ready)).foldl (fun a v => v.layers.foldl setBit a) 0

/-- The registers of the Curator that show its state. -/
def viewCur (s : State) (addr : Nat) : Option Word :=
  if addr = Reg.CUR_POOL_CAP then some (BitVec.ofNat 32 (poolKib s))
  else if addr = Reg.CUR_POOL_FREE then some (BitVec.ofNat 32 (s.cur.free.total * 8))
  else if Reg.CUR_CTX_USE0 ≤ addr ∧ addr ≤ Reg.CUR_CTX_USE3 then
    let c := (addr - Reg.CUR_CTX_USE0) / 4
    some (mkWord [(16, min 65535 (ctxHandles s c)), (0, divCeil (ctxPages s c) 128)])
  else if addr = Reg.CUR_VIT_STAT then
    some (mkWord [(16, (s.cur.vitrines.filter (·.ready)).length), (0, vitrineLayers s)])
  else if addr = Reg.CUR_BE_STAT then
    some (mkWord [(16, (beList s).length), (8, s.cur.retired % 256), (0, 255 - s.cur.retired % 256)])
  else if addr = Reg.CUR_BE_CMD then some 0
  else if Reg.CUR_BAND0 ≤ addr ∧ addr ≤ Reg.CUR_BAND7 then some (viewBand s ((addr - Reg.CUR_BAND0) / 4))
  else if Reg.CUR_BE_CYC0 ≤ addr ∧ addr ≤ Reg.CUR_BE_CYC7 then
    let e := (addr - Reg.CUR_BE_CYC0) / 4
    some (if beInService s e then BitVec.ofNat 32 (min 0xFFFFFFFF (s.cur.cycles.getD e 0)) else 0)
  else if Reg.CUR_CTX_QEFF0 ≤ addr ∧ addr ≤ Reg.CUR_CTX_QEFF3 then
    some (mkWord [(0, s.cur.qeff.getD ((addr - Reg.CUR_CTX_QEFF0) / 4) 0)])
  else if addr = Reg.CUR_ECC_CNT then some (mkWord [(16, s.cur.ue), (0, s.cur.ce)])
  else if addr = Reg.CUR_ECC_LAST then
    some (match s.cur.lastErr with
      | none => 0
      | some (r, ue) => mkWord [(31, b2n ue), (0, rowCode r)])
  else if addr = Reg.CUR_ROWMAP then
    some (mkWord [(16, min 65535 s.cur.failedRows.length), (0, s.cur.mapped.length)])
  else none

end Sys2Proof.Machine
end

