-- ==== Sys2Proof/Machine/FixMath.lean ====
section
/-! DEFINITION. Fixed-point values of the real functions that the rules name (logarithm, exponential, power, sine,
the transfer curves of R260 and the filter kernel of R242), with 80 fraction bits (log entry 12). -/

namespace Sys2Proof.Machine

/-- 1.0 with 80 fraction bits. -/
def fxOne : Int := (2 ^ 80 : Nat)

/-- A quotient as fixed-point. -/
def fxRat (n d : Int) : Int := n * fxOne / d

/-- A product. -/
def fxMul (a b : Int) : Int := a * b / fxOne

/-- A quotient of two fixed-point values. -/
def fxDiv (a b : Int) : Int := if b = 0 then 0 else a * fxOne / b

/-- The nearest integer to a fixed-point value, halves upward. -/
def fxRound (a : Int) : Int := (a + fxOne / 2) / fxOne

/-- `z + z³/3 + z⁵/5 + …`: `fuel` terms from the odd number `k` on, `p` being `z^k`. -/
def atanhSum (z2 : Int) : Nat → Nat → Int → Int
  | 0, _, _ => 0
  | fuel + 1, k, p => p / ((k : Nat) : Int) + atanhSum z2 fuel (k + 2) (fxMul p z2)

/-- The inverse hyperbolic tangent of a value of at most 1/3. -/
def fxAtanh (z : Int) : Int := atanhSum (fxMul z z) 28 1 z

/-- ln 2. -/
def fxLn2 : Int := 2 * fxAtanh (fxRat 1 3)

/-- ln of `n / d`, both positive. -/
def fxLn (n d : Nat) : Int :=
  let e : Int := (Nat.log2 n : Int) - (Nat.log2 d : Int)
  -- n / (d · 2^e) lies in (1/2, 2)
  let a : Int := if e < 0 then (n * 2 ^ e.natAbs : Nat) else n
  let b : Int := if e < 0 then d else (d * 2 ^ e.natAbs : Nat)
  2 * fxAtanh (fxRat (a - b) (a + b)) + e * fxLn2

/-- `1 + x + x²/2 + …`: terms from number `k` on, `p` being the last term. -/
def expSum (x : Int) : Nat → Nat → Int → Int
  | 0, _, p => p
  | fuel + 1, k, p => p + expSum x fuel (k + 1) (fxMul p x / ((k : Nat) : Int))

/-- e to a fixed-point power. -/
def fxExp (x : Int) : Int :=
  let n := x / fxLn2
  let r := expSum (x - n * fxLn2) 30 1 fxOne
  if n < 0 then r / ((2 ^ n.natAbs : Nat) : Int) else r * ((2 ^ n.natAbs : Nat) : Int)

/-- `(n / d)` to the power `y`; 0 for a base of 0. -/
def fxPow (n d : Nat) (y : Int) : Int := if n = 0 then 0 else fxExp (fxMul (fxLn n d) y)

/-- A fixed-point base to a fixed-point power. -/
def fxPowF (x y : Int) : Int := if x ≤ 0 then 0 else fxPow x.toNat fxOne.toNat y

/-- `1/q − 1/(3q³) + …`: the inverse tangent of `1/q`. -/
def atanSum (q2 : Int) : Nat → Nat → Int → Int
  | 0, _, _ => 0
  | fuel + 1, k, p => p / ((k : Nat) : Int) + atanSum q2 fuel (k + 2) (-(p / q2))

/-- π, by Machin's formula. -/
def fxPi : Int := 4 * (4 * atanSum 25 40 1 (fxOne / 5) - atanSum 57121 40 1 (fxOne / 239))

/-- `x − x³/6 + …`: terms from number `k` on, `p` being the last term. -/
def sinSum (x2 : Int) : Nat → Nat → Int → Int
  | 0, _, _ => 0
  | fuel + 1, k, p => p + sinSum x2 fuel (k + 2) (-(fxMul p x2 / (((k + 1) * (k + 2) : Nat) : Int)))

/-- Sine of an angle of at most 2π. -/
def fxSin (x : Int) : Int := sinSum (fxMul x x) 30 1 x

/-- `sin(πu) / (πu)`; 1 at 0. -/
def fxSinc (u : Int) : Int :=
  if u = 0 then fxOne else (let y := fxMul fxPi u; fxDiv (fxSin y) y)

/-- The kernel of R242. -/
def kernel (u : Int) : Int :=
  if 2 * fxOne ≤ u ∨ u ≤ -(2 * fxOne) then 0 else fxMul (fxSinc u) (fxSinc (u / 2))

/-! ## Transfer curves (R260)

The curves are those of the standards that R260 names; their constants come from the standards (log entry 30). -/

/-- SMPTE ST 2084: linear light of `n / d`, 1.0 for 10,000 cd/m². -/
def curvePq (n d : Nat) : Int :=
  let v := fxPow n d (fxRat 32 2523)
  let num := v - fxRat 3424 4096
  let den := fxRat (2413 * 32) 4096 - fxMul (fxRat (2392 * 32) 4096) v
  if num ≤ 0 then 0 else fxPowF (fxDiv num den) (fxRat 16384 2610)

/-- BT.2100 HLG inverse OETF. -/
def curveHlg (n d : Nat) : Int :=
  if 2 * n ≤ d then fxRat ((n * n : Nat) : Int) ((3 * (d * d) : Nat) : Int)
  else
    let e := fxExp (fxDiv (fxRat n d - fxRat 55991073 100000000) (fxRat 17883277 100000000))
    (e + fxRat 28466892 100000000) / 12

/-- A curve of R260 at `n / d`. -/
def curveAt (tf n d : Nat) : Int :=
  if tf = 0 then fxPow n d (fxRat 12 5)
  else if tf = 1 then curvePq n d
  else if tf = 2 then curveHlg n d
  else fxRat n d

/-- Entry `i` of a start curve (R260). -/
def startCurve (tf i : Nat) : Nat :=
  let n := min 65535 (64 * i)
  min 0xFFFFFF (fxRound (curveAt tf n 65535 * 0xFFFFFF)).toNat

/-! ## Thermistors (R396, R457) -/

/-- The temperature that a ratio of V to its reference, in units of 1/100,000, stands for by the formula of R396, in
1/16 °C; none where the formula gives no number. -/
def ntcTemp (ratio : Nat) : Option Int :=
  if ratio = 0 ∨ 100000 ≤ ratio then none
  else
    let inv := fxRat 100 29815 + fxLn ratio (100000 - ratio) / 3435
    if inv ≤ 0 then none else some (fxRound (16 * (fxDiv fxOne inv - fxRat 27315 100)))

/-- A converted reading in the 16-bit format of R10: the temperature of `ratio` with a conversion error of `dev`
(1/16 °C), which lies within ±`near` at 25 °C and within ±16 from −40 °C to `top`. The rules bound no error beyond
that range and state no temperature where the formula gives none: there `dev` stands free (log entry 100). -/
def ntcReading (near top : Int) (ratio : Nat) (dev : Int) : Int :=
  let t := match ntcTemp ratio with
    | none => dev
    | some t =>
      if t < -640 ∨ top < t then t + dev
      else if t = 400 then t + clampInt (-near) near dev
      else t + clampInt (-16) 16 dev
  clampInt (-32768) 32767 t

/-- The reading of a cell thermistor (R396). -/
def cellTemp (ratio : Nat) (dev : Int) : Int := ntcReading 8 2000 ratio dev

/-- The reading of a lamp sensor (R456, R457). -/
def lampTemp (ratio : Nat) (dev : Int) : Int := ntcReading 16 2400 ratio dev

/-! ## Values with a stated error bound -/

/-- A value within a bound of its error: the deviation is whatever the free constant says (log entry 31). -/
def within (bound : Int) (tag arg : Nat) (x : Int) : Int :=
  if bound ≤ 0 then x
  else x + ((Config.slack tag arg : Nat) : Int) % (2 * bound + 1) - bound

end Sys2Proof.Machine
end

