-- ==== Sys2Proof/Machine/Tables.lean ====
section
/-! DEFINITION. The tables of the pixel pipeline (R183, R260, R276 to R280, R328): their banks, their start
content, swaps, copies, the data port and the archive. Table `t` is table 0x0t. -/

namespace Sys2Proof.Machine

/-- Words of a bank of table `t` (R264, R274, R276, R328). -/
def tableLen (t w h : Nat) : Nat :=
  if t = 1 then 4118
  else if t = 2 then 12288
  else if t = 3 then 18 * w * h / 4
  else 98304

/-- The same in the active geometry. -/
def tableWords (s : State) (t : Nat) : Nat := tableLen t s.width s.height

/-- Two coefficients of the identity matrices of table 0x03, word `i` (R264, R279). -/
def identityPair (i : Nat) : Nat :=
  let c := fun (k : Nat) => if k % 9 % 4 = 0 then 16384 else 0
  c (2 * i) + c (2 * i + 1) * 65536

/-- Word `i` of table `t` as the start content has it (R260). -/
def tableStart (t i : Nat) : Word :=
  BitVec.ofNat 32 (
    if t = 1 then
      if i < 4100 then startCurve (i / 1025) (i % 1025)
      else if (i - 4100) % 9 % 4 = 0 then 16384 else 0
    else if t = 2 then i % 4096
    else if t = 3 then identityPair i
    else 2 ^ 31 + i / 3072 * 2 ^ 16 + i % 3072)

/-- Table `t`. -/
def tableOf (s : State) (t : Nat) : TableState := vget s.pix.tbl (t - 1)

/-- A bank of a table: the active or the inactive one. -/
def TableState.bank (x : TableState) (active : Bool) : List (Nat × Word) :=
  if active = x.active then x.bank1 else x.bank0

/-- A bank replaced. -/
def TableState.putBank (x : TableState) (active : Bool) (m : List (Nat × Word)) : TableState :=
  if active = x.active then { x with bank1 := m } else { x with bank0 := m }

/-- Word `i` of the active bank. -/
def activeWord (s : State) (t i : Nat) : Word := kget (tableStart t i) ((tableOf s t).bank true) i

/-- Word `i` of the inactive bank. -/
def inactiveWord (s : State) (t i : Nat) : Word := kget (tableStart t i) ((tableOf s t).bank false) i

/-- A table changed. -/
def State.modTbl (s : State) (t : Nat) (f : TableState → TableState) : State := s.modTable (t - 1) f

/-- A word stored in a bank. -/
def State.putTableWord (s : State) (t : Nat) (active : Bool) (i : Nat) (w : Word) : State :=
  s.modTbl t (fun x => x.putBank active (kput (tableStart t i) (x.bank active) i w))

/-- Bytes stored in the inactive bank from byte offset `off` on, a multiple of 4 (R183). -/
def State.putTableBytes (s : State) (t : Nat) : Nat → List Nat → State
  | off, a :: b :: c :: d :: rest =>
    (s.putTableWord t false (off / 4) (BitVec.ofNat 32 (ofBytesLE [a, b, c, d]))).putTableBytes t (off + 4) rest
  | _, _ => s

/-- The banks of a table swap; frame `k` is the first that uses the new one (R278). The copy of R183 follows, and loads of the
table in progress wait for it. -/
def State.swapTable (s : State) (t k : Nat) : State :=
  let s := (List.range 4).foldl (fun (s : State) c => s.modCtx c (fun q => { q with
    tloads := q.tloads.map (fun g => if g.table = t then { g with queued := true } else g) })) s
  (s.modTbl t (fun x => { x with active := !x.active, copying := true, dirty := true })).raise
    .core Ev.TABLE_SWAPPED t k

/-- The R183 copy has finished: both banks hold the content of the active one. -/
def State.copyTable (s : State) (t : Nat) : State :=
  s.modTbl t (fun x => { x.putBank false (x.bank true) with copying := false })

/-- Both banks given one content. -/
def State.setTable (s : State) (t : Nat) (m : List (Nat × Word)) : State :=
  s.modTbl t (fun x => { x with bank0 := m, bank1 := m })

/-! ## The data port (R277) -/

/-- Table and word that `PIX_TBL_INDEX` names. -/
def tblIndex (s : State) : Nat × Nat :=
  let w := s.reg Reg.PIX_TBL_INDEX
  (fld w 28 4, fld w 0 23)

/-- The index advanced by one. -/
def State.tblAdvance (s : State) : State := s.setRfld Reg.PIX_TBL_INDEX 0 23 ((tblIndex s).2 + 1)

/-- `PIX_ERR.TBLRANGE` or TBLBUSY set. -/
def State.tblErr (s : State) (bit : Nat) : State := s.setC Reg.PIX_ERR (2 ^ bit)

/-- An access to `PIX_TBL_DATA`: what a read returns, and the state after it (R277). -/
def tblPort (s : State) (write : Option Word) : Word × State :=
  let t := (tblIndex s).1
  let i := (tblIndex s).2
  if tableWords s t ≤ i then (0, s.tblErr 0)
  else match write with
    | none => (inactiveWord s t i, s.tblAdvance)
    | some w =>
      if (tableOf s t).copying then (0, s.tblErr 1) else (0, (s.putTableWord t false i w).tblAdvance)

/-- `PIX_TBL_DATA_ACCESS` (R277). -/
def execPixTblDataAccess (_r : Reader) (write : Option Word) (s : State) : Out := .next (tblPort s write).2

/-- `PIX_TBL_CMD.SWAP`: the named tables swap at the next composition deadline (R277). A swap that already waits
for the same deadline is not doubled. -/
def State.tableSwapCommand (s : State) (data : Word) : State :=
  let bits := actionBits data % 16
  (List.range 4).foldl (fun (s : State) i =>
    if hasBit bits i && !s.pix.swaps.any (fun r => r.table == i + 1 && r.ctx == none && r.frame == 0) then
      { s with pix := { s.pix with swaps := s.pix.swaps ++ [{ table := i + 1, frame := 0, late := false, ctx := none, d := ⟨0, []⟩ }] } }
    else s) s

/-- `TABLE_SWAP_CMD`: a write of `PIX_TBL_CMD`. -/
def execTableSwapCmd (data : Word) (s : State) : Out := .next (s.tableSwapCommand data)

/-! ## The archive (R280) -/

/-- Panel depth of the active timing set (R284). -/
def panelDepth (s : State) : Nat := s.afld Reg.SCN_SH_MODE 4 4

/-- The bytes of the curves. -/
def curveBytes (curve : List (Nat × Nat)) : List Nat := (List.range 195).flatMap (fun i => bytesLE 2 (kget 32768 curve i))

/-- The curves of Patina go to the archive; they are archived and restored as table data. -/
def State.curveArchive (s : State) : State :=
  if s.pat.curveDirty then
    { s with arc := { s.arc with curves := some (s.pat.curve, crc32c (curveBytes s.pat.curve)) }, pat := { s.pat with curveDirty := false } }
  else s

/-- The curves come back at the first commit. -/
def State.curveRestore (s : State) : State :=
  match s.arc.curves with
  | none => s
  | some (c, crc) =>
    if crc = crc32c (curveBytes c) then { s with pat := { s.pat with curve := c } }
    else (s.setC Reg.PIX_ERR 8).raise .core Ev.TABLE_RESTORE_FAIL 5

/-- The bytes that the CRC of an archived table covers (R280; log entry 97). -/
def arcTableBytes (t : Nat) (a : ArcTable) : List Nat :=
  (List.range (tableLen t a.w a.h)).flatMap (fun i => bytesLE 4 (kget (tableStart t i) a.words i).toNat) ++
    bytesLE 2 a.w ++ bytesLE 2 a.h ++ bytesLE 4 a.d

/-- What the Docent writes to the archive for a table (R280). -/
def arcTable (s : State) (t : Nat) : ArcTable :=
  let a : ArcTable := { words := (tableOf s t).bank true, w := s.width, h := s.height, d := panelDepth s, crc := 0 }
  { a with crc := crc32c (arcTableBytes t a) }

/-- `TABLE_ARCHIVE`: within 60 s of a swap the active bank goes to the archive (R280); number 5 stands for the curves of
Patina. -/
def execTableArchive (t : Nat) (s : State) : Out :=
  if t = 0 ∨ 5 < t then .fault (.illFormed "TABLE_ARCHIVE")
  else if !s.docentRuns then .next s
  else if t = 5 then .next s.curveArchive
  else if (tableOf s t).dirty && hasBit (s.rfld Reg.PIX_TBL_CTL 0 4) (t - 1) then
    let a := arcTable s t
    let s := s.modTbl t (fun x => { x with dirty := false })
    .next { s with arc := { s.arc with tables := vset s.arc.tables (t - 1) (some a) } }
  else .next s

/-- One archived table at the first commit (R280). -/
def State.restoreTable (s : State) (t : Nat) : State :=
  match vget s.arc.tables (t - 1) with
  | none => s
  | some a =>
    if a.crc ≠ crc32c (arcTableBytes t a) then (s.setC Reg.PIX_ERR 8).raise .core Ev.TABLE_RESTORE_FAIL t
    else if t = 3 ∧ (a.w ≠ s.width ∨ a.h ≠ s.height) then s
    else
      let s := s.setTable t a.words
      if t = 2 ∧ a.d ≠ panelDepth s then s.setC Reg.PIX_ERR 16 else s

/-- The tables are restored (R280, R532). -/
def State.restoreTables (s : State) : State :=
  (((s.restoreTable 1).restoreTable 2).restoreTable 3).restoreTable 4

/-- A geometry change resets table 0x03 to the identity (R279). -/
def State.calmatReset (s : State) : State :=
  ((s.setTable 3 []).setC Reg.PIX_ERR 4).raise .core Ev.CALMAT_RESET 3

end Sys2Proof.Machine
end

