-- ==== Sys2Proof/Machine/Contexts.lean ====
section
/-! DEFINITION. Host contexts (R163 to R173, R189 to R201): rights, rings and doorbells, completions, event
rings, host reads, enabling and disabling, failover pairs. -/

namespace Sys2Proof.Machine

/-! ## Registers of a context -/

/-- The address of an HCX register of a context. -/
def hcx (base c : Nat) : Nat := inst base 0x400 c

/-- A field of `HCX_CTL`. -/
def hcxCtl (s : State) (c lo n : Nat) : Nat := s.rfld (hcx Reg.HCX_CTL c) lo n

/-- ROLE: 0 independent, 1 primary, 2 standby. -/
def hcxRole (s : State) (c : Nat) : Nat := if s.pwr.legacy then 0 else hcxCtl s c 2 2

/-- The other context of a pair (R197). -/
def pairOf (s : State) (c : Nat) : Option Nat :=
  let d := hcxCtl s c 4 2
  if d ≠ c ∧ hcxCtl s d 4 2 = c ∧
      ((hcxRole s c = 1 ∧ hcxRole s d = 2) ∨ (hcxRole s c = 2 ∧ hcxRole s d = 1)) then some d else none

/-- The context drives its layers (R198). -/
def ctxActive (s : State) (c : Nat) : Bool := (pairOf s c).isNone || (vget s.ctx c).pairActive

/-- `HCX_LAYERS` of a context. -/
def hcxLayers (s : State) (c : Nat) : Nat := s.rfld (hcx Reg.HCX_LAYERS c) 0 16

/-- The layers that a context may name: a standby takes those of its primary (R165). -/
def layerRights (s : State) (c : Nat) : Nat :=
  match pairOf s c with
  | some d => if hcxRole s c = 2 then hcxLayers s d else hcxLayers s c
  | none => hcxLayers s c

/-- Granting `mask` to a context would grant a layer that another enabled context holds, other than its failover
partner; the own `HCX_LAYERS` of a standby counts for nothing (R165). -/
def layerConflict (s : State) (c mask : Nat) : Bool :=
  (List.range 4).any (fun d => d != c && ctxEnabled s d && pairOf s c != some d &&
    !(hcxRole s d == 2 && (pairOf s d).isSome) && (hcxLayers s d &&& mask) != 0)

/-- A bit of `HCX_ERR`. -/
def State.hcxErr (s : State) (c bit : Nat) : State := s.setC (hcx Reg.HCX_ERR c) (2 ^ bit)

/-- Entries of a ring: 0 submission, 1 completion, 2 event (R168). -/
def ringSize (s : State) (c ring : Nat) : Nat := 2 ^ s.rfld (hcx Reg.HCX_RING_SIZE c) (8 * ring) 5

/-- A 64-bit base of a context: 0 submission, 1 completion, 2 event ring, 3 doorbell area. -/
def ringBase (s : State) (c which : Nat) : Nat :=
  (s.reg (hcx (Reg.HCX_SQ_BASE_LO + 8 * which) c)).toNat +
    (s.reg (hcx (Reg.HCX_SQ_BASE_HI + 8 * which) c)).toNat * 2 ^ 32

/-- Bases and sizes pass the check of R168. -/
def ringsValid (s : State) (c : Nat) : Bool :=
  (List.range 3).all (fun r =>
    ringBase s c r % 4096 == 0 && (let n := s.rfld (hcx Reg.HCX_RING_SIZE c) (8 * r) 5; decide (4 ≤ n) && decide (n ≤ 16))) &&
  ringBase s c 3 % 256 == 0

/-! ## Completions (R189 to R191) -/

/-- Completion statuses (R191). -/
def stOk : Nat := 0
def stBadOpcode : Nat := 1
def stBadField : Nat := 2
def stNoRights : Nat := 3
def stNoHandle : Nat := 4
def stQuota : Nat := 5
def stReadFail : Nat := 6
def stCheckFail : Nat := 7
def stAlive : Nat := 8
def stSuperseded : Nat := 9
def stAborted : Nat := 10

/-- The device has finished with the host buffers of a descriptor (R190). -/
def releases (op : Nat) : Bool := op == 1 || op == 5 || op == 7

/-- A descriptor completes; ERR_ONLY suppresses an OK, except for SURFACE_LOAD (R174, R190). -/
def State.complete (s : State) (c : Nat) (d : Desc) (status : Nat) (frame : Nat := 0) (late : Bool := false)
    (shadow : Bool := false) (detail : Nat := 0) : State :=
  if d.bits 0 8 1 = 1 ∧ status = stOk ∧ d.op ≠ 1 then s
  else
    let k : Completion := { op := d.op, status := status, released := releases d.op, late := late, shadow := shadow,
                            alive := d.bits 0 16 8, user := d.word 1, frame := frame % 2 ^ 32, slot := d.slot,
                            detail := detail }
    s.modCtx c (fun q => { q with cplq := q.cplq ++ [k] })

/-- The four words of a completion (R190). -/
def completionWords (k : Completion) (phase : Bool) : List Nat :=
  [k.op + k.status * 2 ^ 8 + b2n phase * 2 ^ 16 + b2n k.released * 2 ^ 17 + b2n k.late * 2 ^ 18 +
     b2n k.shadow * 2 ^ 19 + k.alive * 2 ^ 24,
   k.user, k.frame, k.slot + k.detail * 2 ^ 16]

/-- The bytes of a list of words. -/
def wordBytes (ws : List Nat) : List Nat := ws.flatMap (bytesLE 4)

/-- The 16 bytes that the device writes at 0x20 of a doorbell block (R170). -/
def State.doorbell (s : State) (c block index lost frame : Nat) : State :=
  s.hostWrite c (ringBase s c 3 + 0x40 * block + 0x20)
    (wordBytes [index, lost, frame % 2 ^ 32, frame / 2 ^ 32 % 65536])

/-- A port is UP. -/
def portUp (s : State) (p : Nat) : Bool := decide ((vget s.port p).st = .up)

/-- A ring of the device's is full (R169). -/
def ringFull (s : State) (c ring head tail : Nat) : Bool := (tail + 1) % ringSize s c ring == head

/-- A context that has been disabled is done once no completion waits: IDLE reads 1, and the host may learn of it (R195). -/
def State.closeDone (s : State) (c : Nat) : State :=
  s.onlyIf ((vget s.ctx c).closing && (vget s.ctx c).cplq.isEmpty) (fun s =>
    (s.modCtx c (fun q => { q with closing := false })).raise .core Ev.CTX_DISABLED c)

/-- The completions of a disabled context discarded. -/
def State.closeNow (s : State) (c : Nat) : State :=
  s.onlyIf (vget s.ctx c).closing (fun s => (s.modCtx c (fun q => { q with cplq := [] })).closeDone c)

/-- A millisecond has passed: disabled contexts whose ports are still not UP lose their completions (R195; log entry 33). -/
def State.closeTick (s : State) : State :=
  s.onlyIf s.awake (fun s => (List.range 4).foldl (fun (s : State) c => if portUp s c then s else s.closeNow c) s)

/-- `COMPLETION_WRITE`: the oldest completion goes into the completion ring, where it has room and the port is
UP, and then the producer index (R172, R173, R189). -/
def execCompletionWrite (c : Fin 4) (s : State) : Out :=
  let q := vget s.ctx c
  match q.cplq with
  | [] => .next s
  | k :: rest =>
    if !portUp s c || ringFull s c 1 q.cqHead q.cqTail then .next s
    else
      let tail := (q.cqTail + 1) % ringSize s c 1
      let s := s.hostWrite c (ringBase s c 1 + 16 * q.cqTail) (wordBytes (completionWords k q.cqPhase))
      let s := s.modCtx c (fun q => { q with
        cplq := rest, cqTail := tail, cqPhase := if tail = 0 then !q.cqPhase else q.cqPhase })
      .next ((s.doorbell c 1 tail 0 0).closeDone c)

/-! ## Event rings (R149, R192 to R194) -/

/-- One entry into the event ring, the producer index, and the EVT packet, which version 1 never sends (R161). -/
def State.eventEntry (s : State) (c : Nat) (x : Stamped) : State :=
  let q := vget s.ctx c
  let tail := (q.eqTail + 1) % ringSize s c 2
  let s := s.hostWrite c (ringBase s c 2 + 32 * q.eqTail) (wordBytes (entryWords x q.eqPhase))
  let s := s.modCtx c (fun q => { q with eqTail := tail, eqPhase := if tail = 0 then !q.eqPhase else q.eqPhase })
  let s := s.doorbell c 2 tail (vget s.ctx c).evLost 0
  if s.rfld (yzlReg Reg.YZL_TL_CTL c) 0 1 = 1 ∧ (vget s.port c).version ≠ 1 then s.sendPackets c [.evt x.seq x.ev.code x.ev.sev tail] else s

/-- The overflow entry, where losses are counted and the ring has room (R194). -/
def State.eventOverflow (s : State) (c : Nat) : State :=
  let q := vget s.ctx c
  if q.evLost = 0 ∨ portUp s c = false ∨ ringFull s c 2 q.eqHead q.eqTail = true then s
  else
    let x : Stamped := { seq := q.evLostSeq, frame := s.scn.frame, opsec := s.opsec,
                         ev := { code := Ev.EVT_RING_OVERFLOW.code, sev := Ev.EVT_RING_OVERFLOW.sev, inst := c,
                                 d0 := q.evLost } }
    (s.modCtx c (fun q => { q with evLost := 0 })).eventEntry c x

/-- `EVT_RING_OVERFLOW` (R194). -/
def execEvtRingOverflow (c : Fin 4) (s : State) : Out := .next (s.eventOverflow c)

/-- An event that finds the ring full or the port down is counted as lost, and the count goes to the event block (R170,
R194, R196). -/
def State.eventLost (s : State) (c : Nat) (x : Stamped) : State :=
  let s := (s.modCtx c (fun q => { q with evLost := satAdd 16 q.evLost 1, evLostSeq := x.seq })).hcxErr c 4
  s.doorbell c 2 (vget s.ctx c).eqTail (vget s.ctx c).evLost 0

/-- `EVENT_RING_WRITE`: the oldest event of the context is written, or lost (R193, R194, R196). The overflow entry of
earlier losses goes first. -/
def execEventRingWrite (c : Fin 4) (s : State) : Out :=
  let s := s.eventOverflow c
  let q := vget s.ctx c
  match q.evq with
  | [] => .next s
  | x :: rest =>
    let s := s.modCtx c (fun q => { q with evq := rest })
    if portUp s c && !ringFull s c 2 q.eqHead q.eqTail then .next (s.eventEntry c x)
    else .next (s.eventLost c x)

/-! ## Host indices (R171) -/

/-- A host index learnt: of a ring's size or more it is ignored and reported. -/
def State.hostIndex (s : State) (c ring index : Nat) : State :=
  if ringSize s c ring ≤ index then (s.hcxErr c 2).raise .core Ev.RING_INDEX_INVALID c
  else s.modCtx c (fun q =>
    if ring = 0 then { q with sqTail := index }
    else if ring = 1 then { q with cqHead := index } else { q with eqHead := index })

/-- A NUDGE (R148, R171). -/
def State.ringNudge (s : State) (p ring index : Nat) : State :=
  s.onlyIf (ctxEnabled s p) (fun s => s.hostIndex p ring index)

/-- A doorbell word is asked for, where a tag is free (R144, R171). -/
def State.pollRing (s : State) (c ring : Nat) : State :=
  (s.issueMrd c (ringBase s c 3 + 0x40 * ring) 4 (.poll (vget s.ctx c).life ring)).2

/-- The rings that a poll asks about: that of submissions, and the others while they are found full. They are read in
ascending order of the three numbers, of equal ones in the order of the rings (R171; log entry 25). -/
def pollOrder (s : State) (c sub cq eq : Nat) : List Nat :=
  let q := vget s.ctx c
  let asks := (sub, 0) :: ((if ringFull s c 1 q.cqHead q.cqTail then [(cq, 1)] else []) ++
    (if ringFull s c 2 q.eqHead q.eqTail then [(eq, 2)] else []))
  (asks.mergeSort (fun a b => decide (a.1 ≤ b.1))).map (·.2)

/-- `DOORBELL_POLL`: the submission producer index is read, and the consumer indices for rings that are found full (R171).
The words come with their completions. -/
def execDoorbellPoll (c : Fin 4) (sub cq eq : Nat) (s : State) : Out :=
  .next (s.onlyIf (s.awake && ctxEnabled s c && portUp s c && s.rfld (hcx Reg.HCX_POLL c) 0 16 != 0) (fun s =>
    (pollOrder s c sub cq eq).foldl (fun (s : State) r => s.pollRing c r) s))

/-! ## Fetching (R172, R173) -/

/-- Frame-bound descriptors that are pending. -/
def pendingCount (s : State) (c : Nat) : Nat :=
  let q := vget s.ctx c
  q.pend.length + (q.fences.filter (fun f => f.mode != 0)).length + (q.tloads.filter (·.swap)).length +
    (s.pix.swaps.filter (fun r => r.ctx == some c)).length

/-- Fetching pauses (R173). -/
def fetchPaused (s : State) (c : Nat) : Bool :=
  let q := vget s.ctx c
  decide (64 ≤ pendingCount s c) || decide (16 ≤ q.ingests.length) || decide (192 ≤ q.cplq.length)

/-- How many descriptors one fetch takes: up to 16, not across the end of the ring or a 4 KiB boundary. -/
def fetchCount (s : State) (c : Nat) : Nat :=
  let q := vget s.ctx c
  let n := ringSize s c 0
  let avail := (q.sqTail + n - q.sqHead) % n
  min (min 16 avail) (min (n - q.sqHead) (64 - q.sqHead % 64))

/-- The read is a fetch of descriptors for an enabling of the context. -/
def ReadFor.fetches (u : ReadFor) (life : Nat) : Bool :=
  match u with
  | .fetch n _ _ => n == life
  | _ => false

/-- A fetch of the context is on its way. -/
def fetching (s : State) (c : Nat) : Bool := (vget s.port c).mrds.any (fun m => m.use.fetches (vget s.ctx c).life)

/-- `DESCRIPTOR_FETCH`: the descriptors from the consumer index on are asked for, at most `most` of them, one read at a time (R173). They come with
the completion of the read. -/
def execDescriptorFetch (c : Fin 4) (most : Nat) (s : State) : Out :=
  let q := vget s.ctx c
  let n := min most (fetchCount s c)
  .next (s.onlyIf (s.awake && ctxEnabled s c && portUp s c && n != 0 && !fetchPaused s c && !fetching s c) (fun s =>
    (s.issueMrd c (ringBase s c 0 + 64 * q.sqHead) (64 * n) (.fetch q.life q.sqHead n)).2))

/-- The sixteen words of descriptor `i` of those read. -/
def descWords (data : List Nat) (i : Nat) : List Nat :=
  (List.range 16).map (fun k => ofBytesLE ((data.drop (64 * i + 4 * k)).take 4))

/-- Descriptors arrive: the consumer index advances past them, and the host learns of it (R172, R173). -/
def State.takeDescs (s : State) (c head n : Nat) (data : List Nat) : State :=
  let got := (List.range n).map (fun i => ({ slot := head + i, w := descWords data i } : Desc))
  let next := (head + n) % ringSize s c 0
  let s := s.modCtx c (fun q => { q with sqHead := next, fetched := q.fetched ++ got })
  s.doorbell c 0 next 0 s.scn.frame

/-! ## Host reads of loads (R144, R204) -/

/-- Reads of one load issued as far as they may. -/
def State.issueParts (s : State) (p : Nat) (mk : Nat → ReadFor) :
    Nat → List (Nat × Nat) → Nat × List (Nat × Nat) × State
  | i, [] => (i, [], s)
  | i, (a, n) :: rest =>
    match s.issueMrd p a n (mk i) with
    | (true, s) => s.issueParts p mk (i + 1) rest
    | (false, s) => (i, (a, n) :: rest, s)

/-- Reads issued for a load, and its record of them. -/
def State.issueRead (s : State) (p : Nat) (mk : Nat → ReadFor) (r : HostRead) : HostRead × State :=
  let x := s.issueParts p mk r.issued r.todo
  ({ r with issued := x.1, todo := x.2.1 }, x.2.2)

/-- All parts of a load have arrived. -/
def HostRead.done (r : HostRead) : Bool := r.todo.isEmpty && r.parts.length == r.issued

/-- The bytes of a load in order. -/
def HostRead.bytes (r : HostRead) : List Nat := r.parts.flatMap (·.2)

/-- A part that arrives. -/
def HostRead.take (r : HostRead) (part : Nat) (data : List Nat) : HostRead :=
  { r with parts := kset r.parts part data }

/-- The load that a read belongs to. -/
def ReadFor.load : ReadFor → Option Nat
  | .surface serial _ => some serial
  | .table serial _ => some serial
  | .clipList serial _ => some serial
  | .poll _ _ => none
  | .fetch _ _ _ => none

/-- The tag of an MRD. -/
def TxPacket.mrdTag : TxPacket → Option Nat
  | .mrd tag _ _ => some tag
  | _ => none

/-- Reads that have not left the port yet are withdrawn: nothing more is read for them (R177, R195). -/
def State.dropReads (s : State) (p : Nat) (of' : ReadFor → Bool) : State :=
  s.modPort p (fun q =>
    let gone := fun (t : Nat) => q.txWait.any (fun k => k.mrdTag == some t) && q.mrds.any (fun m => m.tag == t && of' m.use)
    { q with
      txWait := q.txWait.filter (fun k => !(k.mrdTag.any gone))
      mrds := q.mrds.filter (fun m => !gone m.tag) })

/-- The reads of one load that have not left are withdrawn. -/
def State.dropLoad (s : State) (p serial : Nat) : State := s.dropReads p (fun u => u.load == some serial)

/-- Packets of a port that write to a host buffer and have not left are withdrawn (R184). -/
def State.dropWrites (s : State) (p addr n : Nat) : State :=
  s.modPort p (fun q => { q with txWait := q.txWait.filter (fun k => match k with
    | .mwr a _ => !(decide (addr ≤ a) && decide (a < addr + n))
    | _ => true) })

/-- The reads of a port are shared among its loads in ring order (R204). -/
def State.readPump (s : State) (p : Nat) : State :=
  let q := vget s.ctx p
  let s := q.ingests.foldl (fun (s : State) g =>
    if g.queued then s
    else
      let r := s.issueRead p (.surface g.serial) g.read
      r.2.modCtx p (fun q => { q with
        ingests := q.ingests.map (fun x => if x.serial = g.serial then { x with read := r.1 } else x) })) s
  let s := q.tloads.foldl (fun (s : State) g =>
    if g.queued then s
    else
      let r := s.issueRead p (.table g.serial) g.read
      r.2.modCtx p (fun q => { q with
        tloads := q.tloads.map (fun x => if x.serial = g.serial then { x with read := r.1 } else x) })) s
  q.clipReads.foldl (fun (s : State) g =>
    let r := s.issueRead p (.clipList g.serial) g.read
    r.2.modCtx p (fun q => { q with
      clipReads := q.clipReads.map (fun x => if x.serial = g.serial then { x with read := r.1 } else x) })) s

/-- Data of a read that has arrived whole. A table's bytes land in its inactive bank, once no copy into it runs (R183,
R277). -/
def State.readDone (s : State) (p : Nat) (use : ReadFor) (addr : Nat) (data : List Nat) : State :=
  match use with
  | .surface serial part => s.modCtx p (fun q => { q with
      ingests := q.ingests.map (fun x => if x.serial = serial then { x with read := x.read.take part data } else x) })
  | .clipList serial part => s.modCtx p (fun q => { q with
      clipReads := q.clipReads.map (fun x => if x.serial = serial then { x with read := x.read.take part data } else x) })
  | .table serial part =>
    match (vget s.ctx p).tloads.find? (fun x => x.serial == serial) with
    | none => s
    | some g =>
      let base := g.d.word 6 + g.d.word 7 * 2 ^ 32
      let at' := g.offset + (addr - base)
      let s := if g.queued then s else s.putTableBytes g.table at' data
      s.modCtx p (fun q => { q with
        tloads := q.tloads.map (fun x => if x.serial = serial then
          { x with read := x.read.take part data, kept := if x.queued then x.kept ++ [(at', data)] else x.kept } else x) })
  | .poll life ring =>
    s.onlyIf (ctxEnabled s p && (vget s.ctx p).life == life) (fun s => s.hostIndex p ring (ofBytesLE (data.take 4) % 65536))
  | .fetch life head n =>
    s.onlyIf (ctxEnabled s p && (vget s.ctx p).life == life) (fun s => s.takeDescs p head n data)

/-! ## Ingests (R204 to R206) -/

/-- A byte count that an MRD may have: the next multiple of 4 (R144). -/
def round4 (n : Nat) : Nat := 4 * divCeil n 4

/-- The host reads of a surface, plane by plane and row by row (R177, R204). A row is read up to the next multiple of 4 bytes
(R144). -/
def surfaceReads (d : Desc) : List (Nat × Nat) :=
  let f := d.bits 5 0 8
  let base := d.word 8 + d.word 9 * 2 ^ 32
  let off := fun (i : Nat) => if i = 0 then 0 else if i = 1 then d.word 11 else d.word 13
  let pitch := fun (i : Nat) => if i = 0 then d.word 10 else if i = 1 then d.word 12 else d.word 14
  let pl := planesOf f (d.bits 6 0 16) (d.bits 6 16 16)
  (pl.zip (List.range 3)).flatMap (fun x =>
    (List.range x.1.2).flatMap (fun r => readChunks (base + off x.2 + r * pitch x.2) (round4 x.1.1)))

/-- The row bytes of `rows` rows among bytes read up to multiples of 4, and the bytes after them. -/
def rowBytes (len : Nat) : Nat → List Nat → List Nat × List Nat
  | 0, l => ([], l)
  | r + 1, l =>
    let t := rowBytes len r (l.drop (round4 len))
    (l.take len ++ t.1, t.2)

/-- The row bytes of several planes. -/
def planeBytes : List (Nat × Nat) → List Nat → List Nat
  | [], _ => []
  | p :: ps, l =>
    let t := rowBytes p.1 p.2 l
    t.1 ++ planeBytes ps t.2

/-- The surface bytes of a load that has been read whole: the row bytes of every plane (R178). -/
def Ingest.bytes (g : Ingest) : List Nat :=
  planeBytes (planesOf (g.d.bits 5 0 8) (g.d.bits 6 0 16) (g.d.bits 6 16 16)) g.read.bytes

/-- A load that starts: admission, allocation, and its first reads (R204, R209). -/
def State.ingestStart (s : State) (c : Nat) (g : Ingest) : State :=
  match admission s c g.handle (pagesOf g.size) with
  | none =>
    let s := s.modCtx c (fun q => { q with ingests := q.ingests.filter (fun x => x.serial != g.serial) })
    let s := s.modCtx c (fun q => { q with
      pend := q.pend.map (fun p => if p.waits = some g.serial then { p with waits := none, failed := some stQuota } else p) })
    (s.complete c g.d stQuota).setC Reg.CUR_ERR 2
  | some plan =>
    let s := s.takeAll plan
    let r := s.takePool (pagesOf g.size)
    let s := r.2.modCtx c (fun q => { q with
      ingests := q.ingests.map (fun x => if x.serial = g.serial then { x with queued := false, pages := r.1 } else x) })
    s.readPump c

/-- The next load that waits for a handle starts (R206). `fuel` bounds the loads refused with QUOTA on the way. -/
def State.ingestNext (s : State) (c h : Nat) : Nat → State
  | 0 => s
  | fuel + 1 =>
    match (vget s.ctx c).ingests.find? (fun x => x.handle == h) with
    | none => s
    | some g => if g.queued then (s.ingestStart c g).ingestNext c h fuel else s

/-- A load that ends leaves the list, and the next of its handle starts. -/
def State.ingestEnd (s : State) (c : Nat) (g : Ingest) : State :=
  let s := s.modCtx c (fun q => { q with ingests := q.ingests.filter (fun x => x.serial != g.serial) })
  s.ingestNext c g.handle ((vget s.ctx c).ingests.length + 1)

/-- Layers that show a handle. -/
def State.modShowing (s : State) (c h : Nat) (f : LayerState → LayerState) : State :=
  (List.range 16).foldl (fun (s : State) n =>
    if layerShows s n == some (c, h) then s.modLayer n f else s) s

/-- A load that fails: its pages are freed, the handle keeps what it had, presents that wait for it and layers
that show the handle learn of it (R204, R250). -/
def State.ingestFail (s : State) (c : Nat) (g : Ingest) (status : Nat) : State :=
  let s := (s.givePool g.pages).dropLoad c g.serial
  let s := s.modCtx c (fun q => { q with
    pend := q.pend.map (fun p => if p.waits = some g.serial then { p with waits := none, failed := some status } else p) })
  let s := (s.complete c g.d status).modShowing c g.handle (fun x => { x with loadFailed := true })
  let s := if status = stCheckFail then s.raiseTo c .core Ev.CHECK_FAIL c g.handle else s.hcxErr c 3
  s.ingestEnd c g

/-- A load that ends well: the handle points to the new pages, the old ones go when the running composition ends
(R204, R205). -/
def State.ingestOk (s : State) (c : Nat) (g : Ingest) : State :=
  let old := findSurface s c g.handle
  let keep := old.any (·.seen)
  let x : Surface := { ctx := c, handle := g.handle, fmt := g.d.bits 5 0 8, width := g.d.bits 6 0 16,
                       height := g.d.bits 6 16 16, pages := g.pages, data := g.bytes, seen := keep,
                       shown := if keep then (old.map (·.shown)).getD 0 else s.scn.frame }
  let s : State := { s with cur := { s.cur with
    surfaces := s.cur.surfaces.filter (fun y => !(y.ctx == c && y.handle == g.handle)) ++ [x]
    oldPages := s.cur.oldPages ++ (match old with | none => [] | some o => [(c, o.pages)]) } }
  let s := if s.pix.composing.isNone then s.freeOld else s
  let s := s.modCtx c (fun q => { q with
    pend := q.pend.map (fun p => if p.waits = some g.serial then { p with waits := none } else p) })
  let s := (s.complete c g.d stOk).modShowing c g.handle (fun x => { x with loadFailed := false, changed := true })
  s.ingestEnd c g

/-- `INGEST_COMPLETE`: the last byte of a load is in DRAM; a check value is compared (R178, R204). -/
def execIngestComplete (c : Fin 4) (serial : Nat) (s : State) : Out :=
  match (vget s.ctx c).ingests.find? (fun g => g.serial == serial) with
  | none => .next s
  | some g =>
    if g.queued || !g.read.done then .next s
    else if g.d.bits 0 9 1 = 1 ∧ crc32c g.bytes ≠ g.d.word 3 then .next (s.ingestFail c g stCheckFail)
    else .next (s.ingestOk c g)

/-- A table load or a clip list whose read fails; one that was to swap its table has an effective frame (R190). -/
def State.loadFail (s : State) (c serial : Nat) (d : Desc) (frame : Nat := 0) (late : Bool := false) : State :=
  ((s.dropLoad c serial).complete c d stReadFail frame late).hcxErr c 3

/-- FRAME and LATE of a TABLE_LOAD: one with SWAP is frame-bound (R183, R190). -/
def TableLoad.bound (g : TableLoad) : Nat × Bool := if g.swap then (g.frame, g.late) else (0, false)

/-- A host read that fails (R145, R159, R204). A poll that fails keeps the last valid index, a fetch consumes nothing
(R173). -/
def State.readFailed (s : State) (p : Nat) (use : ReadFor) : State :=
  let q := vget s.ctx p
  match use with
  | .surface serial _ =>
    match q.ingests.find? (fun g => g.serial == serial) with
    | none => s
    | some g => s.ingestFail p g stReadFail
  | .clipList serial _ =>
    match q.clipReads.find? (fun g => g.serial == serial) with
    | none => s
    | some g => (s.modCtx p (fun q => { q with
        clipReads := q.clipReads.filter (fun x => x.serial != serial) })).loadFail p serial g.d
  | .table serial _ =>
    match q.tloads.find? (fun g => g.serial == serial) with
    | none => s
    | some g => (s.modCtx p (fun q => { q with
        tloads := q.tloads.filter (fun x => x.serial != serial) })).loadFail p serial g.d g.bound.1 g.bound.2
  | .poll _ _ => s
  | .fetch life _ _ => s.onlyIf (ctxEnabled s p && (vget s.ctx p).life == life) (fun s => s.hcxErr p 3)

/-- What a context loses when its port goes down: the loads in progress fail, results of queries that the host
has not acknowledged are due again (R160, R184, R196). -/
def State.ctxPortDown (s : State) (p : Nat) : State :=
  let q := vget s.ctx p
  let s := q.ingests.foldl (fun (s : State) g => if g.queued then s else s.readFailed p (.surface g.serial 0)) s
  let s := q.tloads.foldl (fun (s : State) g => if g.queued && g.read.issued == 0 then s else s.readFailed p (.table g.serial 0)) s
  let s := q.clipReads.foldl (fun (s : State) g => s.readFailed p (.clipList g.serial 0)) s
  s.modCtx p (fun q => { q with queries := q.queries.map (fun x => (x.1, none)) })

/-! ## Enabling and disabling (R165, R168, R195) -/

/-- Context `d` has a role, names `c` or is it, and is in no pair (R197). -/
def misnames (s : State) (d c : Nat) : Bool :=
  hcxRole s d != 0 && (pairOf s d).isNone && (d == c || hcxCtl s d 4 2 == c)

/-- A context is one of two whose roles and partners form no pair (R197). -/
def pairWrong (s : State) (c : Nat) : Bool := (pairOf s c).isNone && (List.range 4).any (fun d => misnames s d c)

/-- The role or the partner of a context differs from what it was. -/
def pairMoved (was s : State) (c : Nat) : Bool := hcxRole was c != hcxRole s c || hcxCtl was c 4 2 != hcxCtl s c 4 2

/-- Pairs are looked at again after the roles and partner of context `w` were written over those of `was`: a pair that
forms has its primary active; contexts that a wrong combination leaves independent read PAIR_BAD, and each new one is
reported for both (R197, R198; log entry 91). -/
def State.pairCheck (s : State) (was : State) (w : Nat) : State :=
  (List.range 4).foldl (fun (s : State) c =>
    let bad := pairWrong s c
    let again := pairMoved was s w && (c == w || misnames s w c)
    let had := (vget s.ctx c).pairBad
    let s := s.modCtx c (fun q =>
      if pairOf s c = none then
        { q with pairBad := bad, pairActive := hcxRole s c != 2, misses := 0, clean := 0, switchReq := false }
      else if pairOf was c = pairOf s c then { q with pairBad := false }
      else { q with pairBad := false, pairActive := hcxRole s c == 1, misses := 0, clean := 0, switchReq := false })
    s.onlyIf (bad && (!had || again)) (fun s => s.raise .core Ev.PAIR_INVALID c)) s

/-- A layer conflict is reported (R165). -/
def State.layerConflictSeen (s : State) (c : Nat) : State :=
  (s.modCtx c (fun q => { q with conflict := true })).raise .core Ev.LAYER_RIGHTS_CONFLICT c

/-- `HCX_CTL.EN` written 1 (R165, R168). Indices and phases start afresh. -/
def State.ctxEnable (s : State) (c : Nat) : State :=
  if ctxEnabled s c || (s.pwr.legacy && c != 0) then s
  else if !ringsValid s c then s.raise .core Ev.RING_CFG_INVALID c
  else if hcxRole s c != 2 && layerConflict s c (hcxLayers s c) then s.layerConflictSeen c
  else
    let s := (s.closeNow c).modCtx c (fun q => { q with
      sqTail := 0, sqHead := 0, cqHead := 0, cqTail := 0, eqHead := 0, eqTail := 0, cqPhase := true, eqPhase := true
      evq := [], evLost := 0, alive := none, life := q.life + 1 })
    ((s.setRfld (hcx Reg.HCX_CTL c) 0 1 1).requota none).raise .core Ev.CTX_ENABLED c

/-- `CONTEXT_ENABLE`. -/
def execContextEnable (c : Fin 4) (s : State) : Out := .next (s.ctxEnable c)

/-- Every descriptor that a context holds, with its effective frame and LATE, 0 for one that is not bound to a frame
(R190), in the order of its completions at a disable. -/
def heldDescs (s : State) (c : Nat) : List (Desc × Nat × Bool) :=
  let q := vget s.ctx c
  let free := fun (d : Desc) => (d, 0, false)
  q.pend.map (fun p => (p.d, p.frame, p.late)) ++
    q.fences.map (fun f => (f.d, if f.mode = 0 then 0 else f.frame, f.late)) ++
    q.ingests.map (fun g => free g.d) ++ q.tloads.map (fun g => (g.d, g.bound)) ++
    (s.pix.swaps.filter (fun r => r.ctx == some c)).map (fun r => (r.d, r.frame, r.late)) ++
    q.clipReads.map (fun g => free g.d) ++ q.queries.map (fun x => free x.1) ++ q.fetched.map free

/-- Descriptors that the deadlines have resolved complete with what they were resolved to, those for frame `f` or
earlier, in ring order (R189). -/
def State.resolvedDone (s : State) (c : Nat) (due : Pend → Bool) : State :=
  let l := (vget s.ctx c).pend
  let s := s.modCtx c (fun q => { q with pend := q.pend.filter (fun p => p.done.isNone || !due p) })
  l.foldl (fun (s : State) p =>
    match p.done with
    | none => s
    | some x => if due p then s.complete c p.d x.1 p.frame p.late x.2 else s) s

/-- What a context holds goes: its reads and the results of its queries that have not left are withdrawn, and the pages of
its loads freed (R195). -/
def State.ctxDrop (s : State) (c : Nat) : State :=
  let q := vget s.ctx c
  let pages := q.ingests.foldl (fun (f : PageSet) g => f.add g.pages) noPages
  let s := q.queries.foldl (fun (s : State) x => s.dropWrites c (x.1.word 6 + x.1.word 7 * 2 ^ 32) (x.1.word 8)) s
  let s := (s.dropReads c (fun _ => true)).modCtx c (fun q => { q with
    pend := [], fences := [], ingests := [], tloads := [], clipReads := [], queries := [], fetched := [], evq := [] })
  let s : State := { s with pix := { s.pix with swaps := s.pix.swaps.filter (fun r => r.ctx != some c) } }
  s.givePool pages

/-- `HCX_CTL.EN` written 0 (R195): everything that the context holds completes with ABORTED. The completions are written
while the port is UP; IDLE and `CTX_DISABLED` follow the last one (log entry 33). -/
def State.ctxDisable (s : State) (c : Nat) : State :=
  let s := s.modCtx c (fun q => { q with cfgIgn := false })
  if !ctxEnabled s c then s
  else
    let ds := heldDescs s c
    let s := ds.foldl (fun (s : State) x => s.complete c x.1 stAborted x.2.1 x.2.2) (s.ctxDrop c)
    let s := s.modCtx c (fun q => { q with closing := true })
    ((s.setRfld (hcx Reg.HCX_CTL c) 0 1 0).requota none).closeDone c

/-- `CONTEXT_DISABLE`. -/
def execContextDisable (c : Fin 4) (s : State) : Out := .next (s.ctxDisable c)

/-- The ROLE that a word written stores: 3 is stored as 0, and legacy mode has no roles (R200). -/
def storedRole (s : State) (data : Word) : Nat := if s.pwr.legacy ∨ fld data 2 2 = 3 then 0 else fld data 2 2

/-- A write of `HCX_CTL`: roles and ALIVE_EN, then EN (R164, R195, R197, R200). -/
def State.hcxCtlWrite (s : State) (c : Nat) (data : Word) : State :=
  let a := hcx Reg.HCX_CTL c
  let was := s
  let s := s.setReg a (mkWord [(6, fld data 6 1), (4, fld data 4 2), (2, storedRole s data), (0, fld (s.reg a) 0 1)])
  let s := s.pairCheck was c
  if fld data 0 1 = 1 then s.ctxEnable c else s.ctxDisable c

/-- Some enabled context holds a layer. -/
def granted (s : State) (n : Nat) : Bool :=
  (List.range 4).any (fun c => ctxEnabled s c && hasBit (layerRights s c) n)

/-- A write of `HCX_LAYERS` (R165). A layer whose right in force is withdrawn while it is held is held no longer (R254). -/
def State.layersWrite (s : State) (c : Nat) (data : Word) : State :=
  let mask := fld data 0 16
  if ctxEnabled s c && hcxRole s c != 2 && layerConflict s c mask then s.layerConflictSeen c
  else
    let was := s
    let s := (s.setReg (hcx Reg.HCX_LAYERS c) (BitVec.ofNat 32 mask)).modCtx c (fun q => { q with conflict := false })
    (List.range 16).foldl (fun (s : State) n =>
      if granted was n && !granted s n then
        s.modLayer n (fun x => { x with held := none, hold := 0, loadFailed := false, await := none,
                                        changed := x.changed || x.held == some 0 || x.held == some 1 })
      else s) s

/-- `LAYER_RIGHTS_WRITE`. -/
def execLayerRightsWrite (c : Fin 4) (data : Word) (s : State) : Out := .next (s.layersWrite c data)

/-- What `HCX_QUOTA` holds of a word written. -/
def quotaStored (data : Word) : Word := mkWord [(16, fld data 16 16), (0, min 3840 (fld data 0 16))]

/-- A write of `HCX_QUOTA` (R210, R211). -/
def State.quotaWrite (s : State) (c : Nat) (data : Word) : State :=
  (s.setReg (hcx Reg.HCX_QUOTA c) (quotaStored data)).requota none

/-- `HCX_QUOTA_WRITE`. -/
def execHcxQuotaWrite (c : Fin 4) (data : Word) (s : State) : Out := .next (s.quotaWrite c data)

/-- `FAILOVER_SWITCH_CMD`: `HCX_FO_CMD.SWITCH` (R199). -/
def execFailoverSwitchCmd (c : Fin 4) (s : State) : Out :=
  .next (s.onlyIf (pairOf s c).isSome (fun s => s.modCtx c (fun q => { q with switchReq := true })))

/-- A write of `HCX_FO_CMD`. -/
def State.foCmdWrite (s : State) (c : Nat) (data : Word) : State :=
  s.onlyIf (acts data 0 && (pairOf s c).isSome) (fun s => s.modCtx c (fun q => { q with switchReq := true }))

/-- A write of a base or of `HCX_RING_SIZE`: ignored while the context is enabled. -/
def State.ringCfgWrite (s : State) (c addr : Nat) (w : Word) : State :=
  if ctxEnabled s c then s.modCtx c (fun q => { q with cfgIgn := true }) else s.setReg addr w

/-- What other HCX registers hold of a word written. -/
def hcxStored (off : Nat) (w : Word) : Word :=
  if off = 0x38 then mkWord [(16, min 4 (fld w 16 3)), (0, fld w 0 16)]
  else if off = 0x3C then mkWord [(8, fld w 8 2), (0, max 1 (fld w 0 4))]
  else w

/-- Nothing is in flight in a context. -/
def ctxIdle (s : State) (c : Nat) : Bool := (heldDescs s c).isEmpty && (vget s.ctx c).cplq.isEmpty

/-- The HCX registers that show state; `off` within the instance. -/
def viewHcx (s : State) (c off : Nat) : Option Word :=
  let q := vget s.ctx c
  if off = 0x00 then
    some (if s.pwr.legacy then s.reg (hcx Reg.HCX_CTL c) &&& 0xFFFFFFF3 else s.reg (hcx Reg.HCX_CTL c))
  else if off = 0x04 then
    some (mkWord [(16, q.cplq.length), (8, min 255 (pendingCount s c)), (4, b2n q.conflict), (3, b2n q.cfgIgn),
                  (2, b2n q.pairBad), (1, b2n (ctxEnabled s c && ctxActive s c)), (0, b2n (ctxIdle s c))])
  else if off = 0x40 then some 0
  else if off = 0x44 then some (mkWord [(16, q.sqTail), (0, q.sqHead)])
  else if off = 0x48 then some (mkWord [(16, q.eqTail), (0, q.cqTail)])
  else none

end Sys2Proof.Machine
end

