-- ==== Sys2Proof/Machine/PortDown.lean ====
section
/-! DEFINITION. A port that goes down or enters IDLE_WAIT (R124, R127, R160). -/

namespace Sys2Proof.Machine

/-- A lane as a new bring-up finds it: what counts since reset, the transmit set, the scrambler, which never resets during
operation, and the training generator stay (R119, R124, R125). -/
def LaneState.restart (l : LaneState) : LaneState :=
  { txeq := l.txeq, txeqNext := l.txeqNext, txeqRej := l.txeqRej, bip := l.bip, hmargin := l.hmargin,
    vmargin := l.vmargin, scans := l.scans, retrainTimes := l.retrainTimes, txS := l.txS, txPrbs := l.txPrbs,
    blockErr := l.blockErr }

/-- A reply is due to a port. -/
def Posted.forPort (w : Posted) (p : Nat) : Bool := w.reply.any (fun r => r.port == p)

/-- A write that still executes without being answered (R160). -/
def Posted.mute (w : Posted) (p : Nat) : Posted := if w.forPort p then { w with reply := none } else w

/-- The accesses that a port has made go unanswered (R160). -/
def AccessState.mute (a : AccessState) (p : Nat) : AccessState :=
  { a with scanQ := a.scanQ.map (·.mute p), memQ := a.memQ.map (·.mute p), afeQ := a.afeQ.map (·.mute p),
           hblQ := a.hblQ.map (·.mute p), sfaQ := a.sfaQ.map (·.mute p),
           held := a.held.map (fun h => (h.1, h.2.mute p)),
           rrds := a.rrds.map (fun r => if r.2.port = p then (r.1, { r.2 with mute := true }) else r) }

/-- A port enters a state in which nothing of its bring-up or its traffic is left (R124, R160). -/
def PortState.enter (q : PortState) (st : PortSt) : PortState :=
  { q.fresh with
    st := st, down := q.down || decide (q.st = .up), active := 0, version := 0, swap := false, lane := q.lane.map LaneState.restart
    restarts := if st = .idleWait then satAdd 8 q.restarts 1 else q.restarts
    puLast := none, puCount := 0, ackSent := none, ackGot := none, restoring := false, restoreSent := false
    restoreGot := false, rejoin := none, farRetrain := none, txQ := [], txPos := 0, rxMask := 0, rxTurn := 0
    rxJoin := none, skewed := false, rxMsgs := [] }

/-- A port goes to another state, down if it was UP: its replay buffer, credits and sequence numbers go, its
reads fail, and `PORT_DOWN` is raised (R127, R160). -/
def State.portDown (s : State) (p : Nat) (st : PortSt) : State :=
  let q := vget s.port p
  let s := s.modPort p (fun q => q.enter st)
  let s : State := { s with
    acc := s.acc.mute p
    cal := { s.cal with passes := s.cal.passes.filter (fun x => x.1 / 2 != p) } }
  if q.st = .up then
    let s := (s.setC (yzlReg Reg.YZL_LANE_ERR p) 0x10000).raise .refl Ev.PORT_DOWN p (portData p 0)
    s.ctxPortDown p
  else s

/-- A port that is not DISABLED goes to IDLE_WAIT, one in TEST too (R72, R62, R127). -/
def State.portIdle (s : State) (p : Nat) : State :=
  let st := (vget s.port p).st
  if st = .disabled ∨ st = .idleWait then s else s.portDown p .idleWait

end Sys2Proof.Machine
end

