-- ==== Sys2Proof/Machine/Lanes.lean ====
section
/-! DEFINITION. Yuzar Link lanes and bring-up (R112 to R138). -/

namespace Sys2Proof.Machine

/-! ## Small views -/

/-- A port, a lane. -/
def laneOf (s : State) (p l : Nat) : LaneState := vget (vget s.port p).lane l

/-- `YZL_PORT_CTL` of a port. -/
def portCtl (s : State) (p : Nat) : Word := s.reg (yzlReg Reg.YZL_PORT_CTL p)

/-- REFCLK and VDDA_L let the lanes run (R62, R72). -/
def lanesPowered (s : State) : Bool := !s.pwr.refLost && s.pwr.vddaOk

/-- The port may leave DISABLED: EN and a lane allowed (R124). -/
def portAllowed (s : State) (p : Nat) : Bool := bitOf (portCtl s p) 0 && (vget s.port p).lanes != 0

/-- A receive lane is ready (R125). Of two AM-locked lanes that cannot be deskewed lane 0 is (R121; log entry 86). -/
def laneReady (s : State) (p l : Nat) : Bool :=
  let x := laneOf s p l
  x.signal && x.cdr && x.block && x.adapt && x.calOk && x.amLock &&
    (x.deskew || !(laneOf s p (1 - l)).amLock || ((vget s.port p).skewed && l == 0))

/-- The mask of ready receive lanes. -/
def readyMask (s : State) (p : Nat) : Nat := b2n (laneReady s p 0) + 2 * b2n (laneReady s p 1)

/-- The lane is active and its port UP. -/
def laneActive (s : State) (p l : Nat) : Bool :=
  decide ((vget s.port p).st = .up) && hasBit (vget s.port p).active l

/-- A bit of a lane in `YZL_LANE_ERR` (0 signal, 1 block lock, 2 AM lock, 3 BIP limit, 4 margin). -/
def State.laneErr (s : State) (p l bit : Nat) : State := s.setC (yzlReg Reg.YZL_LANE_ERR p) (2 ^ (8 * l + bit))

/-! ## Port states (R124) -/

/-- EN of P[1] to P[3] is fixed at 0 in legacy mode, and they stay DISABLED (R137). -/
def portFixed (s : State) (p : Nat) : Bool := s.pwr.legacy && decide (p ≠ 0)

/-- `YZL_TEST.MODE` asks for TEST (R124, R136). -/
def testAsked (s : State) (p : Nat) : Bool := s.rfld (yzlReg Reg.YZL_TEST p) 0 2 != 0 && !portFixed s p

/-- The port enters TRAIN, or TEST while `YZL_TEST.MODE` is not 0, or waits in IDLE_WAIT for REFCLK or VDDA_L (R127, R136;
log entry 77). -/
def State.portTrain (s : State) (p : Nat) : State :=
  s.modPort p (fun q => q.enter (if !lanesPowered s then .idleWait else if testAsked s p then .test else .train))

/-- A port that may leave DISABLED does, once CORE runs (R70, R124). -/
def State.portStart (s : State) (p : Nat) : State :=
  s.onlyIf (s.awake && decide ((vget s.port p).st = .disabled) && portAllowed s p) (fun s => s.portTrain p)

/-- A write of EN = 1: a port in DISABLED starts where a lane is allowed; EN of P[1] to P[3] is fixed in legacy
mode (R124, R137). -/
def State.portEnable (s : State) (p : Nat) : State :=
  if portFixed s p then s else (s.setRfld (yzlReg Reg.YZL_PORT_CTL p) 0 1 1).portStart p

/-- `PORT_ENABLE`. -/
def execPortEnable (p : Fin 4) (s : State) : Out := .next (s.onlyIf s.awake (fun s => s.portEnable p))

/-- A write of EN = 0: the port goes down to DISABLED (R127). -/
def State.portDisable (s : State) (p : Nat) : State :=
  let s := s.setRfld (yzlReg Reg.YZL_PORT_CTL p) 0 1 0
  s.onlyIf (decide ((vget s.port p).st ≠ .disabled)) (fun s => s.portDown p .disabled)

/-- `PORT_DISABLE`. -/
def execPortDisable (p : Fin 4) (s : State) : Out := .next (s.onlyIf s.awake (fun s => s.portDisable p))

/-- EXCHANGE begins: no PORT_UP has been received (R126). -/
def State.portExchange (s : State) (p : Nat) : State :=
  s.modPort p (fun q => { q with st := .exchange, puLast := none, puCount := 0, ackSent := none, ackGot := none })

/-- A port in TRAIN whose allowed lanes are all ready moves to EXCHANGE (R124). -/
def State.trainDone (s : State) (p : Nat) : State :=
  let q := vget s.port p
  s.onlyIf (decide (q.st = .train) && q.lanes != 0 && readyMask s p &&& q.lanes == q.lanes)
    (fun s => s.portExchange p)

/-- `TRAIN_TO_EXCHANGE`: 18 ms in TRAIN (R124). -/
def execTrainToExchange (p : Fin 4) (s : State) : Out :=
  let q := vget s.port p
  .next (s.onlyIf (decide (q.st = .train) && readyMask s p &&& q.lanes != 0) (fun s => s.portExchange p))

/-- `BRINGUP_TIMEOUT`: 20 ms without UP (R124). -/
def execBringupTimeout (p : Fin 4) (s : State) : Out :=
  let q := vget s.port p
  .next (s.onlyIf (decide (q.st = .train) || decide (q.st = .exchange)) (fun s =>
    ((s.setC (yzlReg Reg.YZL_LANE_ERR p) 0x20000).raise .refl Ev.BRINGUP_TIMEOUT p (portData p 0)).portDown p
      .idleWait))

/-- `IDLE_WAIT_END`: back to TRAIN, unless REFCLK or VDDA_L is missing (R124, R127). -/
def execIdleWaitEnd (p : Fin 4) (s : State) : Out :=
  .next (s.onlyIf (decide ((vget s.port p).st = .idleWait)) (fun s =>
    if !portAllowed s p then s.modPort p (fun q => q.enter .disabled)
    else s.onlyIf (lanesPowered s) (fun s => s.portTrain p)))

/-- A request to restart the port (R127). -/
def State.portRestart (s : State) (p : Nat) : State := s.portIdle p

/-- `PORT_RESTART`. -/
def execPortRestart (p : Fin 4) (s : State) : Out := .next (s.onlyIf s.awake (fun s => s.portRestart p))

/-! ## The port-up exchange (R126) -/

/-- The highest version that the device offers (R126, R137). -/
def ownVersion (s : State) : Nat := if s.pwr.legacy then 1 else 2

/-- `PORT_UP_SEND`: ready mask, version and rate (R123, R126). -/
def execPortUpSend (p : Fin 4) (s : State) : Out :=
  let q := vget s.port p
  .next (s.onlyIf (decide (q.st = .exchange)) (fun s =>
    s.msgSend p 1 (readyMask s p + ownVersion s * 2 ^ 8 + b2n q.rate * 2 ^ 12)))

/-- The exchange returns to its first step. -/
def State.exchangeAgain (s : State) (p : Nat) : State :=
  s.modPort p (fun q => { q with puLast := none, puCount := 0, ackSent := none, ackGot := none })

/-- The port is UP on a lane set (R126, R151). -/
def State.portComesUp (s : State) (p set version : Nat) : State :=
  let s := s.modPort p (fun q => { q.fresh with
    st := .up, down := false, active := set, version := version, rejoin := none, rxMask := set, rxJoin := none })
  let s := (s.sendCredits p).readPump p
  let s := s.raise .refl Ev.PORT_UP p (portData p 0)
  if set = 3 then s else s.raise .refl Ev.LANE_DEGRADED p (portData p (if set = 1 then 1 else 0))

/-- Both acknowledgements are there: equal ones bring the port UP, others start the exchange again. -/
def State.ackMeet (s : State) (p : Nat) : State :=
  match (vget s.port p).ackSent, (vget s.port p).ackGot with
  | some a, some b => if a = b then s.portComesUp p a.1 a.2 else s.exchangeAgain p
  | _, _ => s

/-- Three identical PORT_UPs have been received: the set is computed and acknowledged (R126). -/
def State.portChoose (s : State) (p mask version : Nat) : State :=
  let set := readyMask s p &&& mask &&& (vget s.port p).lanes
  let v := min version (ownVersion s)
  if set = 0 then s.portDown p .idleWait
  else
    let s := s.modPort p (fun q => { q with ackSent := some (set, v) })
    (s.msgSend p 2 (set + v * 2 ^ 8)).ackMeet p

/-- A PORT_UP is received (R126). -/
def State.onPortUp (s : State) (p mask version : Nat) (rate : Bool) : State :=
  let q := vget s.port p
  if q.st = .exchange then
    if rate ≠ q.rate then s.portDown p .idleWait
    else
      let n := if q.puLast = some (mask, version, rate) then q.puCount + 1 else 1
      let s := s.modPort p (fun q => { q with puLast := some (mask, version, rate), puCount := n })
      s.onlyIf (decide (3 ≤ n) && q.ackSent.isNone) (fun s => s.portChoose p mask version)
  else s

/-- A PORT_UP_ACK is received (R126). -/
def State.onPortUpAck (s : State) (p mask version : Nat) : State :=
  s.onlyIf (decide ((vget s.port p).st = .exchange)) (fun s =>
    (s.modPort p (fun q => { q with ackGot := some (mask, version) })).ackMeet p)

/-! ## Retrains and failing lanes (R132 to R135) -/

/-- The received stream follows the lanes that carry it; what other lanes still hold is dropped (R122, R132). -/
def State.rxFollow (s : State) (p : Nat) : State :=
  s.modPort p (fun q =>
    let m := q.carry
    let clean := fun (l : Nat) (q : PortState) => if hasBit m l then q else q.modLane l (fun x => { x with rxFifo := [] })
    { clean 0 (clean 1 q) with rxMask := m })

/-- A lane rejoins striping after the next marker in each direction (R133, R134). -/
def State.rejoinAfter (s : State) (p l : Nat) (restore : Bool) : State :=
  s.modPort p (fun q => { q with rejoin := some (l, restore), rxJoin := some l })

/-- A lane leaves use in both directions: it trains, and what it was doing ends (R132). -/
def State.dropLane (s : State) (p l : Nat) : State :=
  let s := s.modPort p (fun q => { q with
    active := clearBit q.active l, restoring := false, restoreSent := false, restoreGot := false
    rejoin := if q.rejoin.any (fun r => r.1 == l) then none else q.rejoin
    rxJoin := if q.rxJoin == some l then none else q.rxJoin
    farRetrain := if q.farRetrain.any (fun r => r.1 == l) then none else q.farRetrain })
  let s := s.modLane p l (fun x => { x with retrain := .none })
  (s.rxFollow p).raise .refl Ev.LANE_DEGRADED p (portData p l)

/-- Lane `l` carries no traffic because it retrains in full. -/
def inFullRetrain (s : State) (p l : Nat) : Bool := (vget s.port p).retrains l

/-- An active lane of a two-lane port goes: the port drops it and goes on with the other. A full retrain of the other is
abandoned: that lane rejoins at once with its values if it holds its locks, else the port goes down. `say` has LANE_DROP
sent (R132, R135; log entry 23). -/
def State.loseLane (s : State) (p l : Nat) (say : Bool) : State :=
  let other := 1 - l
  let drop := fun (s : State) => (s.onlyIf say (fun s => s.linkMsg p 3 l 0)).dropLane p l
  if inFullRetrain s p other then
    let x := laneOf s p other
    if x.block && x.amLock then
      let s := s.modLane p other (fun x => { x with retrain := .none, adapt := true })
      drop (s.modPort p (fun q => { q with farRetrain := none, rejoin := none, rxJoin := none }))
    else s.portDown p .idleWait
  else drop s

/-- An active lane fails (R132, R135). -/
def State.laneFail (s : State) (p l : Nat) : State :=
  if !laneActive s p l then s
  else if (vget s.port p).active ≠ 3 then s.portDown p .idleWait
  else s.loseLane p l true

/-- A retrain of an active lane begins: in full on two lanes, in bursts on one. The third within 60 s fails the
lane (R132, R134). -/
def State.retrainStart (s : State) (p l : Nat) : State :=
  let recent := (laneOf s p l).retrainTimes.filter (fun t => decide (s.opsec ≤ t + 60))
  if 2 ≤ recent.length then (s.modLane p l (fun x => { x with retrain := .none })).laneFail p l
  else
    let full := (vget s.port p).active == 3
    let s := s.modLane p l (fun x =>
      if full then { x with retrain := .full, ctle := 8, dfe := [0, 0, 0, 0, 0], adapt := false,
                            retrainTimes := recent ++ [s.opsec] }
      else { x with retrain := .burst, retrainTimes := recent ++ [s.opsec] })
    ((s.rxFollow p).linkMsg p 5 l (if full then 0 else 1)).raise .refl Ev.LANE_RETRAIN p (portData p l)

/-- A lane that waited for the retrain of the other begins its own (R135). -/
def State.retrainNext (s : State) (p : Nat) : State :=
  match [0, 1].find? (fun l => decide ((laneOf s p l).retrain = .waiting)) with
  | none => s
  | some l => s.onlyIf (laneActive s p l && !inFullRetrain s p (1 - l)) (fun s => s.retrainStart p l)

/-- An active lane fails, and a retrain that waited for it begins (R132, R135). -/
def State.laneGone (s : State) (p l : Nat) : State := (s.laneFail p l).retrainNext p

/-- LANE_DROP is received (R132, R135). A retrain that waited for the lane begins. -/
def State.onLaneDrop (s : State) (p l : Nat) : State :=
  if (vget s.port p).st ≠ .up then s
  else if laneActive s p l then
    s.onlyIf ((vget s.port p).active == 3) (fun s => (s.loseLane p l false).retrainNext p)
  else s.onlyIf (vget s.port p).restoring (fun s => s.modPort p (fun q => { q with
      restoring := false, restoreSent := false, restoreGot := false, rejoin := none, rxJoin := none }))

/-- The lane that a degraded port misses. -/
def missingLane (s : State) (p : Nat) : Option Nat :=
  let q := vget s.port p
  if q.st = .up then (if q.active = 1 then some 1 else if q.active = 2 then some 0 else none) else none

/-- `LANE_RESTORE_ATTEMPT`: every RESTORE_INT the missing lane trains, where LANES allows it (R133; log entry 23). -/
def execLaneRestoreAttempt (p : Fin 4) (s : State) : Out :=
  match missingLane s p with
  | none => .next s
  | some l =>
    .next (s.onlyIf (hasBit (vget s.port p).lanes l && !(vget s.port p).restoring &&
        s.rfld (yzlReg Reg.YZL_FAIL_CTL p) 16 8 != 0) (fun s =>
      let s := s.modLane p l LaneState.restart
      s.modPort p (fun q => { q with restoring := true, restoreSent := false })))

/-- LANE_RESTORE has gone in both directions: the lane rejoins after the next AM (R133). -/
def State.restoreMeet (s : State) (p l : Nat) : State :=
  s.onlyIf ((vget s.port p).restoreSent && (vget s.port p).restoreGot) (fun s => s.rejoinAfter p l true)

/-- A restoring lane that has become ready sends LANE_RESTORE (R133). -/
def State.restoreReady (s : State) (p : Nat) : State :=
  match missingLane s p with
  | none => s
  | some l =>
    s.onlyIf ((vget s.port p).restoring && !(vget s.port p).restoreSent && laneReady s p l) (fun s =>
      let s := s.modPort p (fun q => { q with restoreSent := true })
      (s.linkMsg p 4 l 0).restoreMeet p l)

/-- LANE_RESTORE is received: the far end is ready to restore a lane (R133). -/
def State.onLaneRestore (s : State) (p l : Nat) : State :=
  s.onlyIf (missingLane s p == some l) (fun s =>
    (s.modPort p (fun q => { q with restoreGot := true })).restoreMeet p l)

/-- `LANE_RESTORE_ABANDON`: 20 ms without completing (R133). -/
def execLaneRestoreAbandon (p : Fin 4) (s : State) : Out :=
  .next (s.onlyIf (decide ((vget s.port p).rejoin = none)) (fun s =>
    s.modPort p (fun q => { q with restoring := false, restoreSent := false, restoreGot := false })))

/-- A change in a receive lane may complete TRAIN or a restore (R124, R125, R133). -/
def State.laneProgress (s : State) (p : Nat) : State := (s.trainDone p).restoreReady p

/-! ## Receive lanes (R125) -/

/-- `SIGNAL_DETECT`. -/
def execSignalDetect (p : Fin 4) (l : Fin 2) (s : State) : Out :=
  .next ((s.modLane p l (fun x => { x with signal := true })).laneProgress p)

/-- `CDR_LOCK`: after signal, with the CTLE at its mid code. -/
def execCdrLock (p : Fin 4) (l : Fin 2) (s : State) : Out :=
  .next (s.onlyIf (laneOf s p l).signal (fun s =>
    (s.modLane p l (fun x => { x with cdr := true, ctle := 8 })).laneProgress p))

/-- `BLOCK_LOCK`: the last 64 of the sync headers that have come are valid. Adaptation and AM lock begin. -/
def execBlockLock (p : Fin 4) (x : LaneHeaders) (s : State) : Out :=
  let l := x.lane
  let last := x.headers.drop (x.headers.length - 64)
  .next (s.onlyIf ((laneOf s p l).signal && (laneOf s p l).cdr && last.length == 64 && last.all (fun h => h.1 != h.2))
    (fun s => (s.modLane p l (fun x => { x with
      block := true, amOnce := false, amMiss := 0, hdrWin := [], rxSince := 0, rxBip := 0, adaptUse := 0 })).laneProgress p))

/-- The lane has lost block lock (R125, R132). -/
def State.blockLost (s : State) (p l : Nat) : State :=
  s.onlyIf (laneActive s p l) (fun s => (s.laneErr p l 1).laneGone p l)

/-- `LANE_SIGNAL_LOSS`: signal lost for 10 µs (R132). -/
def execLaneSignalLoss (p : Fin 4) (l : Fin 2) (s : State) : Out :=
  let active := laneActive s p l
  let s := s.modLane p l (fun x => { x.unlock with signal := false, cdr := false })
  .next (s.onlyIf active (fun s => (s.laneErr p l 0).laneGone p l))

/-- `LANE_FOREGROUND_CAL_DONE`: one result per trim, each converged or not (R499). -/
def execLaneForegroundCalDone (p : Fin 4) (l : Fin 2) (trims : List (Option Int)) (s : State) : Out :=
  if trims.length ≠ 9 then .fault (.illFormed "LANE_FOREGROUND_CAL_DONE")
  else .next (s.onlyIf (laneOf s p l).block (fun s =>
    ((s.calForeground (2 * p.val + l.val) trims).modLane p l (fun x => { x with calOk := true })).laneProgress p))

/-- The lane is frozen, by silence or by `YZL_PORT_CTL.FREEZE` (R131). -/
def laneFrozen (s : State) (p l : Nat) : Bool := (laneOf s p l).frozen || bitOf (portCtl s p) 5

/-- CTLE and DFE of a lane in traffic stand still (R131). -/
def heldStill (s : State) (p l : Nat) : Bool := laneActive s p l && !inFullRetrain s p l && laneFrozen s p l

/-- `ADAPTATION_DONE`: CTLE and DFE have converged on blocks that pass R130 (R125, R129). In traffic a frozen lane keeps
its values (R131). -/
def execAdaptationDone (p : Fin 4) (l : Fin 2) (ctle : Nat) (taps : List Int) (s : State) : Out :=
  if 16 ≤ ctle ∨ taps.length ≠ 5 ∨ taps.any (fun t => decide (t < -32) || decide (31 < t)) then
    .fault (.illFormed "ADAPTATION_DONE")
  else .next (s.onlyIf ((laneOf s p l).block && (laneOf s p l).calOk && (laneOf s p l).adaptUse != 0 &&
      !heldStill s p l) (fun s =>
    (s.modLane p l (fun x => { x with adapt := true, ctle := ctle, dfe := taps })).laneProgress p))

/-- The lane loses AM lock (R125, R132). -/
def State.amLost (s : State) (p l : Nat) : State :=
  let active := laneActive s p l && (laneOf s p l).amLock
  let s := s.modLane p l (fun x => { x with amLock := false, amOnce := false, deskew := false, amMiss := 0 })
  s.onlyIf active (fun s => (s.laneErr p l 2).laneGone p l)

/-- A marker was missing or corrupt at its place; the third in a row loses AM lock (R125). -/
def State.amBad (s : State) (p l : Nat) : State :=
  s.onlyIf (decide (3 ≤ (laneOf s p l).amMiss) && (laneOf s p l).amLock) (fun s => s.amLost p l)

/-- The BIP8 errors of a period counted; too many within 16 periods fail an active lane (R120, R132). -/
def State.bipCheck (s : State) (p l errors : Nat) : State :=
  let s := s.modLane p l (fun x => { x with
    bip := satAdd 32 x.bip errors, bipWin := (errors :: x.bipWin).take 16 })
  s.onlyIf (laneActive s p l &&
      decide (s.rfld (yzlReg Reg.YZL_FAIL_CTL p) 0 16 < lsum (laneOf s p l).bipWin)) (fun s =>
    ((s.modLane p l (fun x => { x with bipWin := [] })).laneErr p l 3).laneGone p l)

/-- A good marker has come on a lane (R120, R121, R125, R500). -/
def State.amGood (s : State) (p l errors : Nat) : State :=
  ((s.calLaneMarker (2 * p + l)).bipCheck p l errors).laneProgress p

/-! ## Transmit side (R116, R120) -/

/-- A lane that was to rejoin striping after this marker does so (R133, R134). -/
def State.rejoinNow (s : State) (p : Nat) : State :=
  match (vget s.port p).rejoin with
  | none => s
  | some (l, restore) =>
    let s := s.modPort p (fun q => { q with
      active := setBit q.active l, rejoin := none, txPos := 0, restoring := q.restoring && !restore
      restoreSent := q.restoreSent && !restore, restoreGot := q.restoreGot && !restore })
    if restore then s.raise .refl Ev.LANE_RESTORED p (portData p l) else s

/-- A lane is filled up to its marker, with IDLE where it carries the stream and with training where it does not, and
sends the marker (R120, R124, R132). -/
def PortState.txMarker (q : PortState) (p l : Nat) : PortState × List (Nat × Block) :=
  let r := LaneState.sendFill (!q.carries l) (16383 - (vget q.lane l).txCount) (vget q.lane l)
  let m := r.2.sendMarker p l q.amTx
  (q.modLane l (fun _ => m.2), (r.1 ++ [m.1]).map (fun b => (l, b)))

/-- `AM_TRANSMIT`: both lanes send a marker; a staged coefficient set takes effect, a lane that was to rejoin does, and
what waited for the marker follows it (R116, R120, R133). -/
def execAmTransmit (p : Fin 4) (s : State) : Out :=
  .next (s.onlyIf (transmits s p) (fun s =>
    let n := (vget s.port p).amTx
    let a := (vget s.port p).txMarker p 0
    let b := a.1.txMarker p 1
    let s := s.modPort p (fun _ => { b.1 with amTx := wrapAdd 8 n 1, txPos := 0 })
    let s := (s.emits [.amk p 0 n, .amk p 1 n]).emits (blocksOut p (a.2 ++ b.2))
    let apply := fun (x : LaneState) => { x with txeq := x.txeqNext.getD x.txeq, txeqNext := none }
    let s := (s.modLane p 0 apply).modLane p 1 apply
    (s.rejoinNow p).txSend p []))

/-- The coefficient set is valid (R115). -/
def txeqValid (w : Word) : Bool :=
  let pre := fld w 0 5
  let main := fld w 8 7
  let post := fld w 16 5
  decide (pre ≤ 16) && decide (post ≤ 24) && decide (24 ≤ main) && decide (main ≤ 64) &&
    decide (pre + main + post ≤ 64) && decide (pre + post + 16 ≤ main)

/-- A write of `YZL_TXEQ0` or `YZL_TXEQ1`; one that is rejected keeps SWING too (R116; log entry 23). -/
def State.txeqWrite (s : State) (p l : Nat) (data : Word) : State :=
  let a := yzlReg (Reg.YZL_TXEQ0 + 4 * (l % 2)) p
  if txeqValid data then
    let w := data &&& 0x31F7F1F
    (s.setReg a w).modLane p l (fun x => { x with txeqNext := some w, txeqRej := false })
  else
    let s := s.modLane p l (fun x => { x with txeqRej := true })
    (s.setC (yzlReg Reg.YZL_LANE_ERR p) 0x40000).raise .refl Ev.TXEQ_REJECTED p (portData p l)

/-- `TXEQ_WRITE`. -/
def execTxeqWrite (p : Fin 4) (l : Fin 2) (data : Word) (s : State) : Out :=
  .next (s.onlyIf s.awake (fun s => s.txeqWrite p l data))

/-! ## Adaptation during traffic (R131) -/

/-- `ADAPT_FREEZE`: 1 ms without a data block. -/
def execAdaptFreeze (p : Fin 4) (l : Fin 2) (s : State) : Out :=
  .next (s.onlyIf (laneActive s p l) (fun s => s.modLane p l (fun x => { x with frozen := true })))

/-- REFRESH is received: as many training data blocks follow on each lane named. Those that pass R130 resume adaptation
(R123, R131). -/
def State.onRefresh (s : State) (p mask n : Nat) : State :=
  [0, 1].foldl (fun (s : State) l =>
    s.onlyIf (laneActive s p l && hasBit mask l) (fun s => s.modLane p l (fun x => { x with refreshLeft := n }))) s

/-- The lanes of a port that may carry a refresh burst: none in retrain, degraded or in test (R131). -/
def refreshLanes (s : State) (p : Nat) : List Nat :=
  [0, 1].filter (fun l => laneActive s p l && decide ((laneOf s p l).retrain = .none) &&
    !(vget s.port p).farRetrain.any (fun r => r.1 == l))

/-- Blocks of a 1 µs burst at the rate in force. -/
def burstBlocks (s : State) (p : Nat) : Nat := if (vget s.port p).rate then 391 else 157

/-- A burst of 1 µs of training on the lanes of a mask, IDLE on another that carries the stream. -/
def State.sendBurst (s : State) (p mask : Nat) : State :=
  s.txSend p (List.replicate (burstBlocks s p) (.burst mask))

/-- `REFRESH_BURST`: of the lanes that have sent no data for 10 ms, those that may are named in REFRESH, and training
data follows (R131). -/
def execRefreshBurst (x : IdleLanes) (s : State) : Out :=
  let p := x.port
  let ls := (refreshLanes s p).filter (fun l => x.lanes.any (fun i => i.val == l))
  let mask := bitsOf 2 (fun l => ls.contains l)
  .next (s.onlyIf (!ls.isEmpty) (fun s => (s.linkMsg p 7 mask (burstBlocks s p)).sendBurst p mask))

/-! ## Eye scan and retrain (R134, R135) -/

/-- A retrain is requested: one lane at a time (R135). -/
def State.retrainRequest (s : State) (p l : Nat) : State :=
  if !laneActive s p l ∨ (laneOf s p l).retrain ≠ .none then s
  else if inFullRetrain s p (1 - l) then s.modLane p l (fun x => { x with retrain := .waiting })
  else s.retrainStart p l

/-- `EYE_SCAN`: margins of an automatic scan (R134). -/
def execEyeScan (p : Fin 4) (l : Fin 2) (h v : Nat) (s : State) : Out :=
  if 64 ≤ h ∨ 256 ≤ v then .fault (.illFormed "EYE_SCAN")
  else
    let lim := s.reg (yzlReg Reg.YZL_MARGIN_MIN p)
    .next (s.onlyIf (laneActive s p l && fld lim 16 8 != 0) (fun s =>
      let low := decide (h < fld lim 0 6) || decide (v < fld lim 8 8)
      let n := if low then (laneOf s p l).lowScans + 1 else 0
      let s := s.modLane p l (fun x => { x with
        hmargin := h, vmargin := v, scans := wrapAdd 16 x.scans 1, lowScans := if 2 ≤ n then 0 else n })
      s.onlyIf (decide (2 ≤ n)) (fun s => (s.laneErr p l 4).retrainRequest p l)))

/-- `LANE_RETRAIN_CMD` (R134, R135). -/
def execLaneRetrainCmd (p : Fin 4) (l : Fin 2) (s : State) : Out := .next (s.retrainRequest p l)

/-- RETRAIN_REQ is received: the far end retrains a lane, in full with argument 0 and by bursts with 1 (R134). A full
retrain of a lane while the other retrains: the lower lane goes first, the other waits (R135; log entry 87). -/
def State.onRetrainReq (s : State) (p l arg : Nat) : State :=
  let other := 1 - l
  let full := decide (arg = 0)
  if !laneActive s p l then s
  else if full && decide ((laneOf s p other).retrain = .full) && l == 1 then s
  else
    let s := if full && decide ((laneOf s p other).retrain = .full) then
        s.modLane p other (fun x => { x with retrain := .waiting, retrainTimes := x.retrainTimes.dropLast })
      else s
    ((s.modPort p (fun q => { q with farRetrain := some (l, !full) })).rxFollow p).raise .refl Ev.LANE_RETRAIN p
      (portData p l)

/-- `RETRAIN_TRAINING_BURST`: a burst of 1 µs for a far end that retrains on one lane (R134). -/
def execRetrainTrainingBurst (p : Fin 4) (s : State) : Out :=
  match (vget s.port p).farRetrain with
  | some (l, true) => .next (s.onlyIf (decide ((vget s.port p).st = .up)) (fun s => s.sendBurst p (2 ^ (l % 2))))
  | _ => .next s

/-- RETRAIN_DONE is received: the far end has retrained its lane, which rejoins after the next marker; a retrain that
waited for it begins (R134, R135). -/
def State.onRetrainDone (s : State) (p l : Nat) : State :=
  s.onlyIf ((vget s.port p).farRetrain == some (l, false)) (fun s =>
    ((s.modPort p (fun q => { q with farRetrain := none })).rejoinAfter p l false).retrainNext p)

/-- `RETRAIN_COMPLETE`: the own lane is ready again, sends RETRAIN_DONE and rejoins; a lane that waited begins
(R134, R135). -/
def execRetrainComplete (p : Fin 4) (l : Fin 2) (s : State) : Out :=
  .next (s.onlyIf (decide ((laneOf s p l).retrain = .full) && laneReady s p l) (fun s =>
    let s := s.modLane p l (fun x => { x with retrain := .none })
    let s := s.linkMsg p 6 l 0
    (s.rejoinAfter p l false).retrainNext p))

/-- `RETRAIN_BURST_END`: 40 ms of bursts are over, with the margins found then (R134). -/
def execRetrainBurstEnd (p : Fin 4) (h v : Nat) (s : State) : Out :=
  let lim := s.reg (yzlReg Reg.YZL_MARGIN_MIN p)
  let low := decide (h < fld lim 0 6) || decide (v < fld lim 8 8)
  let s := s.modPort p (fun q => { q with
    farRetrain := if q.farRetrain.any (·.2) then none else q.farRetrain })
  match [0, 1].find? (fun l => decide ((laneOf s p l).retrain = .burst)) with
  | none => .next s
  | some l =>
    let s := s.modLane p l (fun x => { x with retrain := .none })
    .next (s.onlyIf low (fun s => (s.laneErr p l 4).raise .refl Ev.LANE_MARGIN_LOW p (portData p l)))

/-! ## Test mode (R136) -/

/-- A lane generates the pattern: TEST, a mode that generates, and the lane selected. -/
def prbsSends (s : State) (p l : Nat) : Bool :=
  let w := s.reg (yzlReg Reg.YZL_TEST p)
  decide ((vget s.port p).st = .test) && (fld w 0 2 == 1 || fld w 0 2 == 2) && bitOf w (4 + l)

/-- The pattern that the lanes of a port in TEST carry from now on: raw PRBS31 that goes on from the generator's register,
inverted where INV asks for it. -/
def State.testPattern (s : State) (p : Nat) : State :=
  s.emits (([0, 1].filter (prbsSends s p)).map (fun l =>
    .prbs p l (laneOf s p l).txPrbs (bitOf (s.reg (yzlReg Reg.YZL_TEST p)) 2)))

/-- A write of `YZL_TEST` (R136). MODE other than 0 takes a port of any state to TEST, a DISABLED one too; one without
REFCLK or VDDA_L waits in IDLE_WAIT (log entry 77). P[1] to P[3] stay DISABLED in legacy mode (R137). -/
def State.testWrite (s : State) (p : Nat) (data : Word) : State :=
  let s := s.setReg (yzlReg Reg.YZL_TEST p) (data &&& 0x37)
  let st := (vget s.port p).st
  if fld data 0 2 = 0 then s.onlyIf (decide (st = .test)) (fun s => s.portDown p .idleWait)
  else
    let s := s.onlyIf (testAsked s p && decide (st ≠ .test)) (fun s =>
      if lanesPowered s then s.portDown p .test else s.portIdle p)
    s.testPattern p

/-- `TEST_MODE_WRITE`. -/
def execTestModeWrite (p : Fin 4) (data : Word) (s : State) : Out :=
  .next (s.onlyIf s.awake (fun s => s.testWrite p data))

/-- The checker of a lane runs: TEST, a mode that checks, and the lane selected. -/
def prbsRuns (s : State) (p l : Nat) : Bool :=
  let w := s.reg (yzlReg Reg.YZL_TEST p)
  decide ((vget s.port p).st = .test) && (fld w 0 2 == 1 || fld w 0 2 == 3) && bitOf w (4 + l)

/-- The checker seeds itself again from the bits that follow. -/
def LaneState.reseed (x : LaneState) : LaneState := { x with prbsLock := false, prbsSeed := 0, prbsGood := 0, prbsWin := [] }

/-- One received bit at the checker (R136): 31 bits seed it, 64 error-free bits lock it, from then on each error counts, and
32 errors within 64 bits drop the lock. An error before the lock seeds it again (log entry 88). -/
def LaneState.prbsBit (x : LaneState) (b : Bool) : LaneState :=
  if x.prbsSeed < 31 then { x with prbsReg := shiftIn x.prbsReg b, prbsSeed := x.prbsSeed + 1 }
  else
    let want := Machine.prbsBit x.prbsReg
    let bad := b != want
    let x : LaneState := { x with prbsReg := shiftIn x.prbsReg want }
    if x.prbsLock then
      let x : LaneState := { x with
        prbsErr := if bad then satAdd 32 x.prbsErr 1 else x.prbsErr, prbsWin := (bad :: x.prbsWin).take 64 }
      if 32 ≤ (x.prbsWin.filter id).length then x.reseed else x
    else if bad then x.reseed
    else if x.prbsGood + 1 = 64 then { x with prbsLock := true, prbsGood := 64 }
    else { x with prbsGood := x.prbsGood + 1 }

/-- Bits received at the checker of a lane; INV inverts them. -/
def State.prbsTake (s : State) (p l : Nat) (bits : List Bool) : State :=
  let inv := bitOf (s.reg (yzlReg Reg.YZL_TEST p)) 2
  s.onlyIf (prbsRuns s p l) (fun s => s.modLane p l (fun x => bits.foldl (fun x b => x.prbsBit (b ^^ inv)) x))

/-- `PRBS_CHECKER_LOCK`: the bits that the lane has received since its last checker command; the checker locks after 64
error-free ones. -/
def execPrbsCheckerLock (p : Fin 4) (x : LaneBits) (s : State) : Out := .next (s.prbsTake p x.lane x.bits)

/-- `PRBS_CHECKER_LOCK_LOST`: likewise; 32 errors within 64 bits drop the lock. -/
def execPrbsCheckerLockLost (p : Fin 4) (x : LaneBits) (s : State) : Out := .next (s.prbsTake p x.lane x.bits)

/-! ## Registers -/

/-- The state code of R124. -/
def portCode : PortSt → Nat
  | .disabled => 0
  | .train => 1
  | .exchange => 3
  | .up => 4
  | .idleWait => 5
  | .test => 6

/-- `YZL_PORT_STAT`. -/
def viewPortStat (s : State) (p : Nat) : Word :=
  let q := vget s.port p
  mkWord [(24, q.restarts), (14, b2n (laneFrozen s p 0)), (15, b2n (laneFrozen s p 1)),
    (12, b2n (laneOf s p 0).polinv), (13, b2n (laneOf s p 1).polinv), (8, q.version), (7, b2n q.swap),
    (6, b2n q.rate), (4, q.active), (0, portCode q.st)]

/-- `YZL_CREDIT_FAR` and `YZL_CREDIT_FAR_D`. -/
def viewCredit (q : PortState) : Word × Word :=
  (mkWord [(24, if q.farC.inf then 255 else q.farC.hdrLeft), (16, if q.farN.inf then 255 else q.farN.hdrLeft),
     (8, if q.farP.inf then 255 else q.farP.hdrLeft), (0, b2n q.farC.inf)],
   mkWord [(16, if q.farC.inf then 0xFFF else q.farC.dataLeft), (0, if q.farP.inf then 0xFFF else q.farP.dataLeft)])

/-- The registers of the YZL windows that are not plain storage, by port and offset. -/
def viewYzl (s : State) (addr : Nat) : Option Word :=
  let p := (addr - Reg.YZL_PORT_CTL) / 0x1000
  let off := (addr - Reg.YZL_PORT_CTL) % 0x1000
  let q := vget s.port p
  let l := (off / 4) % 2
  if off = 0x4 then some (viewPortStat s p)
  else if off = 0xC then some 0
  else if off = 0x10 ∨ off = 0x14 then
    some (s.reg addr ||| (if (laneOf s p l).txeqRej then 0x80000000 else 0))
  else if off = 0x18 ∨ off = 0x1C then
    let x := vget q.lane l
    some (mkWord [(8, b2n x.signal), (7, b2n x.amLock), (6, b2n x.block), (5, b2n x.adapt),
      (4, b2n (laneFrozen s p l)), (0, x.ctle)])
  else if off = 0x20 ∨ off = 0x24 then
    let d := (vget q.lane l).dfe.map (toTwos 6)
    some (mkWord [(0, d.getD 0 0), (6, d.getD 1 0), (12, d.getD 2 0), (18, d.getD 3 0), (24, d.getD 4 0)])
  else if off = 0x2C ∨ off = 0x30 then
    let x := vget q.lane (if off = 0x2C then 0 else 1)
    some (mkWord [(16, x.scans), (8, x.vmargin), (0, x.hmargin)])
  else if off = 0x48 ∨ off = 0x4C then some (BitVec.ofNat 32 (vget q.lane l).bip)
  else if off = 0x50 then
    some (s.reg addr ||| mkWord [(8, b2n (vget q.lane 0).prbsLock), (9, b2n (vget q.lane 1).prbsLock)])
  else if off = 0x54 then some (BitVec.ofNat 32 (vget q.lane 0).prbsErr)
  else if off = 0x58 then some (BitVec.ofNat 32 (vget q.lane 1).prbsErr)
  else if off = 0x60 then
    some (if q.st = .up ∧ q.version = 1 then s.reg addr &&& 0xFFFFFFFE else s.reg addr)
  else if off = 0x64 then some (viewCredit q).1
  else if off = 0x68 then some (viewCredit q).2
  else if off = 0x6C then some (mkWord [(16, q.replays), (0, q.naks)])
  else none

end Sys2Proof.Machine
end

