-- ==== Sys2Proof/Machine/Blackout.lean ====
section
/-! DEFINITION. The safe blackout function (R21 to R23, R432 to R455): the two safety cores, their inputs,
outputs, feedback, test pulses, configuration and lock. Output 0 is SQ1, output 1 is SQ2; channels 0 to 3 are
SQ1_A, SQ1_B, SQ2_A, SQ2_B; input channels 0 to 3 are SX1_A, SX1_B, SX2_A, SX2_B. -/

namespace Sys2Proof.Machine

/-! ## Configuration (R450) -/

/-- A word of a configuration copy: 0 IN_CTL, 1 TD, 2 RAMP, 3 OUT_CTL. -/
def cfgW (c : List Word) (i : Nat) : Word := c.getD i 0

/-- FILTER in ms. -/
def cfgFilter (c : List Word) : Nat := fld (cfgW c 0) 8 5
/-- Td in ticks. -/
def cfgTd (c : List Word) : Nat := fld (cfgW c 1) 0 6 * 10
/-- RAMP in ms (R442). -/
def cfgRamp (c : List Word) : Nat := fld (cfgW c 2) 0 5 * 10
/-- DELAY in ticks. -/
def cfgDelay (c : List Word) : Nat := fld (cfgW c 2) 8 5
/-- FBWIN in ticks. -/
def cfgFbwin (c : List Word) : Nat := fld (cfgW c 3) 16 6 * 10
/-- OUTn_EN of output `o`. -/
def cfgOutEn (c : List Word) (o : Nat) : Bool := bitOf (cfgW c 3) o
/-- FBn_EN of output `o`. -/
def cfgFbEn (c : List Word) (o : Nat) : Bool := bitOf (cfgW c 3) (2 + o)
/-- TESTn of output `o`. -/
def cfgTest (c : List Word) (o : Nat) : Bool := bitOf (cfgW c 3) (4 + o)
/-- FB_ESC. -/
def cfgFbEsc (c : List Word) : Bool := bitOf (cfgW c 3) 8
/-- Input `i` is enabled. -/
def cfgInEn (c : List Word) (i : Nat) : Bool := bitOf (cfgW c 0) i
/-- Input `i` is routed to the light function. -/
def cfgInLight (c : List Word) (i : Nat) : Bool := bitOf (cfgW c 0) (16 + 2 * i)
/-- Input `i` is routed to the segment function. -/
def cfgInSeg (c : List Word) (i : Nat) : Bool := bitOf (cfgW c 0) (17 + 2 * i)

/-- CRC-32C over a configuration copy (R450). -/
def cfgCrc (c : List Word) : Nat := crc32c ((c.map (fun w => bytesLE 4 w.toNat)).flatten)

/-- A configuration word as stored: fields limited as their descriptions say. -/
def safStored (reg : Nat) (w : Word) : Word :=
  let lim lo n a b := max a (min b (fld w lo n)) * 2 ^ lo
  match reg with
  | 0 => BitVec.ofNat 32 ((w &&& 0x000F0003).toNat + lim 8 5 1 20)
  | 1 => BitVec.ofNat 32 (lim 0 6 1 50)
  | 2 => BitVec.ofNat 32 (lim 8 5 0 30 + lim 0 5 0 18)
  | _ => BitVec.ofNat 32 ((w &&& 0x0000013F).toNat + lim 16 6 1 50)

/-- The four words as the registers hold them. -/
def safRegs (s : State) : List Word :=
  [s.reg Reg.SAF_IN_CTL, s.reg Reg.SAF_TD, s.reg Reg.SAF_RAMP, s.reg Reg.SAF_OUT_CTL]

/-! ## Views -/

/-- Level of an output channel at its ball: low within its test pulse (R445). -/
def safOut (s : State) (ch : Nat) : Bool := vget s.saf.out ch && decide (s.saf.pulse ≠ some ch)

/-- Code of a light state (R434). -/
def lightCode : LightSt → Nat
  | .stopped => 0
  | .closing => 1
  | .run => 2
  | .ramp => 3
  | .delay => 4
  | .safe => 5

/-- Code of a segment state. -/
def segCode : SegSt → Nat
  | .stopped => 0
  | .closing => 1
  | .run => 2

/-- `SAF_STAT`. -/
def safStat (s : State) : Nat :=
  (mkWord [(20, bitsOf 2 (fun i => vget s.saf.fb i)), (16, (s.saf.a.rb &&& 5) ||| (s.saf.b.rb &&& 10)),
    (12, bitsOf 4 (fun i => (vget s.saf.chan i).demand)), (10, b2n s.saf.lineB), (9, b2n s.saf.lineA),
    (8, b2n s.saf.locked), (4, segCode s.saf.seg), (0, lightCode s.saf.light)]).toNat

/-- The gate that the cores pass to scan-out: the lower of the two functions' gates (R432). -/
def safGate (s : State) : Nat := if s.saf.seg = .run then s.saf.gate else 0

/-- The SAF registers that are not plain storage. -/
def viewSaf (s : State) (addr : Nat) : Option Word :=
  if addr = Reg.SAF_CFG_CRC then some (BitVec.ofNat 32 (cfgCrc s.saf.a.cfg))
  else if addr = Reg.SAF_CFG_CRC_B then some (BitVec.ofNat 32 (cfgCrc s.saf.b.cfg))
  else if addr = Reg.SAF_LOCK then some 0
  else if addr = Reg.SAF_CMD then some 0
  else if addr = Reg.SAF_STAT then some (BitVec.ofNat 32 (safStat s))
  else if addr = Reg.SAF_FAULT then some (BitVec.ofNat 32 s.saf.fault)
  else if addr = Reg.SAF_REFUSE then
    some (mkWord [(16, s.saf.refused), (4, s.saf.refuseSeg), (0, s.saf.refuseLight)])
  else if addr = Reg.SAF_CNT then some (mkWord [(16, s.saf.demands), (0, s.saf.releases)])
  else none

/-! ## Events and small steps -/

/-- An event of the cores, with `SAF_STAT` in its data (R455). -/
def State.safRaise (s : State) (k : EvKind) (inst : Nat) : State := s.raise .sfa k inst (safStat s)

/-- Outputs of a function driven to one level; the change is timed for its feedback (R444). -/
def State.safDrive (s : State) (o : Nat) (level : Bool) : State :=
  let was := vget s.saf.out (2 * o) || vget s.saf.out (2 * o + 1)
  { s with saf := { s.saf with
      out := vset (vset s.saf.out (2 * o) level) (2 * o + 1) level
      outAt := if was = level then s.saf.outAt else vset s.saf.outAt o s.saf.tick
      fbOk := if was = level then s.saf.fbOk else vset s.saf.fbOk o false } }

/-- One channel falls; where the output falls with it, that is timed for its feedback (R444). -/
def State.safChannelLow (s : State) (ch : Nat) : State :=
  let o := ch / 2
  let out := vset s.saf.out ch false
  let falls := (vget s.saf.out (2 * o) || vget s.saf.out (2 * o + 1)) && !(vget out (2 * o) || vget out (2 * o + 1))
  { s with saf := { s.saf with
      out := out
      outAt := if falls then vset s.saf.outAt o s.saf.tick else s.saf.outAt
      fbOk := if falls then vset s.saf.fbOk o false else s.saf.fbOk } }

/-- A pulse in progress on an output is abandoned (R446). -/
def State.safAbandon (s : State) (o : Nat) : State :=
  match s.saf.pulse with
  | some ch =>
    if ch / 2 = o then
      let s : State := { s with saf := { s.saf with
        pulse := none, abandoned := setBit s.saf.abandoned o } }
      ((s.safChannelLow ch).setC Reg.SAF_ERR 128).safRaise Ev.SAF_TEST_ABANDONED (o + 1)
    else s
  | none => s

/-- The light function is demanded (R432, R434, R446): the decision acts at the next tick. -/
def State.safLightDemand (s : State) : State :=
  match s.saf.light with
  | .closing | .run =>
    if s.saf.lightDue then s
    else
      let skip := s.saf.pulse.any (fun ch => ch / 2 == 0)
      let s := s.safAbandon 0
      let s : State := { s with saf := { s.saf with
        lightDue := true, skipRamp := skip, demands := satAdd 16 s.saf.demands 1 } }
      (s.setC Reg.SAF_ERR 1).safRaise Ev.SAF_DEMAND 1
  | _ => s

/-- The segment function is demanded (R432). -/
def State.safSegDemand (s : State) : State :=
  if s.saf.seg = .stopped ∨ s.saf.segDue then s
  else
    let s := s.safAbandon 1
    let s : State := { s with saf := { s.saf with segDue := true, demands := satAdd 16 s.saf.demands 1 } }
    (s.setC Reg.SAF_ERR 2).safRaise Ev.SAF_SEG_DEMAND 2

/-- The safe state is entered: gate 0, SQ1 low, no ramp and no delay (R433). -/
def State.safEnter (s : State) : State :=
  let s := (s.safDrive 0 false)
  let p := s.saf.pulse.filter (fun ch => decide (ch / 2 ≠ 0))
  { s with saf := { s.saf with
      light := .safe, gate := 0, inSafe := true, safeDue := false, lightDue := false, skipRamp := false
      releaseLight := false, releaseSeg := false, runLight := false, stopLight := false, pulse := p } }

/-- An internal fault drives the safe state from the next tick (R433). -/
def State.safInternal (s : State) (bit : Nat) : State :=
  if s.saf.inSafe then { s with saf := { s.saf with fault := setBit s.saf.fault bit } }
  else ({ s with saf := { s.saf with fault := setBit s.saf.fault bit, safeDue := true } }).setC Reg.SAF_ERR 32

/-- A fault bit is latched with its event, once. -/
def State.safLatch (s : State) (bit err : Nat) (k : EvKind) (inst : Nat) : State :=
  if hasBit s.saf.fault bit then s
  else (({ s with saf := { s.saf with fault := setBit s.saf.fault bit } }).setC Reg.SAF_ERR err).safRaise k inst

/-! ## Inputs (R438 to R440) -/

/-- One sample of one channel in one core (R438): F + 1 consecutive samples that differ are accepted. -/
def SafInput.sample (x : SafInput) (f : Nat) (level : Bool) : SafInput :=
  if level = !x.demand then { x with run := 0 }
  else if f + 1 ≤ x.run + 1 then { demand := !x.demand, run := 0 }
  else { x with run := x.run + 1 }

/-- One feedback sample in one core: a change is confirmed after 3 agreeing samples (R444). -/
def SafSide.feedback (x : SafSide) (o : Nat) (level : Bool) : SafSide :=
  if level = vget x.fb o then { x with fbRun := vset x.fbRun o 0 }
  else if 3 ≤ vget x.fbRun o + 1 then { x with fb := vset x.fb o level, fbRun := vset x.fbRun o 0 }
  else { x with fbRun := vset x.fbRun o (vget x.fbRun o + 1) }

/-- The alive count that the other core's next message carries, once this tick's has been taken: a missing message
counts on (R436; log entry 73). -/
def SafSide.expected (x : SafSide) (m : SafSamples) : Nat :=
  match m.message with
  | some v => v.val
  | none => wrapAdd 4 x.heard 1

/-- The message of a tick is neither missing nor repeated nor skipped in alive count (R436). -/
def SafSide.msgOk (x : SafSide) (m : SafSamples) : Bool :=
  m.message.any (fun v => decide (v.val = wrapAdd 4 x.heard 1))

/-- The samples of one core at a tick. Feedback is not evaluated in or just after a pulse (R444). -/
def SafSide.take (x : SafSide) (m : SafSamples) (hold1 hold2 : Bool) : SafSide :=
  let f := cfgFilter x.cfg
  let x := { x with
    input := Vector.ofFn (fun i : Fin 4 => (vget x.input i.val).sample f (hasBit m.inputs i.val)), rb := m.readback }
  let x := if hold1 then x else x.feedback 0 (hasBit m.feedback 0)
  let x := if hold2 then x else x.feedback 1 (hasBit m.feedback 1)
  { x with alive := wrapAdd 4 x.alive 1, heard := x.expected m }

/-- A filtered transition of channel `ch` accepted by both cores (R438 to R440). -/
def State.safTransition (s : State) (ch : Nat) (demand : Bool) : State :=
  let i := ch / 2
  let c := s.saf.a.cfg
  let other := vget s.saf.chan (2 * i + (1 - ch % 2))
  let recent := (s.saf.tick :: (vget s.saf.chan ch).trans).filter (fun t => decide (s.saf.tick < t + 100))
  let s : State := { s with saf := { s.saf with
    chan := vset s.saf.chan ch { demand := demand, trans := recent } } }
  let late := match vget s.saf.follow i with
    | some (t0, x) => decide (x = demand) && decide (t0 + cfgTd c + 1 ≤ s.saf.tick)
    | none => false
  let open_ := if other.demand = demand then none else some (s.saf.tick, demand)
  let s : State := { s with saf := { s.saf with follow := vset s.saf.follow i open_ } }
  let s := if late && cfgInEn c i then s.safLatch i 4 Ev.SAF_DISCREPANCY (i + 1) else s
  if 8 < recent.length ∧ cfgInEn c i then s.safLatch (2 + i) 4 Ev.SAF_CHATTER (i + 1) else s

/-- The transitions that both cores have accepted by this tick (R436, R452). -/
def State.safChannels (s : State) : State :=
  (List.range 4).foldl (fun s ch =>
    let a := (vget s.saf.a.input ch).demand
    let b := (vget s.saf.b.input ch).demand
    if a = b ∧ a ≠ (vget s.saf.chan ch).demand then s.safTransition ch a else s) s

/-- Input `i` demands: a channel is accepted as demand, or a DISCREPANCY or CHATTER fault stands (R432, R439). -/
def safInputDemand (s : State) (c : List Word) (i : Nat) : Bool :=
  cfgInEn c i && ((vget s.saf.chan (2 * i)).demand || (vget s.saf.chan (2 * i + 1)).demand ||
    hasBit s.saf.fault i || hasBit s.saf.fault (2 + i))

/-- A demand of the light function is present (R432). -/
def safLightWanted (s : State) : Bool :=
  let c := s.saf.cfgLight
  (cfgInLight c 0 && safInputDemand s c 0) || (cfgInLight c 1 && safInputDemand s c 1)

/-- A demand of the segment function is present (R432, R445). -/
def safSegWanted (s : State) : Bool :=
  let c := s.saf.cfgSeg
  !s.saf.lineA || !s.saf.lineB || (cfgInSeg c 0 && safInputDemand s c 0) ||
    (cfgInSeg c 1 && safInputDemand s c 1) || (cfgFbEsc c && hasBit s.saf.fault 4) || hasBit s.saf.fault 8

/-! ## Decisions of the last tick (R434, R436, R448) -/

/-- The ramp's gate at step `j` (R442). -/
def rampGate (l0 n j : Nat) : Nat := if n = 0 then 0 else l0 * (n - j) / n

/-- A light demand acts (R434, R442, R446). -/
def State.safLightAct (s : State) : State :=
  let c := s.saf.cfgLight
  let skip := s.saf.skipRamp
  let s : State := { s with saf := { s.saf with lightDue := false, skipRamp := false, runLight := false } }
  match s.saf.light with
  | .run =>
    if skip then
      ({ s with saf := { s.saf with light := .stopped, gate := 0 } }).safDrive 0 false
    else
      let g := rampGate s.saf.gate (cfgRamp c) 0
      { s with saf := { s.saf with l0 := s.saf.gate, j := 0, gate := g
                                   light := if g = 0 then .delay else .ramp, delayLeft := cfgDelay c } }
  | .closing => ({ s with saf := { s.saf with light := .stopped, gate := 0 } }).safDrive 0 false
  | _ => s

/-- A segment demand acts: SQ2 low at once (R432). -/
def State.safSegAct (s : State) : State :=
  ({ s with saf := { s.saf with segDue := false, runSeg := false, seg := .stopped } }).safDrive 1 false

/-- A release acts: the output rises and the function enters CLOSING (R448). -/
def State.safReleaseAct (s : State) (o : Nat) : State :=
  let c := safRegs s
  let s : State := { s with saf := { s.saf with abandoned := clearBit s.saf.abandoned o } }
  if o = 0 then
    let s : State := { s with saf := { s.saf with releaseLight := false, cfgLight := c, light := .closing } }
    ((if cfgOutEn c 0 then s.safDrive 0 true else s)).safRaise Ev.SAF_RELEASED 1
  else
    let s : State := { s with saf := { s.saf with
      releaseSeg := false, cfgSeg := c, seg := if cfgOutEn c 1 then .closing else .run } }
    ((if cfgOutEn c 1 then s.safDrive 1 true else s)).safRaise Ev.SAF_RELEASED 2

/-- The steps of RAMP and DELAY (R442). -/
def State.safRampStep (s : State) : State :=
  match s.saf.light with
  | .ramp =>
    let j := s.saf.j + 1
    let g := rampGate s.saf.l0 (cfgRamp s.saf.cfgLight) j
    { s with saf := { s.saf with j := j, gate := g, light := if g = 0 then .delay else .ramp
                                 delayLeft := cfgDelay s.saf.cfgLight } }
  | .delay => { s with saf := { s.saf with delayLeft := s.saf.delayLeft - 1 } }
  | _ => s

/-- The decisions of the last tick take effect (R436). -/
def State.safApply (s : State) : State :=
  let s := s.safRampStep
  let s := if s.saf.releaseLight then s.safReleaseAct 0 else s
  let s := if s.saf.releaseSeg then s.safReleaseAct 1 else s
  let s : State := if s.saf.runLight then { s with saf := { s.saf with
    runLight := false, light := if s.saf.light = .closing then .run else s.saf.light
    gate := if s.saf.light = .closing then 65535 else s.saf.gate } } else s
  let s : State := if s.saf.runSeg then { s with saf := { s.saf with
    runSeg := false, seg := if s.saf.seg = .closing then .run else s.saf.seg } } else s
  let s := if s.saf.stopLight then
    ({ s with saf := { s.saf with stopLight := false, light := .stopped, gate := 0 } }).safDrive 0 false else s
  let s := if s.saf.stopSeg then
    ({ s with saf := { s.saf with stopSeg := false, seg := .stopped } }).safDrive 1 false else s
  let s := if s.saf.segDue then s.safSegAct else s
  let s := if s.saf.lightDue then s.safLightAct else s
  if s.saf.safeDue then s.safEnter else s

/-! ## Feedback (R444, R448) -/

/-- Configuration in force of the function of output `o`. -/
def safCfgOf (s : State) (o : Nat) : List Word := if o = 0 then s.saf.cfgLight else s.saf.cfgSeg

/-- The function of output `o` is in CLOSING. -/
def safClosing (s : State) (o : Nat) : Bool :=
  if o = 0 then decide (s.saf.light = .closing) else decide (s.saf.seg = .closing)

/-- A FEEDBACK fault of output `o` (R444). -/
def State.safFeedbackFault (s : State) (o : Nat) : State := s.safLatch (4 + o) 8 Ev.SAF_FEEDBACK (o + 1)

/-- An FB_CLOSE fault of output `o`: the function returns to STOPPED (R444). -/
def State.safCloseFault (s : State) (o : Nat) : State :=
  let s := s.safLatch (6 + o) 8 Ev.SAF_FB_CLOSE (o + 1)
  if o = 0 then { s with saf := { s.saf with stopLight := true } }
  else { s with saf := { s.saf with stopSeg := true } }

/-- The function of output `o` enters RUN at the next tick (R448). -/
def State.safRunDue (s : State) (o : Nat) : State :=
  if o = 0 then { s with saf := { s.saf with runLight := true } }
  else { s with saf := { s.saf with runSeg := true } }

/-- The feedback of output `o` as both cores confirm it, and what follows (R444, R448). -/
def State.safFeedback (s : State) (o : Nat) : State :=
  let c := safCfgOf s o
  let high := vget s.saf.out (2 * o) || vget s.saf.out (2 * o + 1)
  let opened := vget s.saf.a.fb o
  let agreed := decide (opened = vget s.saf.b.fb o)
  let s : State := if agreed then { s with saf := { s.saf with fb := vset s.saf.fb o opened } } else s
  if !cfgFbEn c o then (if safClosing s o then s.safRunDue o else s)
  else if !agreed then s
  else if high then
    (if !opened then
      let s : State := { s with saf := { s.saf with fbOk := vset s.saf.fbOk o true } }
      if safClosing s o then s.safRunDue o else s
    else if vget s.saf.fbOk o then s.safCloseFault o else s)
  else
    (if opened then { s with saf := { s.saf with fbOk := vset s.saf.fbOk o true } }
    else if vget s.saf.fbOk o then s.safFeedbackFault o else s)

/-! ## Agreement of the cores (R21, R436) -/

/-- The fields that the cores exchange agree: filtered inputs and confirmed feedback. -/
def safAgree (s : State) : Bool :=
  (List.range 4).all (fun ch =>
    decide ((vget s.saf.a.input ch).demand = (vget s.saf.b.input ch).demand)) &&
  (List.range 2).all (fun o => decide (vget s.saf.a.fb o = vget s.saf.b.fb o))

/-- A mismatch of the cores (R436). -/
def State.safMismatch (s : State) (src : Source) : State :=
  if hasBit s.saf.fault 9 then s
  else
    let s := s.safInternal 9
    s.raise src Ev.SAF_CORE_MISMATCH 0 (safStat s)

/-- The comparison of a tick. -/
def State.safCompare (s : State) (msgOk : Bool) : State :=
  let d := if safAgree s then 0 else s.saf.differ + 1
  let m := if msgOk then 0 else s.saf.badMsg + 1
  let s : State := { s with saf := { s.saf with differ := d, badMsg := m } }
  if 2 ≤ d ∨ 2 ≤ m ∨ cfgCrc s.saf.a.cfg ≠ cfgCrc s.saf.b.cfg then s.safMismatch .sfa else s

/-! ## Reset requests (R447) -/

/-- Every enabled input routed to a function is accepted inactive and has been quiet for 100 ticks. -/
def safInputsQuiet (s : State) (c : List Word) (routed : Nat → Bool) : Bool :=
  (List.range 2).all (fun i => !cfgInEn c i || !routed i ||
    (List.range 2).all (fun k =>
      let ch := vget s.saf.chan (2 * i + k)
      !ch.demand && ch.trans.all (fun t => decide (t + 100 ≤ s.saf.tick))))

/-- The output reads back low, and its feedback, if enabled, is confirmed open. -/
def safOutputIdle (s : State) (c : List Word) (o : Nat) : Bool :=
  let rb := (s.saf.a.rb &&& 5) ||| (s.saf.b.rb &&& 10)
  !hasBit rb (2 * o) && !hasBit rb (2 * o + 1) && (!cfgFbEn c o || vget s.saf.fb o)

/-- The first failing cause of a reset request for a function, 0 for none (R447). -/
def safRefusal (s : State) (o : Nat) : Nat :=
  let c := safRegs s
  if !s.saf.locked then 1
  else if !safInputsQuiet s c (if o = 0 then cfgInLight c else cfgInSeg c) then 2
  else if o = 1 ∧ s.saf.lineTicks < 10 then 3
  else if !safOutputIdle s c o then 4
  else if s.saf.inSafe ∨ s.saf.safeDue then 5
  else if o = 0 ∧ s.saf.light ≠ .stopped then 6
  else 0

/-- The latched bits that the release of a function clears (R447). -/
def State.safClearFaults (s : State) (o : Nat) : State :=
  let c := safRegs s
  let mine (i : Nat) : Bool := if o = 0 then cfgInLight c i else cfgInSeg c i
  let f := bitsOf 11 (fun b => hasBit s.saf.fault b &&
    !((b == 0 || b == 2) && mine 0) && !((b == 1 || b == 3) && mine 1) &&
    !(b == 4 + o) && !(b == 6 + o) && !(b == 8))
  { s with saf := { s.saf with fault := f } }

/-- A function already in CLOSING or RUN is not affected by a request (R447). -/
def safBusyFn (s : State) (o : Nat) : Bool :=
  if o = 0 then decide (s.saf.light = .closing) || decide (s.saf.light = .run)
  else decide (s.saf.seg = .closing) || decide (s.saf.seg = .run)

/-- A request evaluated for one function. -/
def State.safEvalOne (s : State) (o : Nat) : State :=
  if safBusyFn s o then s
  else
    let why := safRefusal s o
    if why = 0 then
      let s := s.safClearFaults o
      let s : State := { s with saf := { s.saf with releases := satAdd 16 s.saf.releases 1 } }
      if o = 0 then { s with saf := { s.saf with releaseLight := true, refuseLight := 0 } }
      else { s with saf := { s.saf with releaseSeg := true, refuseSeg := 0 } }
    else
      let s : State := if o = 0 then { s with saf := { s.saf with refuseLight := why } }
        else { s with saf := { s.saf with refuseSeg := why } }
      (s.setC Reg.SAF_ERR 64).safRaise Ev.SAF_RESET_REFUSED (o + 1)

/-- A pending reset request is evaluated for both functions (R447). -/
def State.safEval (s : State) : State :=
  if s.saf.request then
    let s : State := { s with saf := { s.saf with request := false } }
    let refused := (!safBusyFn s 0 && decide (safRefusal s 0 ≠ 0)) || (!safBusyFn s 1 && decide (safRefusal s 1 ≠ 0))
    let s := (s.safEvalOne 0).safEvalOne 1
    if refused then { s with saf := { s.saf with refused := satAdd 16 s.saf.refused 1 } } else s
  else s

/-! ## The tick (R436) -/

/-- The safety cores run: no reset that reaches them is asserted, and the PLL of SFA, whose tick both follow, has locked
(R70, R75, R77, R436). -/
def safRuns (s : State) : Bool := (!s.pwr.inReset || s.pwr.soft) && s.pwr.sfaLock

/-- Feedback of output `o` is not evaluated: its pulse runs or ended less than 5 ms ago (R444). -/
def safHeld (s : State) (o : Nat) : Bool :=
  s.saf.pulse.any (fun ch => ch / 2 == o) || decide (s.saf.tick < vget s.saf.fbHold o)

/-- Configuration of a function that is not in CLOSING or RUN follows the registers (R450). -/
def State.safFollowCfg (s : State) : State :=
  let c := safRegs s
  { s with saf := { s.saf with
      cfgLight := if s.saf.light = .stopped then c else s.saf.cfgLight
      cfgSeg := if s.saf.seg = .stopped then c else s.saf.cfgSeg } }

/-- Samples, comparison and decisions of a tick. -/
def State.safSample (s : State) (a b : SafSamples) : State :=
  let h1 := safHeld s 0
  let h2 := safHeld s 1
  let toggling := a.line && b.line
  let msgOk := s.saf.a.msgOk a && s.saf.b.msgOk b
  let s : State := { s with saf := { s.saf with
    a := s.saf.a.take a h1 h2, b := s.saf.b.take b h1 h2, lineA := a.line, lineB := b.line
    lineTicks := if toggling then min (s.saf.lineTicks + 1) 10 else 0 } }
  let s := s.safChannels
  let s := (s.safFeedback 0).safFeedback 1
  let s := s.safCompare msgOk
  let s := s.safEval
  let s := if safLightWanted s then s.safLightDemand else s
  if safSegWanted s then s.safSegDemand else s

/-- `SAFETY_TICK`: what the two cores sample at one tick (R436). -/
def execSafetyTick (a b : SafSamples) (s : State) : Out :=
  if 15 < a.inputs ∨ 15 < b.inputs ∨ 3 < a.feedback ∨ 3 < b.feedback ∨ 15 < a.readback ∨ 15 < b.readback then
    .fault (.illFormed "SAFETY_TICK")
  else .next (s.onlyIf (safRuns s) (fun s =>
    let s : State := { s with saf := { s.saf with tick := s.saf.tick + 1 } }
    (s.safApply.safFollowCfg).safSample a b))

/-- `DISCREPANCY_TIMEOUT`: the second channel of an input has not followed within Td (R439). -/
def execDiscrepancyTimeout (input : Fin 2) (s : State) : Out :=
  .next (s.onlyIf (safRuns s) (fun s =>
    match vget s.saf.follow input.val with
    | some (t0, _) =>
      if cfgInEn s.saf.a.cfg input.val ∧ t0 + cfgTd s.saf.a.cfg ≤ s.saf.tick then
        s.safLatch input.val 4 Ev.SAF_DISCREPANCY (input.val + 1)
      else s
    | none => s))

/-- `RELEASE_DELAY_END`: DELAY has passed and SQ1 falls (R434, R442). -/
def execReleaseDelayEnd (s : State) : Out :=
  .next (s.onlyIf (safRuns s && decide (s.saf.light = .delay) && decide (s.saf.delayLeft = 0)) (fun s =>
    ({ s with saf := { s.saf with light := .stopped } }).safDrive 0 false))

/-- `FEEDBACK_WINDOW_EXPIRE`: FBWIN has passed since the output changed, or since the reset that drove it low
(R53, R444). -/
def execFeedbackWindowExpire (output : Fin 2) (s : State) : Out :=
  .next (s.onlyIf (safRuns s) (fun s =>
    let o := output.val
    let c := safCfgOf s o
    let high := vget s.saf.out (2 * o) || vget s.saf.out (2 * o + 1)
    if !cfgFbEn c o || vget s.saf.fbOk o ||
        decide (s.saf.tick < vget s.saf.outAt o + cfgFbwin c) then s
    else if high then s.safCloseFault o
    else s.safFeedbackFault o))

/-! ## Test pulses (R445, R446) -/

/-- A demand or a fault has already decided that output `o` falls, and takes precedence over a pulse (R446). -/
def safFalling (s : State) (o : Nat) : Bool :=
  if o = 0 then s.saf.lightDue || s.saf.stopLight || s.saf.safeDue else s.saf.segDue || s.saf.stopSeg

/-- `OUTPUT_TEST_PULSE`: the pulse of a channel falls due (R445, R446). -/
def execOutputTestPulse (ch : Fin 4) (s : State) : Out :=
  let o := ch.val / 2
  .next (s.onlyIf (safRuns s && cfgTest (safCfgOf s o) o && vget s.saf.out ch.val &&
      decide (s.saf.tick % 1000 = 250 * ch.val) && decide (s.saf.light ≠ .ramp) &&
      decide (s.saf.light ≠ .delay) && s.saf.pulse.isNone && !hasBit s.saf.abandoned o && !safFalling s o)
    (fun s => { s with saf := { s.saf with pulse := some ch.val } }))

/-- An OUTPUT fault: the safe state and a segment demand (R445). -/
def State.safOutputFault (s : State) (ch : Nat) : State :=
  let s := s.safLatch 8 16 Ev.SAF_OUTPUT_FAULT (ch / 2 + 1)
  (s.safInternal 8).safSegDemand

/-- `OUTPUT_TEST_PULSE_END`: the pulse ends; `ok` says that the readback followed it in time (R445). -/
def execOutputTestPulseEnd (ch : Fin 4) (ok : Bool) (s : State) : Out :=
  .next (s.onlyIf (safRuns s && decide (s.saf.pulse = some ch.val)) (fun s =>
    let o := ch.val / 2
    let s : State := { s with saf := { s.saf with
      pulse := none, fbHold := vset s.saf.fbHold o (s.saf.tick + 5) } }
    if ok then s else s.safOutputFault ch.val))

/-- `OUTPUT_READBACK_FAIL` (R445). -/
def execOutputReadbackFail (ch : Fin 4) (s : State) : Out :=
  .next (s.onlyIf (safRuns s && decide (s.saf.pulse ≠ some ch.val)) (fun s => s.safOutputFault ch.val))

/-! ## Stopped cores and lines -/

/-- `SGB_MESSAGE_TIMEOUT`: SG[B] drives the safe state of its own (R436). -/
def execSgbMessageTimeout (s : State) : Out :=
  .next (s.onlyIf (safRuns s) (fun s => (s.safMismatch .sfb).safEnter))

/-- `PROTECTION_LINE_STOP`: the core's own SQ2 channel falls at once, the other at the next tick (R443). -/
def execProtectionLineStop (core : SafCore) (s : State) : Out :=
  .next (s.onlyIf (safRuns s) (fun s =>
    let s := s.safSegDemand
    match core with
    | .a => ({ s with saf := { s.saf with lineA := false, lineTicks := 0 } }).safChannelLow 2
    | .b => ({ s with saf := { s.saf with lineB := false, lineTicks := 0 } }).safChannelLow 3))

/-- `OUTPUT_REFRESH_TIMEOUT`: a channel not refreshed for 2 ms falls low (R437). -/
def execOutputRefreshTimeout (ch : Fin 4) (s : State) : Out :=
  .next (s.safChannelLow ch.val)

/-- `SFB_CLOCK_CHECK`: the SFB clock in kHz (R22). -/
def execSfbClockCheck (khz : Nat) (s : State) : Out :=
  .next (s.onlyIf (safRuns s && (decide (khz < 86400) || decide (105600 < khz))) (fun s =>
    if hasBit s.saf.fault 10 then s else (s.safInternal 10).safRaise Ev.SAF_CLOCK_FAULT 0))

/-! ## Writes that land in SFA (R447, R450, R451) -/

/-- `SAF_RESET_REQUEST` (R447). -/
def execSafResetRequest (data : Word) (s : State) : Out :=
  .next (s.onlyIf (safRuns s && acts data 0 && keyed data 0xA5)
    (fun s => { s with saf := { s.saf with request := true } }))

/-- A write of `SAF_LOCK` (R451). -/
def State.safLock (s : State) (data : Word) : State :=
  if s.saf.locked then s
  else if data.toNat = cfgCrc s.saf.a.cfg ∧ data.toNat = cfgCrc s.saf.b.cfg then
    let s : State := { s with saf := { s.saf with locked := true } }
    s.safRaise Ev.SAF_LOCKED 0
  else s.safRaise Ev.SAF_LOCK_REFUSED 0

/-- `SAF_LOCK_WRITE` (R451). -/
def execSafLockWrite (data : Word) (s : State) : Out := .next (s.onlyIf (safRuns s) (fun s => s.safLock data))

/-- A configuration write lands in SFA and is copied to SG[B] (R21, R450); not once locked (R451). -/
def State.safConfig (s : State) (reg : Nat) (data : Word) : State :=
  if s.saf.locked then s
  else
    let s := s.setReg (Reg.SAF_IN_CTL + 4 * reg) (safStored reg data)
    let c := safRegs s
    { s with saf := { s.saf with a := { s.saf.a with cfg := c }, b := { s.saf.b with cfg := c } } }

/-- `SAF_CONFIG_WRITE`: registers 0 to 3 are `SAF_IN_CTL`, `SAF_TD`, `SAF_RAMP` and `SAF_OUT_CTL` (R450). -/
def execSafConfigWrite (reg : Fin 4) (data : Word) (s : State) : Out :=
  .next (s.onlyIf (safRuns s) (fun s => s.safConfig reg.val data))

end Sys2Proof.Machine
end

