-- ==== Sys2Proof/Machine/Descriptors.lean ====
section
/-! DEFINITION. Descriptors (R174 to R189): the checks on acceptance in their order, and what each opcode but
QUERY does. -/

namespace Sys2Proof.Machine

/-! ## Frames (R186, R187) -/

/-- The target frame: the number nearest to the counter with the descriptor's low 32 bits (R186). One exactly half
the range away is taken as earlier or later as the free constant says (log entry 37). -/
def targetFrame (s : State) (d : Desc) : Int :=
  let n := s.scn.frame
  let diff : Nat := (d.word 2 % 2 ^ 32 + 2 ^ 32 - n % 2 ^ 32) % 2 ^ 32
  if diff < 2 ^ 31 ∨ (diff = 2 ^ 31 ∧ Config.either 37 n = false) then (n : Int) + diff
  else (n : Int) + diff - (2 ^ 32 : Nat)

/-- NOW (R174). -/
def Desc.now (d : Desc) : Bool := d.bits 0 10 1 == 1

/-- The effective frame, and whether it is later than the target (R187). -/
def effectiveFrame (s : State) (d : Desc) : Nat × Bool :=
  let first := s.scn.frame + 3
  if d.now then (first, false)
  else
    let t := targetFrame s d
    if t < (first : Int) then (first, true) else (t.toNat, false)

/-! ## Check 3: reserved bits and field ranges -/

/-- Words of the body from `i` on are 0. -/
def restZero (d : Desc) (i : Nat) : Bool := (List.range 16).all (fun k => decide (k < i) || d.word k == 0)

/-- Reserved header bits, and CHECK outside SURFACE_LOAD (R174). -/
def headerOk (d : Desc) : Bool :=
  d.bits 0 11 5 == 0 && d.bits 0 24 8 == 0 && (d.op == 1 || d.bits 0 9 1 == 0)

/-- The value of two words. -/
def Desc.long (d : Desc) (i : Nat) : Nat := d.word i + d.word (i + 1) * 2 ^ 32

/-- A layer index that legacy mode knows (R200). -/
def layerOk (s : State) (n : Nat) : Bool := !s.pwr.legacy || decide (n < 8)

/-- A plane's offset and pitch: 0 where the format has no such plane (R177). -/
def planeOk (d : Desc) (planes : List (Nat × Nat)) (i off pitch : Nat) : Bool :=
  match planes[i]? with
  | none => d.word off == 0 && d.word pitch == 0
  | some p => d.word off % 4 == 0 && d.word pitch % 4 == 0 && decide (p.1 ≤ d.word pitch)

/-- SURFACE_LOAD (R177, R232, R234). -/
def surfaceOk (d : Desc) : Bool :=
  let f := d.bits 5 0 8
  let w := d.bits 6 0 16
  let h := d.bits 6 16 16
  let planes := planesOf f w h
  d.word 4 != 0 && d.bits 5 10 22 == 0 && fmtValid f && d.bits 5 8 2 == planes.length &&
  decide (1 ≤ w) && decide (w ≤ 4096) && decide (1 ≤ h) && decide (h ≤ 4096) &&
  (fmtSub f == 0 || w % 2 == 0) && (fmtSub f != 2 || h % 2 == 0) &&
  d.word 7 == 0 && d.long 8 % 4 == 0 &&
  d.word 10 % 4 == 0 && decide ((planes.getD 0 (0, 0)).1 ≤ d.word 10) &&
  planeOk d planes 1 11 12 && planeOk d planes 2 13 14 && d.word 15 == 0

/-- FRAME_PRESENT (R179). -/
def presentOk (s : State) (d : Desc) : Bool :=
  d.bits 4 4 4 == 0 && d.bits 4 9 23 == 0 && layerOk s (d.bits 4 0 4) &&
  (d.bits 4 8 1 == 0 || d.word 5 == 0) && restZero d 6

/-- A group that VALID selects (R180). -/
def Desc.group (d : Desc) (i : Nat) : Bool := d.bits 14 i 1 == 1

/-- A component of KEY_LO (`i` = 10) or KEY_HI (`i` = 12). -/
def keyComp (d : Desc) (i k : Nat) : Nat := natBits (d.long i) (12 * k) 12

/-- A ratio of R241 lies from 1/4 to 4. -/
def ratioOk (dst src : Nat) : Bool := decide (src ≤ 4 * dst) && decide (dst ≤ 4 * src)

/-- LAYER_PARAM (R180, R243): groups that VALID does not select are not looked at. -/
def paramOk (s : State) (d : Desc) : Bool :=
  let dst := d.group 0
  let src := d.group 1
  let dw := d.bits 6 0 16
  let dh := d.bits 6 16 16
  let sw := d.bits 8 0 16
  let sh := d.bits 8 16 16
  d.bits 4 4 28 == 0 && layerOk s (d.bits 4 0 4) && d.bits 14 5 27 == 0 && d.word 15 == 0 &&
  (!(d.group 2 || d.group 3 || d.group 4) || d.bits 9 20 12 == 0) &&
  (!dst || (decide (1 ≤ dw) && decide (dw ≤ 16384) && decide (1 ≤ dh) && decide (dh ≤ 16384))) &&
  (!src || (decide (d.bits 7 0 16 ≤ 4095) && decide (d.bits 7 16 16 ≤ 4095) &&
    decide (1 ≤ sw) && decide (sw ≤ 4096) && decide (1 ≤ sh) && decide (sh ≤ 4096))) &&
  (!(dst && src) || (ratioOk dw sw && ratioOk dh sh)) &&
  (!d.group 4 || (natBits (d.long 10) 36 28 == 0 && natBits (d.long 12) 36 28 == 0 &&
    (List.range 3).all (fun k => decide (keyComp d 10 k ≤ keyComp d 12 k))))

/-- BRIGHTNESS (R181). -/
def brightnessOk (d : Desc) : Bool :=
  d.bits 4 16 16 == 0 && d.bits 5 14 18 == 0 && decide (d.bits 5 0 14 ≤ 10000) && restZero d 6

/-- CLIP_DEFINE (R182). -/
def clipDefineOk (d : Desc) : Bool :=
  d.bits 4 8 24 == 0 && d.bits 4 0 8 != 0 && d.bits 5 13 3 == 0 && d.bits 5 17 15 == 0 &&
  decide (1 ≤ d.bits 5 0 13) && decide (d.bits 5 0 13 ≤ 4096) && d.long 6 % 8 == 0 && restZero d 8

/-- Entries of a clip: of a list still being read where the clip is being defined (R216). -/
def clipCount (s : State) (c id : Nat) : Option Nat :=
  match ((vget s.ctx c).clipReads.filter (fun r => r.id == id)).getLast? with
  | some r => some r.count
  | none => (findClip s c id).map (fun k => k.entries.length)

/-- CLIP_PLAY (R182, R216). -/
def clipPlayOk (s : State) (c : Nat) (d : Desc) : Bool :=
  d.bits 4 12 4 == 0 && d.bits 4 17 15 == 0 && layerOk s (d.bits 4 8 4) && d.bits 5 13 19 == 0 && restZero d 6 &&
  (d.bits 4 16 1 == 1 || (match clipCount s c (d.bits 4 0 8) with
    | none => true
    | some n => decide (d.bits 5 0 13 < n)))

/-- TABLE_LOAD (R183). -/
def tableLoadOk (s : State) (d : Desc) : Bool :=
  let t := d.bits 4 0 8
  decide (1 ≤ t) && decide (t ≤ 4) && d.bits 4 8 23 == 0 && d.word 5 == 0 && d.long 6 % 4 == 0 &&
  decide (4 ≤ d.word 8) && d.word 8 % 4 == 0 && d.word 9 % 4 == 0 &&
  decide (d.word 9 + d.word 8 ≤ 4 * tableWords s t) && restZero d 10

/-- QUERY (R184). -/
def queryOk (d : Desc) : Bool :=
  let item := d.bits 4 0 8
  d.bits 4 8 24 == 0 && decide (item ≤ 4) && (item == 1 || item == 3 || d.word 5 == 0) && d.long 6 % 4 == 0 &&
  decide (4 ≤ d.word 8) && decide (d.word 8 ≤ 4096) && d.word 8 % 4 == 0 && restZero d 9

/-- FENCE (R185). -/
def fenceOk (d : Desc) : Bool := decide (d.bits 4 0 2 ≤ 2) && d.bits 4 2 30 == 0 && restZero d 5

/-- Check 3 of R176. -/
def fieldsOk (s : State) (c : Nat) (d : Desc) : Bool :=
  headerOk d &&
  (if d.op = 0 then restZero d 4
   else if d.op = 1 then surfaceOk d
   else if d.op = 2 then presentOk s d
   else if d.op = 3 then paramOk s d
   else if d.op = 4 then brightnessOk d
   else if d.op = 5 then clipDefineOk d
   else if d.op = 6 then clipPlayOk s c d
   else if d.op = 7 then tableLoadOk s d
   else if d.op = 8 then queryOk d
   else fenceOk d)

/-! ## Checks 4 and 5 -/

/-- The layer that a descriptor names. -/
def Desc.layer (d : Desc) : Nat := if d.op = 6 then d.bits 4 8 4 else d.bits 4 0 4

/-- The context is the owner host (R166). -/
def isOwner (s : State) (c : Nat) : Bool := s.rfld Reg.RAC_OWNER 0 3 == c

/-- Check 4: rights (R166, R198). -/
def rightsOk (s : State) (c : Nat) (d : Desc) : Bool :=
  if d.op = 2 ∨ d.op = 3 ∨ d.op = 6 then hasBit (layerRights s c) d.layer
  else if d.op = 4 ∨ d.op = 7 then isOwner s c && ctxActive s c
  else true

/-- Check 5: the handle or clip is known to the context. -/
def knownOk (s : State) (c : Nat) (d : Desc) : Bool :=
  if d.op = 2 then
    d.bits 4 8 1 == 1 || (findSurface s c (d.word 5)).isSome ||
      (vget s.ctx c).ingests.any (fun g => g.handle == d.word 5)
  else if d.op = 6 then (clipCount s c (d.bits 4 0 8)).isSome
  else true

/-! ## Acceptance (R176) -/

/-- The descriptor that is accepted next: none while a fence of mode 0 or 2 is in force (R185), nor in stand-by (R81). -/
def nextDesc (s : State) (c : Nat) : Option Desc :=
  let q := vget s.ctx c
  if s.awake && ctxEnabled s c && !q.fences.any (fun f => f.mode != 1) then q.fetched.head? else none

/-- Refused at checks 2 to 5. -/
def State.refuse (s : State) (c : Nat) (d : Desc) (status : Nat) : State :=
  ((s.complete c d status).hcxErr c 1).raise .core Ev.DESC_REJECTED c

/-- Check 1: ALIVE continues the sequence. -/
def aliveOk (s : State) (c : Nat) (d : Desc) : Bool :=
  hcxCtl s c 6 1 == 0 ||
    (match (vget s.ctx c).alive with
     | none => true
     | some a => d.bits 0 16 8 == (a + 1) % 256)

/-- The checks in their order; `run` is what a descriptor that passes them does. -/
def State.accept (s : State) (c : Nat) (d : Desc) (run : Desc → State → State) : State :=
  let good := aliveOk s c d
  let s := s.modCtx c (fun q => { q with fetched := q.fetched.drop 1, alive := some (d.bits 0 16 8) })
  if !good then ((s.complete c d stAlive).hcxErr c 0).raise .core Ev.DESC_ALIVE c
  else if 9 < d.op then s.refuse c d stBadOpcode
  else if !fieldsOk s c d then s.refuse c d stBadField
  else if !rightsOk s c d then s.refuse c d stNoRights
  else if !knownOk s c d then s.refuse c d stNoHandle
  else run d s

/-- A descriptor command: it acts where the next descriptor of the context has its opcode. -/
def State.descriptor (s : State) (c : Nat) (isOp : Nat → Bool) (run : Desc → State → State) : State :=
  match nextDesc s c with
  | none => s
  | some d => if isOp d.op then s.accept c d run else s

/-- The latest target frame for failover: of a FRAME_PRESENT or a NOP with a target frame (R197). -/
def State.noteTarget (s : State) (c : Nat) (d : Desc) : State :=
  if d.now then s
  else (let t := (targetFrame s d).toNat; s.modCtx c (fun q => { q with latest := some t }))

/-- A frame-bound descriptor becomes pending (R187). -/
def State.pendDesc (s : State) (c : Nat) (d : Desc) (waits : Option Nat) : State :=
  let e := effectiveFrame s d
  s.modCtx c (fun q => { q with
    pend := q.pend ++ [{ d := d, frame := e.1, late := e.2, waits := waits, failed := none, shadow := !ctxActive s c }] })

/-- `DESCRIPTOR_BAD_OPCODE` (R175). -/
def execDescriptorBadOpcode (c : Fin 4) (s : State) : Out :=
  .next (s.descriptor c (fun o => decide (9 < o)) (fun _ s => s))

/-- `NOP` (R185). -/
def execNop (c : Fin 4) (s : State) : Out :=
  .next (s.descriptor c (· == 0) (fun d s => (s.noteTarget c d).complete c d stOk))

/-- A fresh number for a load. -/
def State.serial (s : State) : Nat × State :=
  (s.cur.nextSerial, { s with cur := { s.cur with nextSerial := s.cur.nextSerial + 1 } })

/-- A SURFACE_LOAD: it starts, or waits for an earlier load of its handle (R204, R206). -/
def State.surfaceLoad (s : State) (c : Nat) (d : Desc) : State :=
  let r := s.serial
  let g : Ingest := { serial := r.1, d := d, handle := d.word 4, queued := true, pages := noPages,
                      size := surfaceBytes (d.bits 5 0 8) (d.bits 6 0 16) (d.bits 6 16 16),
                      read := { todo := surfaceReads d } }
  let busy := (vget s.ctx c).ingests.any (fun x => x.handle == g.handle)
  let s := r.2.modCtx c (fun q => { q with ingests := q.ingests ++ [g] })
  if busy then s else s.ingestStart c g

/-- `SURFACE_LOAD` (R177). -/
def execSurfaceLoad (c : Fin 4) (s : State) : Out :=
  .next (s.descriptor c (· == 1) (fun d s => s.surfaceLoad c d))

/-- `FRAME_PRESENT`: it waits for the latest load of its handle that is earlier in the ring (R179). -/
def execFramePresent (c : Fin 4) (s : State) : Out :=
  .next (s.descriptor c (· == 2) (fun d s =>
    let w := if d.bits 4 8 1 = 1 then none
             else ((vget s.ctx c).ingests.filter (fun g => g.handle == d.word 5)).getLast?.map (·.serial)
    (s.noteTarget c d).pendDesc c d w))

/-- `LAYER_PARAM` (R180). -/
def execLayerParam (c : Fin 4) (s : State) : Out :=
  .next (s.descriptor c (· == 3) (fun d s => s.pendDesc c d none))

/-- `BRIGHTNESS` (R181). -/
def execBrightness (c : Fin 4) (s : State) : Out :=
  .next (s.descriptor c (· == 4) (fun d s => s.pendDesc c d none))

/-- `CLIP_DEFINE`: its list is read (R182). -/
def execClipDefine (c : Fin 4) (s : State) : Out :=
  .next (s.descriptor c (· == 5) (fun d s =>
    let r := s.serial
    let n := d.bits 5 0 13
    let g : ClipRead := { serial := r.1, d := d, id := d.bits 4 0 8, loop := d.bits 5 16 1 == 1, count := n,
                          read := { todo := readChunks (d.long 6) (8 * n) } }
    (r.2.modCtx c (fun q => { q with clipReads := q.clipReads ++ [g] })).readPump c))

/-- The entries of a clip list: handle and hold time (R182). -/
def clipEntries : List Nat → List (Nat × Nat)
  | a :: b :: c :: d :: e :: f :: _ :: _ :: rest => (ofBytesLE [a, b, c, d], ofBytesLE [e, f]) :: clipEntries rest
  | _ => []

/-- A clip plays on a layer, live or in the shadow of its context. -/
def clipPlays (s : State) (c id : Nat) : Bool :=
  let on := fun (p : Option Play) => p.any (fun x => x.ctx == c && x.clip == id)
  (List.range 16).any (fun n => on (vget s.layer n).play || on (vget (vget s.ctx c).shadow n).play)

/-- A clip defined: at once, or at the next boundary while it plays (R182, R218). -/
def State.defineClip (s : State) (c : Nat) (k : Clip) : State :=
  let put := fun (l : List Clip) => l.filter (fun x => x.id != k.id) ++ [k]
  if clipPlays s c k.id then s.modCtx c (fun q => { q with clipNext := put q.clipNext })
  else s.modCtx c (fun q => { q with clips := put q.clips })

/-- `CLIP_LIST_CHECKED`: the oldest list that has been read whole (R182, R218). -/
def execClipListChecked (c : Fin 4) (s : State) : Out :=
  match (vget s.ctx c).clipReads.find? (fun g => g.read.done) with
  | none => .next s
  | some g =>
    let es := clipEntries g.read.bytes
    let s := s.modCtx c (fun q => { q with clipReads := q.clipReads.filter (fun x => x.serial != g.serial) })
    if es.any (fun e => e.2 == 0) then .next (s.complete c g.d stBadField)
    else if es.any (fun e => (findSurface s c e.1).isNone) then .next (s.complete c g.d stNoHandle)
    else .next ((s.defineClip c { id := g.id, loop := g.loop, entries := es }).complete c g.d stOk)

/-- `CLIP_PLAY` (R182). -/
def execClipPlay (c : Fin 4) (s : State) : Out :=
  .next (s.descriptor c (· == 6) (fun d s => s.pendDesc c d none))

/-- `TABLE_LOAD`: its data is read, or it waits for the bank copy of its table (R183). -/
def execTableLoad (c : Fin 4) (s : State) : Out :=
  .next (s.descriptor c (· == 7) (fun d s =>
    let r := s.serial
    let e := effectiveFrame s d
    let t := d.bits 4 0 8
    let g : TableLoad := { serial := r.1, d := d, table := t, offset := d.word 9, swap := d.bits 4 31 1 == 1,
                           frame := e.1, late := e.2, queued := (tableOf s t).copying, length := d.word 8,
                           read := { todo := readChunks (d.long 6) (d.word 8) } }
    (r.2.modCtx c (fun q => { q with tloads := q.tloads ++ [g] })).readPump c))

/-- `TABLE_LOAD_DATA_DONE`: the load completes, or its swap waits for its frame (R183). -/
def execTableLoadDataDone (c : Fin 4) (serial : Nat) (s : State) : Out :=
  match (vget s.ctx c).tloads.find? (fun g => g.serial == serial) with
  | none => .next s
  | some g =>
    if g.queued || !g.read.done then .next s
    else
      let s := s.modCtx c (fun q => { q with tloads := q.tloads.filter (fun x => x.serial != serial) })
      if g.swap then
        .next { s with pix := { s.pix with swaps := s.pix.swaps ++
          [{ table := g.table, frame := g.frame, late := g.late, ctx := some c.val, d := g.d }] } }
      else .next (s.complete c g.d stOk)

/-- `TABLE_BANK_COPY_DONE`: the copy of R183 ends; loads that wait for it go on, with what has arrived for them meanwhile. -/
def execTableBankCopyDone (t : Nat) (s : State) : Out :=
  if t = 0 ∨ 4 < t then .fault (.illFormed "TABLE_BANK_COPY_DONE")
  else if (tableOf s t).copying then
    let s := s.copyTable t
    .next ((List.range 4).foldl (fun (s : State) c =>
      let kept := ((vget s.ctx c).tloads.filter (fun g => g.table == t)).flatMap (·.kept)
      let s := kept.foldl (fun (s : State) x => s.putTableBytes t x.1 x.2) s
      (s.modCtx c (fun q => { q with
        tloads := q.tloads.map (fun g => if g.table = t then { g with queued := false, kept := [] } else g) })).readPump c) s)
  else .next s

/-! ## Fences (R185) -/

/-- Every earlier descriptor of the context has completed; `older` are the fences before this one. -/
def earlierDone (s : State) (c : Nat) (older : List Fence) : Bool :=
  let q := vget s.ctx c
  older.isEmpty && q.pend.isEmpty && q.ingests.isEmpty && q.tloads.isEmpty && q.clipReads.isEmpty &&
    q.queries.isEmpty && !s.pix.swaps.any (fun r => r.ctx == some c)

/-- A fence's condition holds. -/
def fenceHolds (s : State) (c : Nat) (older : List Fence) (f : Fence) : Bool :=
  (f.mode == 1 || earlierDone s c older) && (f.mode == 0 || decide (f.frame ≤ s.scn.frame))

/-- The first fence whose condition holds. -/
def fenceReady (s : State) (c : Nat) : List Fence → List Fence → Option Fence
  | _, [] => none
  | older, f :: fs => if fenceHolds s c older f then some f else fenceReady s c (older ++ [f]) fs

/-- The first fence of a context whose condition holds completes. -/
def State.fenceStep (s : State) (c : Nat) : State :=
  match fenceReady s c [] (vget s.ctx c).fences with
  | none => s
  | some f =>
    (s.modCtx c (fun q => { q with fences := q.fences.erase f })).complete c f.d stOk
      (if f.mode = 0 then 0 else f.frame) f.late

/-- `FENCE` (R185). -/
def execFence (c : Fin 4) (s : State) : Out :=
  .next (s.descriptor c (· == 9) (fun d s =>
    let m := d.bits 4 0 2
    let e := effectiveFrame s d
    let f : Fence := { d := d, mode := m, frame := e.1, late := m != 0 && e.2 }
    s.modCtx c (fun q => { q with fences := q.fences ++ [f] })))

/-- `FENCE_COMPLETE` (R185). -/
def execFenceComplete (c : Fin 4) (s : State) : Out := .next (s.fenceStep c)

end Sys2Proof.Machine
end

