-- ==== Sys2Proof/Machine/Layers.lean ====
section
/-! DEFINITION. Layers at the frame boundary (R197 to R199, R212, R216 to R218, R230, R243, R249 to R256, R519):
failover, clips, the resolution of what is due, holding, sync groups, Vitrine runs, and the LAY registers. -/

namespace Sys2Proof.Machine

/-! ## Pending descriptors -/

/-- A pending descriptor with its context and its place in the context's list. -/
structure Due where
  ctx : Nat
  at' : Nat
  p : Pend
  deriving DecidableEq, Repr

/-- A pending descriptor resolved at the deadline of frame `k` (R187, R189); one accepted in shadow completes with SHADOW
(R199). -/
def Pend.resolve (p : Pend) (k status : Nat) (shadow : Bool) : Pend :=
  { p with frame := max p.frame k, late := p.late || decide (p.frame < k), done := some (status, p.shadow || shadow) }

/-- A due descriptor resolved. -/
def State.resolveDue (s : State) (k : Nat) (x : Due) (status : Nat) : State :=
  let sh := !ctxActive s x.ctx
  s.modCtx x.ctx (fun q => { q with pend := lmod q.pend x.at' (fun p => p.resolve k status sh) })

/-- Several due descriptors resolved with one status. -/
def State.resolveAll (s : State) (k : Nat) (l : List Due) (status : Nat) : State :=
  l.foldl (fun (s : State) x => s.resolveDue k x status) s

/-- The descriptors of a context that are due for frame `k` and pass a test, in ring order. -/
def dueIn (s : State) (k c : Nat) (ok : Desc → Bool) : List Due :=
  (((vget s.ctx c).pend.zipIdx).filter (fun x => x.1.done.isNone && decide (x.1.frame ≤ k) && ok x.1.d)).map
    (fun x => { ctx := c, at' := x.2, p := x.1 })

/-- The contexts that drive layers. -/
def activeCtxs (s : State) : List Nat := (List.range 4).filter (ctxActive s)

/-- The due descriptors of all driving contexts. -/
def dueLive (s : State) (k : Nat) (ok : Desc → Bool) : List Due :=
  (activeCtxs s).flatMap (fun c => dueIn s k c ok)

/-- FRAME_PRESENT or CLIP_PLAY for a layer. -/
def isContent (n : Nat) (d : Desc) : Bool := (d.op == 2 || d.op == 6) && d.layer == n

/-- LAYER_PARAM for a layer. -/
def isParam (n : Nat) (d : Desc) : Bool := d.op == 3 && d.layer == n

/-- Descriptors for layers whose right has been withdrawn complete with NO_RIGHTS at their frame (R165). -/
def State.noRightsDue (s : State) (k : Nat) : State :=
  (List.range 4).foldl (fun (s : State) c =>
    s.resolveAll k (dueIn s k c (fun d =>
      (d.op == 2 || d.op == 3 || d.op == 6) && !hasBit (layerRights s c) d.layer)) stNoRights) s

/-! ## LAYER_PARAM (R180) -/

/-- The groups that a LAYER_PARAM selects, merged into a layer's settings (R188). -/
def LayerSet.param (x : LayerSet) (d : Desc) : LayerSet :=
  let x := if d.group 0 then { x with dx := sext 16 (d.bits 5 0 16), dy := sext 16 (d.bits 5 16 16),
                                      dw := d.bits 6 0 16, dh := d.bits 6 16 16 } else x
  let x := if d.group 1 then { x with sx := d.bits 7 0 16, sy := d.bits 7 16 16,
                                      sw := d.bits 8 0 16, sh := d.bits 8 16 16 } else x
  let x := if d.group 2 then { x with prio := d.bits 9 0 4, sync := d.bits 9 4 4 } else x
  let x := if d.group 3 then { x with fade := d.bits 9 8 10 } else x
  if d.group 4 then
    { x with keyEn := d.bits 9 18 1 == 1, keyYcc := d.bits 9 19 1 == 1,
             keyLo := (List.range 3).map (keyComp d 10), keyHi := (List.range 3).map (keyComp d 12) }
  else x

/-- The groups of `y` in a mask, over `x`; handle and blank are those of `x`. -/
def LayerSet.merge (x y : LayerSet) (mask : Nat) : LayerSet :=
  let x := if hasBit mask 0 then { x with dx := y.dx, dy := y.dy, dw := y.dw, dh := y.dh } else x
  let x := if hasBit mask 1 then { x with sx := y.sx, sy := y.sy, sw := y.sw, sh := y.sh } else x
  let x := if hasBit mask 2 then { x with prio := y.prio, sync := y.sync } else x
  let x := if hasBit mask 3 then { x with fade := y.fade } else x
  if hasBit mask 4 then { x with keyEn := y.keyEn, keyYcc := y.keyYcc, keyLo := y.keyLo, keyHi := y.keyHi } else x

/-! ## Clips (R216 to R218) -/

/-- One frame of a clip: what plays on, the handle that an advance shows, and whether the clip ends. -/
def playStep (s : State) (p : Play) : Option Play × Option Nat × Bool :=
  if 1 < p.left then (some { p with left := p.left - 1 }, none, false)
  else
    match findClip s p.ctx p.clip with
    | none => (none, none, true)
    | some k =>
      let go := fun (i : Nat) =>
        match k.entries[i]? with
        | none => (none, none, true)
        | some e => (some { p with entry := i, left := e.2 }, some e.1, false)
      if p.entry + 1 < k.entries.length then go (p.entry + 1)
      else if k.loop then go 0 else (none, none, true)

/-- A clip advances while it has more than one entry. -/
def clipAdvances (s : State) (p : Play) : Bool :=
  match findClip s p.ctx p.clip with
  | none => false
  | some k => decide (1 < k.entries.length)

/-- The clip of a layer goes on by one frame (R216); every advance is a change (R212). -/
def State.clipLayer (s : State) (n : Nat) : State :=
  match (vget s.layer n).play with
  | none => s.modLayer n (fun x => { x with before := none })
  | some p =>
    let r := playStep s p
    let s := s.modLayer n (fun x =>
      let x : LayerState := { x with before := some x.set.handle, play := r.1 }
      match r.2.1 with
      | none => x
      | some h => { x with set := { x.set with handle := h, blank := false }, driver := some p.ctx, changed := true })
    if r.2.2 then s.raise .core Ev.CLIP_END p.ctx (p.clip + n * 256) else s

/-- The clip of a shadow layer goes on by one frame. -/
def State.clipShadow (s : State) (c n : Nat) : State :=
  match (vget (vget s.ctx c).shadow n).play with
  | none => s.modCtx c (fun q => { q with shadow := vmod q.shadow n (fun x => { x with before := none }) })
  | some p =>
    let r := playStep s p
    s.modCtx c (fun q => { q with shadow := vmod q.shadow n (fun x =>
      let x : ShadowLayer := { x with before := some x.set.handle, play := r.1 }
      match r.2.1 with
      | none => x
      | some h => { x with set := { x.set with handle := h, blank := false } }) })

/-- Redefinitions of playing clips take effect (R218). -/
def State.clipRedefine (s : State) (c : Nat) : State :=
  s.modCtx c (fun q => { q with
    clipNext := []
    clips := q.clips.filter (fun x => !q.clipNext.any (fun y => y.id == x.id)) ++ q.clipNext })

/-- Clips at a frame boundary, held compositions included: hold times count frame numbers. -/
def State.clipBoundary (s : State) : State :=
  let s := (List.range 4).foldl (fun (s : State) c => s.clipRedefine c) s
  let s := (List.range 16).foldl (fun (s : State) n => s.clipLayer n) s
  (List.range 4).foldl (fun (s : State) c =>
    if ctxActive s c then s else (List.range 16).foldl (fun (s : State) n => s.clipShadow c n) s) s

/-! ## Failover (R197 to R199, R519) -/

/-- A context has a miss at the deadline of frame `k` (R197). -/
def missed (s : State) (c k : Nat) : Bool :=
  match (vget s.ctx c).latest with
  | none => true
  | some t => decide (t < k)

/-- The misses of one context counted at the deadline of frame `k`. -/
def State.countMiss (s : State) (c k : Nat) : State :=
  let m := missed s c k
  s.modCtx c (fun q => { q with
    misses := if m then q.misses + 1 else 0, clean := if m then 0 else min 65535 (q.clean + 1) })

/-- The pair changes over from `old` to `new` (R198): shadow state becomes live, and the old context runs in shadow. -/
def State.switchLayer (s : State) (old new n : Nat) : State :=
  let x := vget s.layer n
  let sh := vget (vget s.ctx new).shadow n
  let own := x.driver == some old
  let mine : ShadowLayer := { set := x.set, play := if own then x.play else none, given := own, groups := 31 }
  let s := s.modCtx old (fun q => { q with shadow := vset q.shadow n mine })
  let s := s.modCtx new (fun q => { q with shadow := vset q.shadow n {} })
  if !sh.given then
    s.modLayer n (fun x => { x with set := x.set.merge sh.set sh.groups,
                                    changed := x.changed || x.set != x.set.merge sh.set sh.groups })
  else if sh.set.blank || (findSurface s new sh.set.handle).isSome then
    s.modLayer n (fun x => { x with set := sh.set, play := sh.play, driver := some new, changed := true,
                                    loadFailed := false, await := none })
  else
    s.modLayer n (fun x => { x with set := { sh.set with handle := x.set.handle, blank := x.set.blank },
                                    await := some (new, sh.set.handle) })

/-- What the old context holds unresolved for frame `k` and later completes with ABORTED (R198). -/
def State.abortOld (s : State) (old k : Nat) : State :=
  let q := vget s.ctx old
  let fences := q.fences.filter (fun f => f.mode != 0 && decide (k ≤ f.frame))
  let loads := q.tloads.filter (fun g => g.swap)
  let swaps := s.pix.swaps.filter (fun r => r.ctx == some old)
  let pends := q.pend.filter (fun p => p.done.isNone)
  let s := s.modCtx old (fun q => { q with
    pend := q.pend.filter (fun p => p.done.isSome), fences := q.fences.filter (fun f => !fences.contains f),
    tloads := q.tloads.filter (fun g => !g.swap) })
  let s : State := { s with pix := { s.pix with swaps := s.pix.swaps.filter (fun r => r.ctx != some old) } }
  let s := pends.foldl (fun (s : State) p => s.complete old p.d stAborted p.frame p.late) s
  let s := fences.foldl (fun (s : State) f => s.complete old f.d stAborted f.frame f.late) s
  let s := loads.foldl (fun (s : State) g => (s.dropLoad old g.serial).complete old g.d stAborted g.frame g.late) s
  swaps.foldl (fun (s : State) r => s.complete old r.d stAborted r.frame r.late) s

/-- The changeover of a pair at the deadline of frame `k`, with its event (R198, R199). -/
def State.switchPair (s : State) (old new k : Nat) (ev : EvKind) : State :=
  let rights := layerRights s new
  let s := s.abortOld old k
  let s := (List.range 16).foldl (fun (s : State) n => if hasBit rights n then s.switchLayer old new n else s) s
  let s := (s.modCtx old (fun q => { q with pairActive := false })).modCtx new (fun q => { q with pairActive := true })
  let s := if bitOf (s.reg (hcx Reg.HCX_FO_CTL old)) 8 && s.rfld Reg.RAC_OWNER 0 3 == old
           then s.setRfld Reg.RAC_OWNER 0 3 new else s
  ((s.hcxErr old 5).hcxErr new 5).raise .core ev new old new

/-- MISS of a context (R197). -/
def missLimit (s : State) (c : Nat) : Nat := max 1 (s.rfld (hcx Reg.HCX_FO_CTL c) 0 4)

/-- One pair, named by its primary, at the deadline of frame `k`; only an enabled context is switched to (log entry 39). -/
def State.pairDeadline (s : State) (pri sec k : Nat) : State :=
  let s := (s.countMiss pri k).countMiss sec k
  let act := if (vget s.ctx pri).pairActive then pri else sec
  let oth := if act = pri then sec else pri
  let asked := (vget s.ctx pri).switchReq || (vget s.ctx sec).switchReq
  let s := (s.modCtx pri (fun q => { q with switchReq := false })).modCtx sec (fun q => { q with switchReq := false })
  let othGood := ctxEnabled s oth && !missed s oth k
  if missLimit s act ≤ (vget s.ctx act).misses ∧ othGood then s.switchPair act oth k Ev.FAILOVER
  else if asked ∧ othGood then s.switchPair act oth k (if oth = pri then Ev.FAILBACK else Ev.FAILOVER)
  else if act = sec ∧ ctxEnabled s pri = true ∧ bitOf (s.reg (hcx Reg.HCX_FO_CTL pri)) 9 ∧ 64 ≤ (vget s.ctx pri).clean then
    s.switchPair act oth k Ev.FAILBACK
  else s

/-- Every pair at the deadline of frame `k` (R197 to R199). -/
def State.failoverDeadline (s : State) (k : Nat) : State :=
  (List.range 4).foldl (fun (s : State) c =>
    match pairOf s c with
    | none => s
    | some d => if hcxRole s c = 1 then s.pairDeadline c d k else s) s

/-! ## Deciding (R249) -/

/-- What the last due FRAME_PRESENT or CLIP_PLAY of a layer comes to. -/
inductive Decide where
  | nothing
  | wait
  | fail (status : Nat)
  | refuse (status : Nat)
  | blank (c : Nat)
  | present (c h : Nat)
  | play (c clip start : Nat)
  | stop
  deriving DecidableEq, Repr

/-- The deciding descriptor looked at. -/
def decideOf (s : State) (x : Due) : Decide :=
  let d := x.p.d
  if d.op = 6 then
    match findClip s x.ctx (d.bits 4 0 8) with
    | none => .refuse stNoHandle
    | some k =>
      if d.bits 4 16 1 = 1 then .stop
      else if d.bits 5 0 13 < k.entries.length then .play x.ctx k.id (d.bits 5 0 13) else .refuse stBadField
  else if d.bits 4 8 1 = 1 then .blank x.ctx
  else
    match x.p.waits, x.p.failed with
    | some _, _ => .wait
    | none, some st => .fail st
    | none, none => if (findSurface s x.ctx (d.word 5)).isSome then .present x.ctx (d.word 5) else .refuse stNoHandle

/-- A decision that takes effect. -/
def Decide.takes : Decide → Bool
  | .blank _ => true
  | .present _ _ => true
  | .play _ _ _ => true
  | .stop => true
  | _ => false

/-- The completion status of a decision. -/
def Decide.status : Decide → Option Nat
  | .nothing => none
  | .wait => none
  | .fail st => some st
  | .refuse st => some st
  | _ => some stOk

/-- A decision put into a layer's settings and clip (R179, R216, R217); a clip that stops leaves the handle of the frame
before, `before` where it has advanced at this boundary. -/
def Decide.act (s : State) (x : Decide) (set : LayerSet) (play : Option Play) (before : Option Nat) :
    LayerSet × Option Play :=
  match x with
  | .blank _ => ({ set with handle := 0, blank := true }, none)
  | .present _ h => ({ set with handle := h, blank := false }, none)
  | .play c id i =>
    match (findClip s c id).bind (fun k => k.entries[i]?) with
    | none => (set, play)
    | some e => ({ set with handle := e.1, blank := false }, some { ctx := c, clip := id, entry := i, left := e.2 })
  | .stop => ({ set with handle := before.getD set.handle }, none)
  | _ => (set, play)

/-- The context whose content a decision brings. -/
def Decide.driver (x : Decide) (old : Option Nat) : Option Nat :=
  match x with
  | .blank c => some c
  | .present c _ => some c
  | .play c _ _ => some c
  | _ => old

/-! ## Shadow state (R198) -/

/-- The due descriptors of an inactive context for one layer go into its shadow state. -/
def State.shadowLayer (s : State) (c k n : Nat) : State :=
  let params := dueIn s k c (isParam n)
  let content := dueIn s k c (isContent n)
  let s := params.foldl (fun (s : State) x => s.modCtx c (fun q => { q with
    shadow := vmod q.shadow n (fun y => { y with set := y.set.param x.p.d, groups := y.groups ||| x.p.d.bits 14 0 5 }) })) s
  let s := s.resolveAll k params stOk
  match content.getLast? with
  | none => s
  | some x =>
    let d := decideOf s x
    let s := s.resolveAll k content.dropLast stSuperseded
    let s := if d.takes then
        s.modCtx c (fun q => { q with shadow := vmod q.shadow n (fun y =>
          let r := d.act s y.set y.play y.before
          { y with set := r.1, play := r.2, given := true }) })
      else s
    match d.status with
    | none => s
    | some st => s.resolveDue k x st

/-- The inactive contexts at the deadline of frame `k`. -/
def State.shadowDeadline (s : State) (k : Nat) : State :=
  (List.range 4).foldl (fun (s : State) c =>
    if ctxActive s c then s else (List.range 16).foldl (fun (s : State) n => s.shadowLayer c k n) s) s

/-! ## Holding (R250 to R252) -/

/-- `LAY_CTL.EN` as written, and 0 for LY[8] to LY[15] in legacy mode (R255). -/
def layEn (s : State) (n : Nat) : Bool :=
  bitOf (s.reg (inst Reg.LAY_CTL 0x100 n)) 0 && !(s.pwr.legacy && decide (8 ≤ n))

/-- `LAY_HOLD_LIMIT`. -/
def holdLimit (s : State) (n : Nat) : Nat := s.rfld (inst Reg.LAY_HOLD_LIMIT 0x100 n) 0 16

/-- The context that drives a layer: enabled, active in its pair, with the right. -/
def driverOf (s : State) (n : Nat) : Option Nat :=
  (activeCtxs s).find? (fun c => ctxEnabled s c && hasBit (layerRights s c) n)

/-- What the deadline finds for one layer. -/
structure LayPlan where
  content : List Due
  params : List Due
  dec : Decide
  cause : Option Nat
  stale : Bool
  hold : Nat
  deriving DecidableEq, Repr

/-- The port of the context that drives a layer is not UP (R250). -/
def driverDown (s : State) (n : Nat) : Bool :=
  match driverOf s n with
  | none => false
  | some c => !portUp s c

/-- The layer is blank after a decision. -/
def Decide.blanks (x : Decide) (was : Bool) : Bool :=
  match x with
  | .blank _ => true
  | .present _ _ => false
  | .play _ _ _ => false
  | _ => was

/-- Whether a cause of R250 holds for a layer that is not stale and for which nothing takes effect. -/
def causeHolds (s : State) (n : Nat) (x : LayerState) (dec : Decide) (params : List Due) (cause : Nat) : Bool :=
  if cause = 0 then
    dec == .wait || (match x.await with | none => false | some a => (findSurface s a.1 a.2).isNone)
  else if cause = 1 then (match dec with | .fail _ => true | _ => x.loadFailed)
  else
    params.isEmpty && !x.set.blank && x.play.isNone && driverDown s n

/-- The hold cause of a layer: the one in force while it holds, otherwise the lowest that does. A layer held for its port
stays so until the port is UP, whatever takes effect, but a blank one is not held (R250; log entry 92). -/
def holdCause (s : State) (n : Nat) (x : LayerState) (dec : Decide) (params : List Due) : Option Nat :=
  if x.held == some 2 && driverDown s n then (if dec.blanks x.set.blank then none else some 2)
  else if dec.takes || x.stale then none
  else
    let holds := causeHolds s n x dec params
    match x.held with
    | some c => if holds c then some c else [0, 1, 2].find? holds
    | none => [0, 1, 2].find? holds

/-- The plan of layer `n` for frame `k`. -/
def layPlan (s : State) (k n : Nat) : LayPlan :=
  let x := vget s.layer n
  let content := dueLive s k (isContent n)
  let params := dueLive s k (isParam n)
  let dec := match content.getLast? with
    | none => Decide.nothing
    | some d => decideOf s d
  let cause := holdCause s n x dec params
  let hold := if cause.isSome && layEn s n then min 65535 (x.hold + 1) else x.hold
  { content := content, params := params, dec := dec, cause := cause, hold := hold,
    stale := cause.isSome && layEn s n && holdLimit s n != 0 && decide (holdLimit s n < x.hold + 1) }

/-- A LAYER event (R256). -/
def State.layEvent (s : State) (n : Nat) (k : EvKind) (cause : Nat) : State :=
  let x := vget s.layer n
  s.raise .core k n x.set.handle (cause + x.set.sync * 256)

/-- A ratio breaks R241 with a destination that covers something (R243). -/
def badRatio (x : LayerSet) : Bool :=
  x.dw != 0 && x.dh != 0 && !(ratioOk x.dw x.sw && ratioOk x.dh x.sh)

/-- The parameters of a plan take effect (R188). -/
def State.takeParams (s : State) (k n : Nat) (params : List Due) : State :=
  let s := params.foldl (fun (s : State) d => s.modLayer n (fun x =>
    { x with set := x.set.param d.p.d, changed := x.changed || x.set.param d.p.d != x.set })) s
  s.resolveAll k params stOk

/-- The decision of a plan takes effect or fails (R249, R250, R252). -/
def State.takeDecision (s : State) (k n : Nat) (p : LayPlan) : State :=
  let s := match p.content.getLast?, p.dec.status with
    | some d, some st => s.resolveDue k d st
    | _, _ => s
  match p.dec with
  | .fail _ => s.modLayer n (fun x => { x with loadFailed := true })
  | _ =>
    if p.dec.takes then
      let was := (vget s.layer n).stale
      let s := s.modLayer n (fun x =>
        let r := p.dec.act s x.set x.play x.before
        { x with set := r.1, play := r.2, driver := p.dec.driver x.driver, changed := true, loadFailed := false,
                 await := none, stale := false, hold := if x.stale then 0 else x.hold })
      if was then s.layEvent n Ev.LAYER_RESUMED 0 else s
    else s

/-- The held state of a plan (R250, R251): entered, kept, left, or turned stale. A move into or out of a late or
stale state is a change for R212. -/
def State.takeHold (s : State) (n : Nat) (p : LayPlan) : State :=
  let late := fun (c : Option Nat) => c == some 0 || c == some 1
  match p.cause with
  | none => s.modLayer n (fun x =>
      if x.held.isSome then { x with held := none, hold := 0, changed := x.changed || late x.held } else x)
  | some c =>
    if p.stale then
      (s.modLayer n (fun x => { x with stale := true, held := none, changed := true })).layEvent n Ev.LAYER_STALE c
    else
      let enters := (vget s.layer n).held.isNone
      let s := s.modLayer n (fun x => { x with held := some c, hold := p.hold, changed := x.changed || (late (some c) != late x.held) })
      if enters then s.layEvent n Ev.LAYER_LATE c else s

/-- The scale of a layer looked at (R243). -/
def State.takeScale (s : State) (n : Nat) : State :=
  let x := vget s.layer n
  let bad := badRatio x.set
  let s := s.modLayer n (fun x => { x with badScale := bad })
  if bad && !x.badScale then s.layEvent n Ev.LAYER_GEOMETRY_INVALID 0 else s

/-- A handle that a failover waited for has come (R519). -/
def State.takeAwaited (s : State) (n : Nat) : State :=
  match (vget s.layer n).await with
  | none => s
  | some a =>
    if (findSurface s a.1 a.2).isSome then
      s.modLayer n (fun x => { x with set := { x.set with handle := a.2, blank := false }, driver := some a.1,
                                      await := none, changed := true })
    else s

/-- The members of sync groups that are held at this deadline (R253). -/
def heldMembers (plans : List LayPlan) : List Nat :=
  (plans.zipIdx.filter (fun x => x.1.cause.isSome && !x.1.stale)).map (·.2)

/-- Another member of the sync group of layer `n` is held (R253). -/
def groupBinds (s : State) (n : Nat) (members : List Nat) : Bool :=
  let g := (vget s.layer n).set.sync
  g != 0 && members.any (fun m => m != n && (vget s.layer m).set.sync == g)

/-- The descriptors of a plan resolved and taken. -/
def State.takeDue (s : State) (k n : Nat) (p : LayPlan) : State :=
  let s := s.resolveAll k p.content.dropLast stSuperseded
  ((s.takeParams k n p.params).takeAwaited n).takeDecision k n p

/-- A plan carried out: a member of a group that another member holds keeps its descriptors pending, and a cause of its own
counts as ever (R250, R253). `bound` says so. -/
def State.takePlan (s : State) (k n : Nat) (p : LayPlan) (bound : Bool) : State :=
  let s := s.modLayer n (fun x => { x with groupHold := bound })
  (((if bound then s else s.takeDue k n p).takeHold n p).takeScale n)

/-- The layers are decided for frame `k` (R249 to R254). -/
def State.layersDeadline (s : State) (k : Nat) : State :=
  let s := (s.noRightsDue k).shadowDeadline k
  let s := (List.range 16).foldl (fun (s : State) n =>
    let en := layEn s n
    let g := granted s n
    s.modLayer n (fun x => { x with en := en, noGrant := !g })) s
  let plans := (List.range 16).map (layPlan s k)
  let members := heldMembers plans
  let was := s
  plans.zipIdx.foldl (fun (s : State) x => s.takePlan k x.2 x.1 (groupBinds was x.2 members)) s

/-- Changes are counted for the Vitrine (R212). -/
def State.countChanges (s : State) : State :=
  (List.range 16).foldl (fun (s : State) n =>
    s.modLayer n (fun x => { x with unchanged := if x.changed then 0 else min 65535 (x.unchanged + 1), changed := false })) s

/-! ## Composition order and Vitrine runs (R212 to R215, R246) -/

/-- A layer lies behind another or is it (R246). -/
def behind (s : State) (a b : Nat) : Bool :=
  let p := (vget s.layer a).set.prio
  let q := (vget s.layer b).set.prio
  decide (p < q) || (p == q && decide (a ≤ b))

/-- The enabled layers from back to front. -/
def layerOrder (s : State) : List Nat :=
  ((List.range 16).filter (fun n => (vget s.layer n).en)).mergeSort (behind s)

/-- A layer may be part of a run (R212). -/
def runnable (s : State) (n : Nat) : Bool :=
  let x := vget s.layer n
  let f := s.rfld Reg.CUR_VIT_CTL 0 8
  f != 0 && decide (f ≤ x.unchanged) && x.en && !x.set.blank && !x.stale && x.held != some 0 && x.held != some 1 &&
    !(x.play.any (clipAdvances s))

/-- The maximal runs of runnable layers in an order, `cur` being the run in progress. -/
def runsOf (s : State) : List Nat → List Nat → List (List Nat)
  | cur, [] => if cur.length < 2 then [] else [cur]
  | cur, n :: ns =>
    if runnable s n then runsOf s (cur ++ [n]) ns
    else if cur.length < 2 then runsOf s [] ns else cur :: runsOf s [] ns

/-- The Vitrine runs selected: the longest first, equal ones in composition order, at most MAX (R212). -/
def vitrineRuns (s : State) : List (List Nat) :=
  (((runsOf s [] (layerOrder s)).zipIdx.mergeSort (fun a b =>
    decide (b.1.length < a.1.length) || (a.1.length == b.1.length && decide (a.2 ≤ b.2)))).map (·.1)).take
    (s.rfld Reg.CUR_VIT_CTL 8 3)

/-- Pages of a Vitrine surface (R213). -/
def vitrinePages (s : State) : Nat := pagesOf (s.width * s.height * 16)

/-- Every Vitrine surface discarded (R214, R215). -/
def State.dropVitrines (s : State) : State := s.cur.vitrines.foldl (fun (s : State) v => s.dropVitrine v) s

/-- Surfaces follow the runs selected for frame `k`: those of dissolved runs go, flattened ones come into use, and
new runs get pages where enough are free (R213, R214). -/
def State.vitrineDeadline (s : State) (k : Nat) (runs : List (List Nat)) : State :=
  let s := (s.cur.vitrines.filter (fun v => !runs.contains v.layers)).foldl (fun (s : State) v => s.dropVitrine v) s
  let s : State := { s with cur := { s.cur with vitrines := s.cur.vitrines.map (fun v =>
    { v with ready := v.flat, lastUsed := if v.flat then k else v.lastUsed }) } }
  runs.foldl (fun (s : State) r =>
    let n := vitrinePages s
    if s.cur.vitrines.any (fun v => v.layers == r) || decide (s.cur.free.total < n) then s
    else
      let p := s.takePool n
      { p.2 with cur := { p.2.cur with vitrines := p.2.cur.vitrines ++
        [{ layers := r, pages := p.1, flat := false, ready := false, lastUsed := k }] } }) s

/-- `VITRINE_FLATTEN_DONE`: the flattening of a run finishes (R213). -/
def execVitrineFlattenDone (layers : List Nat) (s : State) : Out :=
  .next { s with cur := { s.cur with vitrines := s.cur.vitrines.map (fun v =>
    if v.layers = layers then { v with flat := true } else v) } }

/-- `VITRINE_CTL_WRITE`: a write of `CUR_VIT_CTL`; FRAMES 0 discards the surfaces at the next boundary (R215). -/
def execVitrineCtlWrite (data : Word) (s : State) : Out :=
  .next (s.setReg Reg.CUR_VIT_CTL (curStored Reg.CUR_VIT_CTL data))

/-! ## Frames shown (R189, R208) -/

/-- Completions of the frame-bound descriptors that frame `f` brings (R189). -/
def State.completeFrame (s : State) (f : Nat) : State :=
  (List.range 4).foldl (fun (s : State) c => s.resolvedDone c (fun p => decide (p.frame ≤ f))) s

/-- The handles that frame `f` shows take its number as their recency (R208). -/
def State.markShown (s : State) (f : Nat) (reads : List (Nat × Nat)) : State :=
  { s with cur := { s.cur with surfaces := s.cur.surfaces.map (fun x =>
    if reads.contains (x.ctx, x.handle) then { x with shown := f, seen := true } else x) } }

/-! ## Registers (R230, R231) -/

/-- STATE of `LAY_STAT`. -/
def layStateCode (x : LayerState) : Nat :=
  if !x.en then 4 else if x.stale then 3 else if x.held.isSome then 2 else if x.set.blank then 0 else 1

/-- The LAY registers that show state, of the composition that ended last; `off` within the instance. -/
def viewLay (s : State) (n off : Nat) : Option Word :=
  let x := vget s.layEnd n
  let y := x.set
  if off = 0x00 then
    some (if s.pwr.legacy ∧ 8 ≤ n then s.reg (inst Reg.LAY_CTL 0x100 n) &&& 0xFFFFFFFE
          else s.reg (inst Reg.LAY_CTL 0x100 n))
  else if off = 0x04 then
    some (mkWord [(16, min 65535 x.hold), (10, b2n x.noGrant), (9, b2n x.play.isSome), (8, b2n x.groupHold),
                  (7, b2n x.badScale), (4, x.held.getD 0), (0, layStateCode x)])
  else if off = 0x08 then some (BitVec.ofNat 32 (if y.blank then 0 else y.handle))
  else if off = 0x0C then some (mkWord [(16, toTwos 16 y.dy), (0, toTwos 16 y.dx)])
  else if off = 0x10 then some (mkWord [(16, y.dh), (0, y.dw)])
  else if off = 0x14 then some (mkWord [(16, y.sy), (0, y.sx)])
  else if off = 0x18 then some (mkWord [(16, y.sh), (0, y.sw)])
  else if off = 0x1C then
    some (mkWord [(19, b2n y.keyYcc), (18, b2n y.keyEn), (8, y.fade), (4, y.sync), (0, y.prio)])
  else if 0x20 ≤ off ∧ off ≤ 0x28 then
    let i := (off - 0x20) / 4
    some (mkWord [(16, y.keyHi.getD i 0), (0, y.keyLo.getD i 0)])
  else none

/-- What `LAY_CTL` and `LAY_HOLD_LIMIT` hold of a word written. -/
def layStored (s : State) (n off : Nat) (w : Word) : Word :=
  if off = 0x00 then
    let three := fun (lo sub : Nat) => if fld w lo 2 = 3 then sub else fld w lo 2
    mkWord [(14, three 14 0), (13, fld w 13 1), (10, three 10 1), (8, three 8 0), (4, fld w 4 2),
            (0, if s.pwr.legacy ∧ 8 ≤ n then 0 else fld w 0 1)]
  else BitVec.ofNat 32 (fld w 0 16)

end Sys2Proof.Machine
end

