-- ==== Sys2Proof/Machine/Compose.lean ====
section
/-! DEFINITION. What a composition computes (R232 to R248, R257 to R267): samples, chroma up-sampling, matrices,
scaling, colour key, transfer, gamut, the fold of the layers, calibration, Patina gains and concealment. -/

namespace Sys2Proof.Machine

/-- Full drive of a 20-bit linear value (R258). -/
def full20 : Nat := 1048575

/-- A value clamped to a 20-bit result. -/
def clamp20 (i : Int) : Nat := (clampInt 0 1048575 i).toNat

/-- A value clamped to 16 bits. -/
def clamp16 (i : Int) : Nat := (clampInt 0 65535 i).toNat

/-! ## Samples (R232, R233) -/

/-- A surface as a composition reads it. -/
structure SurfView where
  fmt : Nat
  w : Nat
  h : Nat
  data : Array Nat
  deriving DecidableEq, Repr

/-- The view of a surface. -/
def Surface.view (x : Surface) : SurfView := { fmt := x.fmt, w := x.width, h := x.height, data := x.data.toArray }

/-- A byte of a surface. -/
def SurfView.byte (v : SurfView) (i : Nat) : Nat := v.data.getD i 0 % 256

/-- A 16-bit container. -/
def SurfView.half (v : SurfView) (i : Nat) : Nat := v.byte i + 256 * v.byte (i + 1)

/-- Bits of a sample: 8, 10 or 12. -/
def SurfView.depth (v : SurfView) : Nat := 8 + 2 * fmtDepth v.fmt

/-- Bytes of a YCbCr sample. -/
def SurfView.size (v : SurfView) : Nat := if fmtDepth v.fmt = 0 then 1 else 2

/-- A YCbCr sample at a byte offset. -/
def SurfView.sample (v : SurfView) (i : Nat) : Nat :=
  if fmtDepth v.fmt = 0 then v.byte i else v.half i % 2 ^ v.depth

/-- Where a plane begins. -/
def SurfView.planeAt (v : SurfView) (p : Nat) : Nat :=
  lsum (((planesOf v.fmt v.w v.h).take p).map (fun q => q.1 * q.2))

/-- Columns and rows of the chroma planes. -/
def SurfView.chromaDims (v : SurfView) : Nat × Nat :=
  (if fmtSub v.fmt = 0 then v.w else v.w / 2, if fmtSub v.fmt = 2 then v.h / 2 else v.h)

/-- Component `c` of an RGB pixel. -/
def SurfView.rgbCode (v : SurfView) (x y c : Nat) : Nat :=
  let n := y * v.w + x
  if fmtDepth v.fmt = 0 then v.byte (3 * n + c)
  else if fmtDepth v.fmt = 1 then natBits (v.half (4 * n) + 65536 * v.half (4 * n + 2)) (10 * c) 10
  else v.half (6 * n + 2 * c) % 4096

/-- Luma of a pixel. -/
def SurfView.luma (v : SurfView) (x y : Nat) : Nat := v.sample ((y * v.w + x) * v.size)

/-- Chroma sample (`j`, `m`): Cb for `cr` = 0, Cr for 1. -/
def SurfView.chroma (v : SurfView) (j m cr : Nat) : Nat :=
  let n := m * v.chromaDims.1 + j
  if fmtFamily v.fmt = 2 then v.sample (v.planeAt 1 + (2 * n + cr) * v.size)
  else v.sample (v.planeAt (1 + cr) + n * v.size)

/-! ## Chroma up-sampling (R237) -/

/-- The chroma samples of one axis at a luma position, with weights in quarters. `mid`: samples stand at 2j + 0.5;
otherwise at 2j. -/
def chromaTaps (mid : Bool) (n x : Nat) : List (Nat × Nat) :=
  let j := x / 2
  let last := n - 1
  if mid then
    if x % 2 = 0 then [(min last j, 3), (min last (j - 1), 1)] else [(min last j, 3), (min last (j + 1), 1)]
  else if x % 2 = 0 then [(min last j, 4)]
  else [(min last j, 2), (min last (j + 1), 2)]

/-- Sixteen times the up-sampled chroma at a luma position. -/
def SurfView.chroma16 (v : SurfView) (siting x y cr : Nat) : Nat :=
  let dims := v.chromaDims
  let tx := if fmtSub v.fmt = 0 then [(x, 4)] else chromaTaps (siting == 2) dims.1 x
  let ty := if fmtSub v.fmt = 2 then chromaTaps (siting != 1) dims.2 y else [(y, 4)]
  lsum (tx.flatMap (fun a => ty.map (fun b => a.2 * b.2 * v.chroma a.1 b.1 cr)))

/-! ## Normalising and matrices (R236, R238) -/

/-- Conversion fields of `LAY_CTL`. -/
structure Conv where
  siting : Nat
  fullRange : Bool
  matrix : Nat
  prim : Nat
  tf : Nat
  deriving DecidableEq, Repr

/-- The fields of a `LAY_CTL` word. -/
def convOf (w : Word) : Conv :=
  { siting := fld w 14 2, fullRange := bitOf w 13, matrix := fld w 10 2, prim := fld w 8 2, tf := fld w 4 2 }

/-- Kr and Kb (R238). -/
def krkb (m : Nat) : Rat × Rat :=
  if m = 0 then (299 / 1000, 114 / 1000)
  else if m = 1 then (2126 / 10000, 722 / 10000)
  else (2627 / 10000, 593 / 10000)

/-- A luma or RGB code normalised (R236). -/
def normY (c : Conv) (d v : Nat) : Rat :=
  let k : Rat := ((2 ^ (d - 8) : Nat) : Rat)
  if c.fullRange then (v : Rat) / ((2 ^ d - 1 : Nat) : Rat) else ((v : Rat) - 16 * k) / (219 * k)

/-- A chroma code normalised; `v16` is sixteen times the code. -/
def normC (c : Conv) (d v16 : Nat) : Rat :=
  let k : Rat := ((2 ^ (d - 8) : Nat) : Rat)
  let v : Rat := (v16 : Rat) / 16
  if c.fullRange then (v - ((2 ^ (d - 1) : Nat) : Rat)) / ((2 ^ d - 1 : Nat) : Rat) else (v - 128 * k) / (224 * k)

/-- `floor(v + 0.5)` (R238, R245). -/
def halfUp (v : Rat) : Int := (v + 1 / 2).floor

/-- A value clamped to 0.0 to 1.0 as 16 bits (R238). -/
def to16 (v : Rat) : Nat := if v ≤ 0 then 0 else if 1 ≤ v then 65535 else (halfUp (v * 65535)).toNat

/-- R′G′B′ of a source sample in 16 bits (R236 to R238). -/
def SurfView.rgb16 (v : SurfView) (c : Conv) (x y : Nat) : List Nat :=
  let d := v.depth
  if fmtFamily v.fmt = 1 then (List.range 3).map (fun k => to16 (normY c d (v.rgbCode x y k)))
  else
    let kr := (krkb c.matrix).1
    let kb := (krkb c.matrix).2
    let yy := normY c d (v.luma x y)
    let cb := normC c d (v.chroma16 c.siting x y 0)
    let cr := normC c d (v.chroma16 c.siting x y 1)
    let r := yy + 2 * (1 - kr) * cr
    let b := yy + 2 * (1 - kb) * cb
    let g := (yy - kr * r - kb * b) / (1 - kr - kb)
    [to16 r, to16 g, to16 b]

/-! ## Colour key (R244, R245) -/

/-- A component encoded in a narrow or full range and clamped (R245). -/
def encodeKey (lo span : Rat) (v : Rat) : Nat := (clampInt 0 4095 (halfUp (lo + span * v))).toNat

/-- The key components of a source sample (R245). -/
def SurfView.keyCodes (v : SurfView) (c : Conv) (ycc : Bool) (x y : Nat) : List Nat :=
  let up := 2 ^ (12 - v.depth)
  let own := fmtFamily v.fmt != 1
  if own == ycc then
    if ycc then
      [v.luma x y * up, (v.chroma16 c.siting x y 0 * up + 8) / 16, (v.chroma16 c.siting x y 1 * up + 8) / 16]
    else (List.range 3).map (fun k => v.rgbCode x y k * up)
  else
    let p := (v.rgb16 c x y).map (fun k => (k : Rat) / 65535)
    let r := p.getD 0 0
    let g := p.getD 1 0
    let b := p.getD 2 0
    if !ycc then p.map (fun k => if c.fullRange then encodeKey 0 4095 k else encodeKey 256 3504 k)
    else
      let kr := (krkb c.matrix).1
      let kb := (krkb c.matrix).2
      let yy := kr * r + (1 - kr - kb) * g + kb * b
      let cb := (b - yy) / (2 * (1 - kb))
      let cr := (r - yy) / (2 * (1 - kr))
      if c.fullRange then [encodeKey 0 4095 yy, encodeKey 2048 4095 cb, encodeKey 2048 4095 cr]
      else [encodeKey 256 3504 yy, encodeKey 2048 3584 cb, encodeKey 2048 3584 cr]

/-- A source sample lies in the key window (R244). -/
def keyHit (x : LayerSet) (codes : List Nat) : Bool :=
  (List.range 3).all (fun k => decide (x.keyLo.getD k 0 ≤ codes.getD k 0) && decide (codes.getD k 0 ≤ x.keyHi.getD k 0))

/-! ## Scaling (R240 to R242) -/

/-- A quotient of integers rounded to the nearest, halves away from zero; the divisor is positive. -/
def roundAway (n d : Int) : Int :=
  if n < 0 then -((2 * (-n) + d) / (2 * d)) else (2 * n + d) / (2 * d)

/-- The place of the first largest element. -/
def argMax (l : List Int) : Nat :=
  (l.zipIdx.foldl (fun (a : Int × Nat) x => if a.1 < x.1 then x else a) (l.headD 0, 0)).2

/-- The four coefficients of phase `p` for the cutoff `min(1, cn / cd)` (R242). -/
def filterCoefs (cn cd p : Nat) : List Int :=
  let n := min cn cd
  let raw := [-1, 0, 1, 2].map (fun (t : Int) => kernel (fxRat ((n : Int) * (64 * t - (p : Int))) ((cd * 64 : Nat) : Int)))
  let total := isum raw
  let c := raw.map (fun r => if 0 < total then roundAway (r * 2048) total else 0)
  lmod c (argMax c) (fun x => x + (2048 - isum c))

/-- One axis of an output pixel: the nearest source sample, whether the pre-filter acts, the position of the second
tap, and the coefficients. -/
structure Axis where
  near : Int
  pre : Bool
  base : Int
  coefs : List Int
  deriving DecidableEq, Repr

/-- The axis of output offset `i` (R241, R242). -/
def axisAt (dst src off i : Nat) : Axis :=
  -- s = off + (2i + 1) · src / (2 · dst) − 1/2
  let s : Rat := (off : Rat) + ((2 * i + 1 : Nat) : Rat) * (src : Rat) / ((2 * dst : Nat) : Rat) - 1 / 2
  let pre := decide (2 * dst < src)
  let t : Rat := if pre then (s - 1 / 2) / 2 else s
  let p := ((t - (t.floor : Rat)) * 64).floor.toNat
  { near := halfUp s, pre := pre, base := t.floor, coefs := filterCoefs (if pre then 2 * dst else dst) src p }

/-- An index limited to 0 to `n - 1`. -/
def edge (n : Nat) (i : Int) : Nat := (clampInt 0 ((n - 1 : Nat) : Int) i).toNat

/-- One filter stage over `n` samples (R242). -/
def Axis.apply (a : Axis) (n : Nat) (get : Nat → Nat) : Nat :=
  let m := if a.pre then (n + 1) / 2 else n
  let at' := fun (i : Int) =>
    let j := edge m i
    if a.pre then (get (2 * j) + get (min (n - 1) (2 * j + 1)) + 1) / 2 else get j
  let sum := isum (a.coefs.zipIdx.map (fun c => c.1 * (at' (a.base + (c.2 : Int) - 1) : Int)))
  clamp16 ((sum + 1024) / 2048)

/-- A layer as a composition uses it. -/
structure LayView where
  set : LayerSet
  conv : Conv
  surf : SurfView
  deriving DecidableEq, Repr

/-- The axes of the tile pixel in a layer, where the layer covers it (R240). -/
def LayView.cover (v : LayView) (x y : Nat) : Option (Axis × Axis) :=
  let i := (x : Int) - v.set.dx
  let j := (y : Int) - v.set.dy
  if i < 0 ∨ j < 0 ∨ (v.set.dw : Int) ≤ i ∨ (v.set.dh : Int) ≤ j then none
  else
    let a := axisAt v.set.dw v.set.sw v.set.sx i.toNat
    let b := axisAt v.set.dh v.set.sh v.set.sy j.toNat
    if a.near < 0 ∨ b.near < 0 ∨ (v.surf.w : Int) ≤ a.near ∨ (v.surf.h : Int) ≤ b.near then none else some (a, b)

/-- The scaled R′G′B′ of a pixel: horizontal stage first (R242). -/
def LayView.scaled (v : LayView) (a b : Axis) : List Nat :=
  (List.range 3).map (fun k =>
    b.apply v.surf.h (fun row => a.apply v.surf.w (fun col => (v.surf.rgb16 v.conv col row).getD k 0)))

/-! ## Front units (R259 to R263) -/

/-- The input transfer curve (R259). -/
def transfer (s : State) (tf v : Nat) : Nat :=
  let e := fun (i : Nat) => fld (activeWord s 1 (1025 * tf + i)) 0 24
  let i := v / 64
  let f := v % 64
  ((e i : Int) + (((e (i + 1) : Int) - (e i : Int)) * (f : Int) + 32) / 64).toNat

/-- The OOTF of HLG (R261). -/
def ootf (s : State) (prim : Nat) (l : List Nat) : List Nat :=
  let a : List Nat := if prim = 1 then [2627, 6780, 593] else [2126, 7152, 722]
  let ys := lsum ((a.zip l).map (fun x => x.1 * x.2))
  if ys = 0 then [0, 0, 0]
  else
    let g := max 1000 (fld (s.actReg Reg.PIX_HLG) 0 11)
    let p := fxPow ys (10000 * 0xFFFFFF) (fxRat ((g : Int) - 1000) 1000)
    let q := within (p / 16384) 261 ys p
    l.map (fun v => min 0xFFFFFF (fxRound ((v : Int) * q)).toNat)

/-- K of R262. -/
def gainK (s : State) (tf : Nat) : Nat :=
  let w := s.actReg Reg.PIX_LUM
  let lum := if tf = 1 then 10000 else fld w 16 14
  (roundNear (1048575 * (lum : Int)) (fld w 0 14 : Nat)).toNat

/-- The luminance gain (R262). -/
def lumGain (k t : Nat) : Nat := min full20 ((t * k + 2 ^ 23) / 2 ^ 24)

/-- A 3 × 3 matrix of 14 fraction bits applied to a pixel, without the upper clamp's report (R263). -/
def matrixRow (m : List Int) (l : List Nat) : Int :=
  (isum ((m.zip l).map (fun x => x.1 * (x.2 : Int))) + 8192) / 16384

/-- Gamut conversion (R263). -/
def gamut (s : State) (prim : Nat) (l : List Nat) : List Nat :=
  if 2 ≤ prim then l
  else (List.range 3).map (fun r =>
    clamp20 (matrixRow ((List.range 3).map (fun c => sext 16 (activeWord s 1 (4100 + 9 * prim + 3 * r + c)).toNat)) l))

/-- Step 6 of R235. -/
def frontUnit (s : State) (c : Conv) (l : List Nat) : List Nat :=
  let t := l.map (transfer s c.tf)
  let t := if c.tf = 2 then ootf s c.prim t else t
  gamut s c.prim (t.map (lumGain (gainK s c.tf)))

/-! ## Folding (R246 to R248) -/

/-- A partial result: 20-bit P per colour and 16-bit transmittance T. -/
structure Fold where
  p : List Nat
  t : Nat
  deriving DecidableEq, Repr

/-- The identity. -/
def Fold.one : Fold := { p := [0, 0, 0], t := 65535 }

/-- A front result with what lies behind it. -/
def Fold.behind (a b : Fold) : Fold :=
  { p := (a.p.zip b.p).map (fun x => min full20 (x.1 + (a.t * x.2 + 32767) / 65535))
    t := (a.t * b.t + 32767) / 65535 }

/-- The element of a layer at a pixel (R244, R247). -/
def element (s : State) (v : LayView) (x y : Nat) : Fold :=
  match v.cover x y with
  | none => Fold.one
  | some (a, b) =>
    if v.set.keyEn && keyHit v.set (v.surf.keyCodes v.conv v.set.keyYcc a.near.toNat b.near.toNat) then Fold.one
    else
      let f := v.set.fade
      { p := (frontUnit s v.conv (v.scaled a b)).map (fun l => (2 * l * f + 1023) / 2046)
        t := 65535 - (2 * 65535 * f + 1023) / 2046 }

/-- A layer contributes to pixels (R230, R243). -/
def visible (x : LayerState) : Bool :=
  x.en && !x.set.blank && !x.stale && !x.badScale && x.set.dw != 0 && x.set.dh != 0

/-- The enabled layers with a surface that they show, from back to front (R249). -/
def frameSurfaces (s : State) : List (Nat × Surface) :=
  (layerOrder s).filterMap (fun n =>
    if visible (vget s.layer n) then
      (layerShows s n).bind (fun a => (findSurface s a.1 a.2).map (fun f => (n, f)))
    else none)

/-- The view of a layer over the surfaces of a frame, none where it contributes nothing. -/
def layView (s : State) (srcs : List (Nat × Surface)) (n : Nat) : Option LayView :=
  (srcs.find? (fun x => x.1 == n)).map (fun x =>
    { set := (vget s.layer n).set, conv := convOf (s.actReg (inst Reg.LAY_CTL 0x100 n)), surf := x.2.view })

/-- The segments of an order, back to front: a run is one segment, every other layer one of its own (R248). -/
def segments (runs : List (List Nat)) : List Nat → List (List Nat)
  | [] => []
  | n :: ns =>
    match runs.find? (fun r => r.contains n) with
    | none => [n] :: segments runs ns
    | some r => if r.headD n = n then r :: segments runs ns else segments runs ns

/-- Values folded from the front; the list runs from back to front. -/
def foldAll (l : List Fold) : Fold := l.foldr (fun b a => a.behind b) Fold.one

/-- What is left of a run's fold where words of its Vitrine surface are lost (R228). -/
def Fold.keep (f : Fold) (lost : List LostWord) : Fold :=
  lost.foldl (fun (f : Fold) x =>
    { p := f.p.zipIdx.map (fun v => v.1 &&& x.keep.getD v.2 0), t := f.t &&& x.keep.getD 3 0 }) f

/-- The composed pixel `n`: `segs` are the segments from back to front, each with the views of its layers (R248). -/
def composePixel (s : State) (w : Nat) (lost : List LostWord) (segs : List (List Nat × List LayView)) (n : Nat) :
    List Nat :=
  (foldAll (segs.map (fun g =>
    (foldAll (g.2.map (fun v => element s v (n % w) (n / w)))).keep
      (lost.filter (fun x => x.run == g.1 && x.pixel == n))))).p

/-! ## Calibration, gains, concealment (R264 to R266) -/

/-- Coefficient `k` of the matrix of pixel `n` (R264). -/
def calCoef (s : State) (n k : Nat) : Int :=
  let h := 9 * n + k
  sext 16 (natBits (activeWord s 3 (h / 2)).toNat (16 * (h % 2)) 16)

/-- A value with the mark that an upper clamp acted on it. -/
def clampMark (i : Int) (was : Bool) : Nat × Bool := (clamp20 i, was || decide (1048575 < i))

/-- Calibration of pixel `n` (R264). -/
def calibrate (s : State) (n : Nat) (l : List Nat) : List (Nat × Bool) :=
  if bitOf (s.actReg Reg.PIX_CTL) 0 then
    (List.range 3).map (fun r => clampMark (matrixRow ((List.range 3).map (fun c => calCoef s n (3 * r + c))) l) false)
  else l.map (fun v => (v, false))

/-- The gain of an emitter in the active bank (R265). -/
def activeGain (s : State) (e : Nat) : Nat := kget 32768 (if s.pat.gainActive then s.pat.gain1 else s.pat.gain0) e

/-- The Patina gain of an emitter (R265). -/
def patGain (s : State) (e : Nat) (v : Nat × Bool) : Nat × Bool :=
  if bitOf (s.actReg Reg.PIX_CTL) 1 then clampMark (((v.1 * activeGain s e + 16384) / 32768 : Nat) : Int) v.2 else v

/-- Code of an emitter in the fault map (R351). -/
def faultCode (s : State) (e : Nat) : Nat := if e < 3 * s.width * s.height then kget 1 s.dia.map e else 0

/-- An emitter is concealed (R266). -/
def concealed (s : State) (e : Nat) : Bool := bitOf (s.actReg Reg.PIX_CTL) 2 && faultCode s e == 2

/-- Same-colour neighbours of an emitter inside the geometry (R266). -/
def neighbours (w h e : Nat) : List Nat :=
  let x := e / 3 % w
  let y := e / 3 / w
  (if x = 0 then [] else [e - 3]) ++ (if x + 1 < w then [e + 3] else []) ++
    (if y = 0 then [] else [e - 3 * w]) ++ (if y + 1 < h then [e + 3 * w] else [])

/-- The stored value of an emitter from the values before concealment (R266). -/
def concealStep (s : State) (w h : Nat) (vals : Array (Nat × Bool)) (e : Nat) : Nat × Bool :=
  let share := fld (s.actReg Reg.PIX_CONCEAL) 0 11
  let v := vals.getD e (0, false)
  if concealed s e then (0, v.2)
  else
    let more := lsum ((neighbours w h e).map (fun n =>
      if concealed s n then (vals.getD n (0, false)).1 * share / 1024 else 0))
    clampMark ((v.1 + more : Nat) : Int) v.2

/-- A frame composed from what it holds of its start and from the tables and registers of the tile (R257, R267). -/
def Composed.run (c : Composed) (s : State) : Composed :=
  let s : State := { s with layer := s.layComp, dia := { s.dia with map := c.map } }
  let segs := (segments c.runs (layerOrder s)).map (fun g => (g, g.filterMap (layView s c.srcs)))
  let before : Array (Nat × Bool) := ((List.range (c.w * c.h)).flatMap (fun n =>
    ((calibrate s n (composePixel s c.w c.lost segs n)).zipIdx.map (fun v => patGain s (3 * n + v.2) v.1)))).toArray
  let after := (List.range (3 * c.w * c.h)).map (concealStep s c.w c.h before)
  { c with
    conc := ((List.range (3 * c.w * c.h)).filter (concealed s)).length
    clip := (after.filter (·.2)).length
    px := after.map (·.1) }

/-- The composed frame `k` with the tile's state as it stands at F(k−2), the layers being those of `layComp` (R257, R267,
R281). -/
def composeFrame (s : State) (k : Nat) (runs : List (List Nat)) : Composed :=
  let srcs := frameSurfaces s
  ({ frame := k, w := s.width, h := s.height, b := s.pix.b, ramp := s.pix.ramp
     dith := s.actReg Reg.PIX_DITH, olut := s.actReg Reg.PIX_OLUT_CTL
     reads := srcs.map (fun x => (x.2.ctx, x.2.handle)), conc := 0, clip := 0, px := []
     srcs := srcs, map := s.dia.map, runs := runs
     flat := (s.cur.vitrines.filter (·.ready)).map (·.layers) } : Composed).run s

/-- The frame in composition changed and composed again: what a lost word does to it (R228). -/
def State.recompose (s : State) (f : Composed → Composed) : State :=
  match s.pix.composing with
  | none => s
  | some c => { s with pix := { s.pix with composing := some ((f c).run s) } }

end Sys2Proof.Machine
end

