-- ==== Sys2Proof/Machine/Timing.lean ====
section
/-! DEFINITION. The quantities of a timing set and of the chain settings (R284, R285, R306, R309, R317, R335), of the
active set or of a captured one. A set is given by what each register holds. -/

namespace Sys2Proof.Machine

/-- The active set. -/
def actSet (s : State) : Nat → Word := s.actReg

/-- FPER. -/
def tFper (g : Nat → Word) : Nat := fld (g Reg.SCN_SH_FPER) 0 24
/-- GRATE. -/
def tGrate (g : Nat → Word) : Nat := fld (g Reg.SCN_SH_GCK) 0 15
/-- SCAN. -/
def tScan (g : Nat → Word) : Nat := fld (g Reg.SCN_SH_MODE) 0 2
/-- S, the scan lines of a sector. -/
def tS (g : Nat → Word) : Nat := 16 * 2 ^ tScan g
/-- D. -/
def tD (g : Nat → Word) : Nat := fld (g Reg.SCN_SH_MODE) 4 4
/-- log2 of NSF. -/
def tLogNsf (g : Nat → Word) : Nat := fld (g Reg.SCN_SH_MODE) 8 3
/-- NSF. -/
def tNsf (g : Nat → Word) : Nat := 2 ^ tLogNsf g
/-- LB. -/
def tLb (g : Nat → Word) : Nat := fld (g Reg.SCN_SH_MODE) 16 8
/-- FBI_MIN. -/
def tFbiMin (g : Nat → Word) : Nat := fld (g Reg.SCN_SH_FBIMIN) 0 20
/-- PHASE. -/
def tPhase (g : Nat → Word) : Int := sext 24 (g Reg.SCN_SH_PHASE).toNat
/-- The source: true for GLK_IN. -/
def tSrc (g : Nat → Word) : Bool := bitOf (g Reg.SCN_CLK_SRC) 0
/-- P, the PWM periods of a line visit (R285). -/
def tP (g : Nat → Word) : Nat := 2 ^ tD g / tNsf g
/-- NACT (R285). -/
def tNact (g : Nat → Word) : Nat := tNsf g * tS g * (tLb g + tP g)
/-- A, the active length in SCAN cycles (R285). -/
def tA (g : Nat → Word) : Nat := if tGrate g = 0 then 0 else divCeil (tNact g * 65536) (tGrate g)
/-- FBI while free-running, in SCAN cycles (R285). -/
def tFbi (g : Nat → Word) : Int := (tFper g : Int) - (tA g : Int)

/-- Enabled chains. -/
def cEn (g : Nat → Word) : Nat := (g Reg.CCH_EN).toNat
/-- Nd. -/
def cNd (g : Nat → Word) : Nat := fld (g Reg.CCH_GEOM) 16 8
/-- C. -/
def cC (g : Nat → Word) : Nat := 16 * (fld (g Reg.CCH_GEOM) 0 2 + 1)
/-- DIV. -/
def cDiv (g : Nat → Word) : Nat := fld (g Reg.CCH_DCK) 0 5

/-- The chains that are enabled. -/
def chainList (g : Nat → Word) : List Nat := (List.range 32).filter (fun n => (cEn g).testBit n)

/-- The groups with an enabled chain. -/
def groupList (g : Nat → Word) : List Nat := (List.range 4).filter (fun n => natBits (cEn g) (8 * n) 8 != 0)

/-- The same as a mask. -/
def groupMask (g : Nat → Word) : Nat := (groupList g).foldl setBit 0

/-- DCK periods of a word (R309, R335). -/
def wordPeriods (legacy : Bool) : Nat := if legacy then 6 else 8

/-- Words of a driver's segment of a line: the check word comes with it but in legacy mode (R315, R335). -/
def segWords (legacy : Bool) (g : Nat → Word) : Nat := if legacy then cC g else cC g + 1

/-- DCK periods of one line of an upload (R315). -/
def linePeriods (legacy : Bool) (g : Nat → Word) : Nat := wordPeriods legacy * cNd g * segWords legacy g + 225

/-- U in DCK periods (R317, R335). -/
def tU (legacy : Bool) (g : Nat → Word) : Nat := 9 + tS g * linePeriods legacy g

/-- DCK periods of a status read (R344). -/
def readPeriods (legacy : Bool) (g : Nat → Word) : Nat := wordPeriods legacy * cNd g * (cC g + 1) + 10

/-- The step of a commit in progress, 0 for none (`GLB_CMT_STAT.STEP`). -/
def cmtStep (s : State) : Nat :=
  match s.cmt.steps with
  | [] => 0
  | x :: _ => if x.begun then x.step else 0

/-- Frame period of the active set in SCAN cycles of 2.5 ns. -/
def framePeriod (s : State) : Nat := tFper (actSet s)

/-- Channels that a geometry needs (R308). -/
def channelsNeeded (w h sLines : Nat) : Nat := 3 * w * divCeil h sLines

/-- `rev(j)`: `n` bits reversed (R287). -/
def revBits (n j : Nat) : Nat := reverseBits n j

/-- The on-time of code `w` in sub-frame `j` (R287). -/
def onTime (logNsf w j : Nat) : Nat :=
  w / 2 ^ logNsf + (if revBits logNsf j < w % 2 ^ logNsf then 1 else 0)

/-- The bound that a light gate sets to an on-time (R289). -/
def gateBound (p lg : Nat) : Nat := divCeil (p * lg) 65535

end Sys2Proof.Machine
end

