-- ==== Sys2Proof/Machine/Pixel.lean ====
section
/-! DEFINITION. Brightness and its ramps, and the back stages (R268 to R275, R278, R281, R328, R329): scale, dither,
output LUT, packing into chain words; the PIX registers. -/

namespace Sys2Proof.Machine

/-! ## Brightness (R268 to R270) -/

/-- The level of step `j` of a ramp (R269): within 2^−16 of the power. -/
def rampLevel (r : Ramp) (j : Nat) : Nat :=
  if r.n ≤ j then r.z
  else
    let a := r.a
    let z := max 64 r.z
    let v := (a : Int) * fxPow z a (fxRat (j : Int) (r.n : Int))
    (clampInt 0 65535 (roundNear (within (v / 65536) 269 (a * 2 ^ 32 + z * 2 ^ 16 + j) v) fxOne)).toNat

/-- The ramp in force goes on by one frame number (R270). -/
def State.rampStep (s : State) : State :=
  match s.pix.ramp with
  | none => s
  | some r =>
    let j := r.j + 1
    { s with pix := { s.pix with b := rampLevel r j, ramp := if r.n ≤ j then none else some { r with j := j } } }

/-- Frames of a ramp asked for in ms, before R269 extends it. -/
def rampAsked (s : State) (ms : Nat) : Nat := max 1 (roundNear ((ms * 400000 : Nat) : Int) (framePeriod s : Int)).toNat

/-- Frames that a change from `a` to `z` needs at 0.4 % a frame (R269). -/
def rampNeeded (a z : Nat) : Nat :=
  let l := fxLn (max a z) (min a z)
  let q := fxLn 1004 1000
  ((l + q - 1) / q).toNat

/-- A BRIGHTNESS takes effect at a frame whose predecessor has level `was` (R269, R270). -/
def State.setBrightness (s : State) (was level ms : Nat) : State :=
  if ms = 0 then { s with pix := { s.pix with b := level, ramp := none } }
  else
    let a := max 64 was
    let n0 := rampAsked s ms
    let n := if was = level then 1 else max n0 (rampNeeded a (max 64 level))
    let r : Ramp := { a := a, z := level, n := n, j := 1 }
    let s : State := { s with pix := { s.pix with b := rampLevel r 1, ramp := if n ≤ 1 then none else some r } }
    if was != level && decide (n0 < n) then s.raise .core Ev.RAMP_EXTENDED 0 n else s

/-- The due BRIGHTNESS descriptors of frame `k`; `was` is B(k−1) (R181, R188). -/
def State.brightnessDeadline (s : State) (k was : Nat) : State :=
  (activeCtxs s).foldl (fun (s : State) c =>
    let l := dueIn s k c (fun d => d.op == 4)
    match l.getLast? with
    | none => s
    | some x =>
      let s := (s.resolveAll k l.dropLast stSuperseded).resolveDue k x stOk
      s.setBrightness was (x.p.d.bits 4 0 16) (x.p.d.bits 5 0 14)) s

/-! ## Dither (R272, R273) -/

/-- One step of the dither LFSR. -/
def ditherStep (x : Nat) : Nat :=
  let f := (natBits x 0 1 + natBits x 2 1 + natBits x 3 1 + natBits x 5 1) % 2
  x / 2 + f * 32768

/-- The ordered-dither index b at column `u` and row `v`. -/
def ditherIndex (u v : Nat) : Nat :=
  lsum ((List.range 4).map (fun l =>
    let i := natBits v l 1
    let j := natBits u l 1
    4 ^ (3 - l) * (2 * ((i + j) % 2) + i)))

/-- The threshold t of an emitter. -/
def ditherT (mode lfsr x y c : Nat) : Nat :=
  if mode = 0 then 524288
  else
    let ox := if mode = 1 then 0 else (lfsr % 16 + 5 * c) % 16
    let oy := if mode = 1 then 0 else (lfsr / 16 % 16 + 9 * c) % 16
    ditherIndex ((x + ox) % 16) ((y + oy) % 16) * 4096 + 2048

/-- The LFSR for the upload of a frame: loaded where a changed SEED takes effect, then stepped (R273, R281). -/
def State.lfsrUpload (s : State) (seed : Nat) : State :=
  let x := if seed = s.pix.seed then s.pix.lfsr else seed
  { s with pix := { s.pix with lfsr := ditherStep x, seed := seed } }

/-! ## Output LUT (R274) -/

/-- Entry of the output LUT from an active or inactive bank. -/
def lutEntry (get : Nat → Word) (c i : Nat) : Int := (fld (get (4096 * c + i)) 0 16 : Nat)

/-- The grey-scale code of a dithered code. -/
def lutCode (get : Nat → Word) (top c q : Nat) : Nat :=
  let pos := q * 4095 * 256 / top
  let i := pos / 256
  let f := pos % 256
  let w := if 4095 ≤ i then lutEntry get c 4095
           else lutEntry get c i + ((lutEntry get c (i + 1) - lutEntry get c i) * (f : Int) + 128) / 256
  min w.toNat top

/-! ## Back stages -/

/-- E of a frame (R268). -/
def scaleE (b g : Nat) : Nat := min b g

/-- The code w of one emitter: scale, dither, LUT (R268, R272, R274). -/
def backCode (s : State) (c : Composed) (g e v : Nat) : Nat :=
  let top := 2 ^ panelDepth s - 1
  let x := (v * scaleE c.b g + 32767) / 65535
  let n := e / 3
  let t := ditherT (fld c.dith 0 2) s.pix.lfsr (n % c.w) (n / c.w) (e % 3)
  let q := (x * top + t) / 1048576
  if bitOf c.olut 0 then q else lutCode (activeWord s 2) top (e % 3) q

/-- The codes of a composed frame in emitter order. -/
def backCodes (s : State) (c : Composed) (g : Nat) : Array Nat :=
  (c.px.zipIdx.map (fun v => backCode s c g v.2 v.1)).toArray

/-! ## The channel map (R328, R329) -/

/-- An entry of the channel map: the chain and position of a mapped one. -/
def mapEntry (w : Word) : Option (Nat × Nat) := if bitOf w 31 then some (fld w 16 5, fld w 0 12) else none

/-- Entries in use for a geometry, at most those of the table. -/
def mapEntries (w h sLines : Nat) : Nat := min 98304 (channelsNeeded w h sLines)

/-- A chain and a position that the chain settings have. -/
def mapReal (g : Nat → Word) (ch pos : Nat) : Bool := (cEn g).testBit ch && decide (pos < cNd g * cC g)

/-- For each place 4,096 × chain + position, one more than the index of the entry that its word comes from; 0 where
no entry names it (R329: the higher index). -/
def mapOwners (s : State) (w h : Nat) : Array Nat :=
  (List.range (mapEntries w h (tS (actSet s)))).foldl (fun (a : Array Nat) i =>
    match mapEntry (activeWord s 4 i) with
    | none => a
    | some (ch, pos) => if mapReal (actSet s) ch pos then a.setIfInBounds (4096 * ch + pos) (i + 1) else a)
    (Array.replicate 131072 0)

/-- The emitter that entry `i` serves on line `l`, where its row exists (R328). -/
def mapEmitter (w h sLines i l : Nat) : Option Nat :=
  let y := i / (3 * w) * sLines + l
  if y < h then some (3 * (y * w + i / 3 % w) + i % 3) else none

/-- The code that a place carries on a line (R275, R329). -/
def placeCode (owners codes : Array Nat) (w h sLines ch pos l : Nat) : Nat :=
  match owners.getD (4096 * ch + pos) 0 with
  | 0 => 0
  | i + 1 => match mapEmitter w h sLines i l with
    | none => 0
    | some e => codes.getD e 0

/-- The entry that serves an emitter. -/
def entryOf (w sLines e : Nat) : Nat := 3 * (e / 3 / w / sLines * w + e / 3 % w) + e % 3

/-- What the word of each emitter's entry carries on the emitter's line, 0 for one that is not shown (R361). -/
def doseCodes (s : State) (w h : Nat) (owners codes : Array Nat) : List Nat :=
  let n := tS (actSet s)
  (List.range (3 * w * h)).map (fun e =>
    let i := entryOf w n e
    if 98304 ≤ i then 0
    else match mapEntry (activeWord s 4 i) with
      | none => 0
      | some (ch, pos) => if mapReal (actSet s) ch pos then placeCode owners codes w h n ch pos (e / 3 / w % n) else 0)

/-- A map that names a disabled chain or a position beyond the chain, once per swap or commit that exposes it
(R329). -/
def State.mapCheck (s : State) : State :=
  if s.cch.mapReported then s
  else
    let s : State := { s with cch := { s.cch with mapReported := true } }
    let bad := (List.range (mapEntries s.width s.height (tS (actSet s)))).findSome? (fun i =>
      match mapEntry (activeWord s 4 i) with
      | none => none
      | some (ch, pos) => if mapReal (actSet s) ch pos then none else some (ch, i))
    match bad with
    | none => s
    | some (ch, i) =>
      let s : State := { s with cch := { s.cch with mapRaised := true } }
      (s.setC Reg.CCH_ERR 64).raise .scan Ev.CHANNEL_MAP_INVALID ch i

/-! ## Chain words (R314 to R316, R335) -/

/-- The data words of a driver in ascending position order. -/
def driverWords (shift : Nat) (code : Nat → Nat) (c d : Nat) : List Nat :=
  (List.range c).map (fun i => code (d * c + i) * 2 ^ shift)

/-- The check word of a driver for line `l`. -/
def checkWord (l : Nat) (ws : List Nat) : Nat := crc16 ((l :: ws).flatMap (bytesBE 2))

/-- The words of one line of one chain in the order in which they are shifted (R315). -/
def lineWords (legacy : Bool) (nd c depth l : Nat) (code : Nat → Nat) : List Nat :=
  (List.range nd).flatMap (fun i =>
    let ws := driverWords ((if legacy then 12 else 16) - depth) code c (nd - 1 - i)
    if legacy then ws.reverse else checkWord l ws :: ws.reverse)

/-! ## Swaps (R183, R277, R278, R530) -/

/-- The boundary F(n): requests by command take the frame of this deadline. -/
def State.swapFrames (s : State) (first : Bool) : State :=
  let k := s.scn.frame + 2
  { s with pix := { s.pix with swaps := s.pix.swaps.map (fun r =>
      if r.ctx.isNone && r.frame == 0 then { r with frame := k }
      else if first && decide (r.frame < k) then { r with frame := k, late := true } else r) } }

/-- The frame at which a table would swap at the boundary F(n): tables 0x01 and 0x03 switch two frames ahead, tables
0x02 and 0x04 one (R278). -/
def swapAt (s : State) (t : Nat) : Nat := if t = 1 ∨ t = 3 then s.scn.frame + 2 else s.scn.frame + 1

/-- The requests whose tables swap at this boundary. -/
def dueSwaps (s : State) : List SwapReq := s.pix.swaps.filter (fun r => decide (r.frame ≤ swapAt s r.table))

/-- A swapped table with what follows from it: every layer changes for table 0x01, the map is looked at again for
table 0x04. -/
def State.swapEffects (s : State) (t : Nat) : State :=
  let s := s.swapTable t (swapAt s t)
  if t = 1 then (List.range 16).foldl (fun (s : State) n => s.modLayer n (fun x => { x with changed := true })) s
  else if t = 4 then { s with cch := { s.cch with mapReported := false } }
  else s

/-- The bank of table `t` that frame `k` uses: the inactive one where a request for it waits that will have swapped
it by then (R278, R377). -/
def wordFor (s : State) (k t : Nat) : Nat → Word :=
  if (t == 2 || t == 4) && !s.cmt.window && s.pix.swaps.any (fun r => r.table == t && r.frame != 0 && decide (r.frame ≤ k))
  then inactiveWord s t else activeWord s t

/-! ## Registers -/

/-- What a PIX register holds of a word written. -/
def pixStored (addr : Nat) (w : Word) : Word :=
  if addr = Reg.PIX_CTL then mkWord [(0, fld w 0 3)]
  else if addr = Reg.PIX_LUM then
    let peak := max 100 (min 10000 (fld w 0 14))
    mkWord [(16, min peak (max 100 (fld w 16 14))), (0, peak)]
  else if addr = Reg.PIX_HLG then mkWord [(0, max 1000 (min 1500 (fld w 0 11)))]
  else if addr = Reg.PIX_DITH then
    mkWord [(16, max 1 (fld w 16 16)), (0, if fld w 0 2 = 3 then 2 else fld w 0 2)]
  else if addr = Reg.PIX_OLUT_CTL then mkWord [(0, fld w 0 1)]
  else if addr = Reg.PIX_CONCEAL then mkWord [(0, min 1024 (fld w 0 11))]
  else if addr = Reg.PIX_TBL_CTL then mkWord [(0, fld w 0 4)]
  else if addr = Reg.PIX_TBL_INDEX then
    mkWord [(28, if 1 ≤ fld w 28 4 ∧ fld w 28 4 ≤ 4 then fld w 28 4 else 1), (0, fld w 0 23)]
  else if addr = Reg.PIX_GEOM then mkWord [(16, fld w 16 11), (0, fld w 0 12)]
  else w

/-- The PIX registers that show state. -/
def viewPix (s : State) (addr : Nat) : Option Word :=
  if addr = Reg.PIX_BRIGHT then
    some (mkWord [(16, (s.pix.rampEnded.map (·.z)).getD s.pix.bEnded), (0, s.pix.bEnded)])
  else if addr = Reg.PIX_RAMP then
    some (match s.pix.rampEnded with
      | none => 0
      | some r => mkWord [(16, 1), (0, min 65535 (r.n - r.j))])
  else if addr = Reg.PIX_SCALE then some (mkWord [(16, b2n s.pix.governed), (0, s.pix.e)])
  else if addr = Reg.PIX_TBL_STAT then
    some (mkWord [(8, flagsWord ((List.range 4).map (fun i => (vget s.pix.tbl i).copying))),
                  (0, flagsWord ((List.range 4).map (fun i => (vget s.pix.tbl i).active)))])
  else if addr = Reg.PIX_TBL_CMD then some 0
  else if addr = Reg.PIX_CONC_CNT then some (mkWord [(0, s.pix.concCnt)])
  else if addr = Reg.PIX_CLIP_CNT then some (mkWord [(0, s.pix.clipCnt)])
  else if addr = Reg.PIX_GEOM_ACT then some (s.actReg Reg.PIX_GEOM)
  else none

end Sys2Proof.Machine
end

