-- ==== Sys2Proof/Machine/FaultMap.lean ====
section
/-! DEFINITION. The fault list and the fault map of the emitter diagnostics (R349, R351 to R357): what a declared
fault covers, declaring and clearing, the reset of R356, the archive copy of R355 and the DIA data ports. -/

namespace Sys2Proof.Machine

/-! ## What a fault covers (R352)

The emitters of a channel are those of the entry that its words come from (R329). -/

/-- Every emitter of entry `i`. -/
def entryEmitters (s : State) (i : Nat) : List Nat :=
  (List.range (tS (actSet s))).filterMap (mapEmitter s.width s.height (tS (actSet s)) i)

/-- The owners of all places under the committed geometry. -/
def placeOwners (s : State) : Array Nat := mapOwners s s.width s.height

/-- The entry that a place takes its words from. -/
def placeEntry (owners : Array Nat) (ch pos : Nat) : Option Nat :=
  match owners.getD (4096 * ch + pos) 0 with
  | 0 => none
  | i + 1 => some i

/-- Every emitter that a channel serves. -/
def channelEmitters (s : State) (owners : Array Nat) (ch pos : Nat) : List Nat :=
  match placeEntry owners ch pos with
  | none => []
  | some i => entryEmitters s i

/-- The channel of an emitter, where its entry is mapped. -/
def emitterChannel (s : State) (e : Nat) : Option (Nat × Nat) :=
  let i := entryOf s.width (tS (actSet s)) e
  if s.width = 0 ∨ 98304 ≤ i then none else mapEntry (activeWord s 4 i)

/-- The mapped emitters of row `line` of a sector; those beyond the height do not exist. -/
def rowEmitters (s : State) (sector line : Nat) : List Nat :=
  let y := sector * tS (actSet s) + line
  if s.height ≤ y then []
  else ((List.range (3 * s.width)).map (fun i => 3 * s.width * y + i)).filter (fun e => (emitterChannel s e).isSome)

/-- The emitters of every entry that names a chain. -/
def chainEmitters (s : State) (ch : Nat) : List Nat :=
  ((List.range (mapEntries s.width s.height (tS (actSet s)))).filter (fun i =>
    match mapEntry (activeWord s 4 i) with
    | none => false
    | some (c, _) => c == ch)).flatMap (entryEmitters s)

/-- The emitters that a fault covers. -/
def faultCover (s : State) (x : FaultEntry) : List Nat :=
  let own := placeOwners s
  let ch := x.subject / 4096
  let pos := x.subject % 4096
  if x.level = 0 then [x.subject]
  else if x.level = 1 then
    if x.cause = 3 then channelEmitters s own ch pos ++ channelEmitters s own ch (pos + 1)
    else channelEmitters s own ch pos
  else if x.level = 2 then rowEmitters s (x.subject / 64) (x.subject % 64)
  else if x.level = 3 then (List.range (tS (actSet s))).flatMap (rowEmitters s x.subject)
  else if x.level = 4 then
    let c := cC (actSet s)
    (List.range c).flatMap (fun i => channelEmitters s own (x.subject / 256) (x.subject % 256 * c + i))
  else chainEmitters s x.subject

/-- The code that a declared fault gives its emitters: DEAD or SUSPECT. -/
def causeCode (cause : Nat) : Nat := if cause = 5 ∨ cause = 8 ∨ cause = 9 ∨ cause = 10 then 3 else 2

/-- The chain that a fault names, 0 where it names none (R359). -/
def faultChain (s : State) (x : FaultEntry) : Nat :=
  if x.level = 0 then ((emitterChannel s x.subject).map (·.1)).getD 0
  else if x.level = 1 then x.subject / 4096
  else if x.level = 4 then x.subject / 256
  else if x.level = 5 then x.subject
  else 0

/-! ## The map -/

/-- Emitters of the committed geometry. -/
def emitterCount (s : State) : Nat := 3 * s.width * s.height

/-- Emitters whose code is `c`, for the codes DEAD and SUSPECT. -/
def codeCount (s : State) (c : Nat) : Nat :=
  (s.dia.map.filter (fun p => p.2 == c && decide (p.1 < emitterCount s))).length

/-- `DIA_COUNT.LIMIT` in emitters. -/
def deadLimit (s : State) : Nat := 4 * s.rfld Reg.DIA_COUNT 22 10

/-- The count of DEAD emitters looked at after a change (R357). -/
def State.concealCheck (s : State) : State :=
  let n := codeCount s 2
  if s.dia.concealHigh then
    if n < deadLimit s then { s with dia := { s.dia with concealHigh := false } } else s
  else if deadLimit s < n then
    let s : State := { s with dia := { s.dia with concealHigh := true } }
    s.raise .core Ev.CONCEAL_HIGH 0
  else s

/-- The map and the list have changed (R355). -/
def State.mapChanged (s : State) : State :=
  let s : State := { s with dia := { s.dia with dirty := true } }
  s.concealCheck

/-- Codes set one by one. -/
def State.setCodes (s : State) (es : List Nat) (f : Nat → Nat) : State :=
  { s with dia := { s.dia with map := es.foldl (fun m e => kput 1 m e (f e)) s.dia.map } }

/-- A fault counts as declared until it has cleared (R349). -/
def FaultEntry.stands (x : FaultEntry) : Bool := decide (x.st ≠ .candidate)

/-- A declared fault sets the codes of its emitters; the highest of several stands (R352). -/
def State.coverDeclared (s : State) (x : FaultEntry) : State :=
  s.setCodes (faultCover s x) (fun e => max (causeCode x.cause) (let v := kget 1 s.dia.map e; if v = 1 then 0 else v))

/-- The emitters of a fault that is gone take the code of what still covers them, or `base` (R352). -/
def State.uncover (s : State) (x : FaultEntry) (base : Nat) : State :=
  let others := (s.dia.faults.filter FaultEntry.stands).map (fun y => (faultCover s y, causeCode y.cause))
  s.setCodes (faultCover s x) (fun e =>
    others.foldl (fun a o => if o.1.contains e then max a o.2 else a) (if others.any (fun o => o.1.contains e) then 0 else base))

/-! ## The list (R353) -/

/-- The same subject with the same cause. -/
def FaultEntry.same (x : FaultEntry) (level subject cause : Nat) : Bool :=
  x.level == level && x.subject == subject && x.cause == cause

/-- An entry of the list. -/
def findFault (s : State) (level subject cause : Nat) : Option FaultEntry :=
  s.dia.faults.find? (fun x => x.same level subject cause)

/-- An entry replaced in its place. -/
def State.putFault (s : State) (x : FaultEntry) : State :=
  { s with dia := { s.dia with faults := s.dia.faults.map (fun y => if y.same x.level x.subject x.cause then x else y) } }

/-- An entry removed. -/
def State.dropFault (s : State) (x : FaultEntry) : State :=
  let l := s.dia.faults.filter (fun y => !y.same x.level x.subject x.cause)
  { s with dia := { s.dia with faults := l, listFull := s.dia.listFull && decide (4096 ≤ l.length) } }

/-- The two words of an entry (R353). -/
def faultWords (x : FaultEntry) : Nat × Nat :=
  let st := match x.st with
    | .candidate => 0
    | .declared => 1
    | .clearing => 2
  ((mkWord [(31, 1), (29, st), (25, x.cause), (22, x.level), (0, x.subject)]).toNat, x.first % 2 ^ 32)

/-- The list has no space for a new subject (R353). -/
def State.listIsFull (s : State) : State :=
  if s.dia.listFull then s
  else
    let s : State := { s with dia := { s.dia with listFull := true } }
    (s.setC Reg.DIA_ERR 16).raise .core Ev.FAULT_LIST_FULL 0

/-- An entry added at the end; a standing one takes the place of the newest candidate where the list is full, and
another is not entered (R353). -/
def State.addFault (s : State) (x : FaultEntry) : Bool × State :=
  let l := s.dia.faults
  if l.length < 4096 then (true, { s with dia := { s.dia with faults := l ++ [x] } })
  else
    let s := s.listIsFull
    match (l.filter (fun y => decide (y.st = .candidate))).getLast?, x.stands with
    | some c, true =>
      (true, { s with dia := { s.dia with faults := l.filter (fun y => !y.same c.level c.subject c.cause) ++ [x] } })
    | _, _ => (false, s)

/-- The event of a declaration (R359). -/
def faultEvent (cause : Nat) : EvKind :=
  if cause = 1 ∨ cause = 2 then Ev.EMITTER_FAULT
  else if cause = 3 then Ev.NEIGHBOUR_SHORT
  else if cause = 4 then Ev.ROW_STUCK_OFF
  else if cause = 5 then Ev.ROW_STUCK_ON
  else if cause = 10 then Ev.COLUMN_LEAK
  else Ev.DRIVER_FAULT

/-- An event about a fault. -/
def State.faultRaise (s : State) (k : EvKind) (x : FaultEntry) (left : Nat := 0) : State :=
  s.raise .core k (faultChain s x) (faultWords x).1 (faultWords x).2 left

/-- A fault in the list becomes declared: codes and flag; its event is the caller's. -/
def State.declareFault (s : State) (x : FaultEntry) : State :=
  (((s.putFault x).coverDeclared x).setC Reg.DIA_ERR 1).mapChanged

/-- A declared fault clears; its emitters return to GOOD (R349, R352). -/
def State.clearFault (s : State) (x : FaultEntry) : State :=
  ((((s.dropFault x).uncover x 0).setC Reg.DIA_ERR 2).faultRaise Ev.FAULT_CLEARED x).mapChanged

/-- A chain becomes a declared subject with its bit in `CCH_BROKEN` (R348). -/
def State.chainFault (s : State) (ch : Nat) : State :=
  let x : FaultEntry := { st := .declared, cause := 9, level := 5, subject := ch, first := s.scn.frame,
                          count := 1, passes := 0, failed := true }
  if (findFault s 5 ch 9).isSome then s
  else
    let r := s.addFault x
    if r.1 then r.2.declareFault x else r.2

/-- The chain subject ends with the bit; the emitters take the code `base` (R348, R352). -/
def State.chainFaultEnds (s : State) (ch base : Nat) : State :=
  match findFault s 5 ch 9 with
  | none => s
  | some x => (((s.dropFault x).uncover x base).setC Reg.DIA_ERR 2).mapChanged

/-! ## Reset, archive and restore (R355, R356) -/

/-- The cycle restarts at round 0 and the round in progress is given up. -/
def State.restartCycle (s : State) : State :=
  { s with dia := { s.dia with round := 0, phase := .idle, burstsSent := false, armed := none, reading := false,
                               cycleStart := none, lateRaised := false, defer := 0 } }

/-- Every entry UNTESTED, the list empty, the cycle at round 0 (R356); a chain stays a declared subject for as long as it
is broken (R348; log entry 45). -/
def State.faultReset (s : State) : State :=
  let s := s.restartCycle
  let kept := s.dia.faults.filter (fun x => x.cause == 9)
  let s : State := { s with dia := { s.dia with map := [], faults := kept, listFull := false } }
  (kept.foldl (fun (s : State) x => s.coverDeclared x) s).mapChanged

/-- `DIA_CMD.CLEAR`: R356 with the archived copy erased; during step 2 of a commit it waits for the end of the
window (R536). -/
def State.diaClear (s : State) : State :=
  if cmtStep s == 2 then { s with cmt := { s.cmt with deferClear := true } }
  else
    let s := s.faultReset
    { s with arc := { s.arc with faults := none }, dia := { s.dia with dirty := false } }

/-- `DIA_CLEAR`. -/
def execDiaClear (s : State) : Out := .next s.diaClear

/-- `DIA_RESTART`: a write of 1 to `DIA_CMD.RESTART`. -/
def execDiaRestart (s : State) : Out := .next s.restartCycle

/-- CRC-32C of the active bank of the channel map (R355). -/
def mapCrc (s : State) : Nat :=
  crc32c ((List.range 98304).flatMap (fun i => bytesLE 4 (activeWord s 4 i).toNat))

/-- The bytes of an entry of the fault list. -/
def faultBytes (x : FaultEntry) : List Nat :=
  [x.cause, x.level] ++ bytesLE 4 x.subject ++ bytesLE 8 x.first ++ bytesLE 2 x.count

/-- The bytes that the CRC of the archived map and list covers (R355; log entry 97). -/
def arcFaultBytes (a : ArcFaults) : List Nat :=
  (List.range (3 * a.w * a.h)).map (fun e => kget 1 a.map e) ++ a.declared.flatMap faultBytes ++
    bytesLE 2 a.w ++ bytesLE 2 a.h ++ bytesLE 4 a.mapCrc

/-- What the Docent writes to the archive for the fault map and list (R355). -/
def arcFaults (s : State) : ArcFaults :=
  let a : ArcFaults := { map := s.dia.map, declared := s.dia.faults.filter FaultEntry.stands, w := s.width, h := s.height,
                         mapCrc := mapCrc s, crc := 0 }
  { a with crc := crc32c (arcFaultBytes a) }

/-- `FAULTMAP_ARCHIVE`: within 60 s of a change the Docent writes map and list (R355). -/
def execFaultmapArchive (s : State) : Out :=
  .next (s.onlyIf (s.dia.dirty && s.docentRuns) (fun s =>
    { s with arc := { s.arc with faults := some (arcFaults s) }, dia := { s.dia with dirty := false } }))

/-- `DIA_DECIDE.DECL`. -/
def faultDecl (s : State) : Nat := max 1 (s.rfld Reg.DIA_DECIDE 0 4)

/-- The archived copy at the first commit (R355). A chain subject lives with its bit in `CCH_BROKEN` (R348), so the
chains broken by then are the ones declared after it. -/
def State.restoreFaults (s : State) : State :=
  match s.arc.faults with
  | none => s
  | some a =>
    if a.crc ≠ crc32c (arcFaultBytes a) then (s.setC Reg.DIA_ERR 32).raise .core Ev.FAULTMAP_RESTORE_FAIL 0
    else if a.w = s.width ∧ a.h = s.height ∧ a.mapCrc = mapCrc s then
      let map := a.map.filter (fun p => p.2 != 3)
      let list := (a.declared.filter (fun x => x.level != 5)).map (fun x =>
        { x with st := .declared, count := faultDecl s, passes := 0, failed := false })
      let s : State := { s with dia := { s.dia with map := map, faults := list } }
      let s := (List.range 32).foldl (fun (s : State) n =>
        if (vget s.cch.lane n).broken then s.chainFault n else s) s
      s.concealCheck
    else s

/-! ## Data ports (R351, R353) -/

/-- Sixteen codes of the map. -/
def mapWord (s : State) (j : Nat) : Word :=
  mkWord ((List.range 16).map (fun m => (2 * m, faultCode s (16 * j + m))))

/-- A read of `DIA_MAP_DATA`. -/
def diaMapPort (s : State) : Word × State :=
  let j := s.rfld Reg.DIA_MAP_INDEX 0 18
  (mapWord s j, s.setRfld Reg.DIA_MAP_INDEX 0 18 (j + 1))

/-- Word `w` of the fault list. -/
def faultListWord (s : State) (w : Nat) : Word :=
  match s.dia.faults[w / 2]? with
  | none => 0
  | some x => BitVec.ofNat 32 (if w % 2 = 0 then (faultWords x).1 else (faultWords x).2)

/-- A read of `DIA_FLT_DATA`. -/
def diaFltPort (s : State) : Word × State :=
  let w := s.rfld Reg.DIA_FLT_INDEX 0 13
  (faultListWord s w, s.setRfld Reg.DIA_FLT_INDEX 0 13 (w + 1))

/-- `DIA_MAP_DATA_ACCESS`. -/
def execDiaMapDataAccess (_r : Reader) (s : State) : Out := .next (diaMapPort s).2

/-- `DIA_FLT_DATA_ACCESS`. -/
def execDiaFltDataAccess (_r : Reader) (s : State) : Out := .next (diaFltPort s).2

/-- The region of emitters that item 0x03 of QUERY returns (R354). -/
def queryFaults (s : State) (r : Nat) : List Nat :=
  let n := min 8192 (emitterCount s - 8192 * r)
  let code := fun (i : Nat) => faultCode s (8192 * r + i)
  let count := fun (c : Nat) => ((List.range n).filter (fun i => code i == c)).length
  bytesLE 4 r ++ bytesLE 4 n ++ bytesLE 2 (count 2) ++ bytesLE 2 (count 3) ++ bytesLE 4 s.scn.frame ++
    (List.range 2048).map (fun b => lsum ((List.range 4).map (fun m => code (4 * b + m) * 4 ^ m)))

end Sys2Proof.Machine
end

