-- ==== Sys2Proof/Machine/Chain.lean ====
section
/-! DEFINITION. The column chains (R305 to R336): commands, reload and training, readback, driver status, data ports and
the CCH registers. -/

namespace Sys2Proof.Machine

/-- Every chain and the row bus stay disabled where the VIOC class is invalid (R83, R309). -/
def chainsLive (s : State) : Bool := decide (s.pwr.viocClass < 3)

/-- The VIOC bank is held low: in a reset, after `VIOC_FAULT`, by the hard cut, by EXTEST, by stand-by or by a lost SCAN lock
(R50, R52, R62, R74, R81, R466). -/
def outputsHeld (s : State) : Bool :=
  s.pwr.inReset || s.pwr.viocHold || s.thm.hardCut || decide (s.dbg.ir = .extest) || s.pwr.standby || !s.pwr.scanLock

/-- The chains and the row bus are driven. -/
def chainsDriven (s : State) : Bool := chainsLive s && !outputsHeld s

/-! ## Commands (R312, R337) -/

/-- The rising DCK edges at which LAT is high. -/
def DrvCmd.lat : DrvCmd → Nat
  | .lineStore => 2
  | .frameSync => 3
  | .frameSwap => 4
  | .loadStart => 5
  | .statusCapture => 6
  | .configStore => 7
  | .reload => 8
  | .diagLine => 10
  | .diagRows => 11
  | .diagEven => 12
  | .diagOdd => 13

/-- A command to every group with an enabled chain; none while the chains are not driven. -/
def State.command (s : State) (c : DrvCmd) : State :=
  s.onlyIf (chainsDriven s) (fun s => s.emits ((groupList (actSet s)).map (fun g => Output.driver g c c.lat)))

/-- GCK of the groups with an enabled chain starts or stops (R286). -/
def State.gckRun (s : State) (runs : Bool) : State :=
  if s.scn.gck = runs then s
  else
    let s : State := { s with scn := { s.scn with gck := runs } }
    s.emits ((groupList (actSet s)).map (fun g => Output.gck g runs))

/-- The row bus rests: ROWEN low, line 0, and GCK stopped (R286, R330). -/
def State.rowRest (s : State) : State :=
  let s := s.gckRun false
  let s : State := { s with scn := { s.scn with rowen := false, ra := 0 } }
  s.emit (.row none false 0)

/-! ## Configuration words (R321) -/

/-- Configuration word `i` of a driver. -/
def configWord (s : State) (i : Nat) : Nat :=
  let g := actSet s
  if i = 0 then
    (mkWord [(9, b2n s.pwr.legacy), (5, tD g - 10), (2, tLogNsf g), (0, tScan g)]).toNat
  else if i = 1 then tLb g
  else (kget 0 s.cch.cfgAct (i - 2)).toNat

/-- The configuration shifted to every driver of every enabled chain, in upload order; a 12-bit word carries the lower 12 bits
of an entry (R335; log entry 93). -/
def State.sendConfig (s : State) : State :=
  let g := actSet s
  let seg := 0 :: (List.range (cC g)).map (fun k => cC g - k)
  let word := fun (i : Nat) => configWord s i % (if s.pwr.legacy then 2 ^ 12 else 2 ^ 16)
  let words := (List.range (cNd g)).flatMap (fun _ => seg.map word)
  s.emits ((chainList g).map (fun n => Output.line n 0 words))

/-! ## Broken chains (R323, R325) -/

/-- A chain is marked broken, and its subject is declared (R348); its results of the rounds under way do not count (R345). -/
def State.breakChain (s : State) (n : Nat) : State :=
  let s : State := { s with dia := { s.dia with hurt := n :: s.dia.hurt, hurtNext := n :: s.dia.hurtNext } }
  (s.modChain n (fun x => { x with broken := true, clean := 0 })).chainFault n

/-- The mark goes away; the chain's emitters take the code `base`, UNTESTED where the chain is restored (R352). -/
def State.mendChain (s : State) (n base : Nat) : State :=
  (s.modChain n (fun x => { x with broken := false, bad := 0, clean := 0 })).chainFaultEnds n base

/-- A chain fails training (R323). -/
def State.trainFail (s : State) (n : Nat) : State :=
  ((s.breakChain n).setC Reg.CCH_ERR 4).raise .scan Ev.CHAIN_TRAIN_FAIL n

/-- Bits of the PRBS7 pattern x^7 + x^6 + 1 from a register content on (log entry 94). -/
def prbs7 : Nat → Nat → List Bool
  | 0, _ => []
  | n + 1, x => x.testBit 6 :: prbs7 n (x * 2 % 128 + (natBits x 6 1 + natBits x 5 1) % 2)

/-- The training pattern, `n` bits from its start. -/
def trainBits (n : Nat) : List Bool := prbs7 n 127

/-- The runs of true values of a list: where each starts, and its length. -/
def goodRuns : Nat → Nat → List Bool → List (Nat × Nat)
  | i, n, [] => if n = 0 then [] else [(i - n, n)]
  | i, n, true :: l => goodRuns (i + 1) (n + 1) l
  | i, n, false :: l => (if n = 0 then [] else [(i - n, n)]) ++ goodRuns (i + 1) 0 l

/-- The centre of the longest run, of the first of several; which of two middle phases is open (log entry 94). -/
def centrePhase (good : List Bool) : Nat :=
  let r := (goodRuns 0 0 good).foldl (fun (a : Nat × Nat) x => if a.2 < x.2 then x else a) (0, 0)
  r.1 + (if r.2 % 2 = 0 then r.2 / 2 - b2n (Config.either 94 r.2) else r.2 / 2)

/-- The offset at which the pattern reappears, over a whole period of it. -/
def trainLatency (seen : List Bool) : Option Nat :=
  (List.range 64).find? (fun n => (seen.drop n).take 127 == trainBits 127)

/-- Phases at which 256 words came without an error. -/
def trainGood (tries : List (List Bool)) : List Bool :=
  (List.range 16).map (fun ph => tries.getD ph [] == trainBits 4096)

/-- The phase and the latency that training finds; none where it fails (R323). -/
def trainResult (x : TrainIn) : Option (Nat × Nat) :=
  match trainLatency x.seen with
  | none => none
  | some lat => if ((trainGood x.tries).filter id).length < 4 then none else some (centrePhase (trainGood x.tries), lat)

/-- The pattern goes through every enabled chain, and on for 256 words at each of the 16 phases (R322, R323). -/
def State.sendTraining (s : State) : State :=
  let g := actSet s
  s.emits ((chainList g).map (fun n => Output.train n (cNd g * (cC g + 1) + 4096)))

/-- The result of training one chain: phase and latency, or none where it fails. A mark that a chain already has ends
under R325 only. -/
def State.trainChain (s : State) (n : Nat) (r : Option (Nat × Nat)) : State :=
  match r with
  | none => s.trainFail n
  | some (ph, lat) => s.modChain n (fun x => { x with phase := ph % 16, latency := lat % 64 })

/-! ## Readback (R324, R325) -/

/-- FAIL_LIMIT and RESTORE. -/
def failLimit (s : State) : Nat := max 1 (s.rfld Reg.CCH_STAT_CTL 8 8)
/-- RESTORE. -/
def restoreLimit (s : State) : Nat := max 1 (s.rfld Reg.CCH_STAT_CTL 16 8)

/-- One chain after the comparisons of one upload, in which some line differed or none. -/
def State.readbackChain (s : State) (n : Nat) (differs : Bool) : State :=
  let x := vget s.cch.lane n
  match differs with
  | false =>
    let s := s.modChain n (fun x => { x with bad := 0, clean := min 255 (x.clean + 1) })
    if x.broken && decide (restoreLimit s ≤ x.clean + 1) then (s.mendChain n 1).raise .scan Ev.CHAIN_RESTORED n else s
  | true =>
    let s := s.modChain n (fun x => { x with bad := min 255 (x.bad + 1), clean := 0 })
    let s := (s.setC Reg.CCH_ERR 1).raise .scan Ev.CHAIN_READBACK_MISMATCH n
    if !x.broken && decide (failLimit s ≤ x.bad + 1) then
      ((s.breakChain n).setC Reg.CCH_ERR 2).raise .scan Ev.CHAIN_BROKEN n
    else s

/-- The mismatches of one upload in the order in which they are found: line S - 1 of the upload before comes first, during
line 0, where nothing was shifted since; of one line the chains in ascending order (R324; log entry 95). -/
def mismatches (s : State) (bad : List (Nat × Nat)) : List (Nat × Nat) :=
  let last := tS (actSet s) - 1
  (last :: List.range last).flatMap (fun l =>
    ((chainList (actSet s)).filter (fun n => bad.contains (n, l) && (l != last || s.cch.lastLineValid))).map (fun n => (n, l)))

/-- The comparisons of the upload of frame `f`; `bad` lists the chains and lines that differ. -/
def State.readback (s : State) (f : Nat) (bad : List (Nat × Nat)) : State :=
  let found := mismatches s bad
  let s := match found.getLast? with
    | none => s
    | some (n, l) => { s with cch := { s.cch with lastMismatch := some (n, l, f % 65536) } }
  (chainList (actSet s)).foldl (fun (s : State) n => s.readbackChain n (found.any (fun x => x.1 == n))) s

/-! ## Reload (R322, R323) -/

/-- A frame in which a reload runs: the first of two dark frames. -/
def reloadFrame (s : State) : Bool :=
  (match s.scn.dark with
   | some (.timing 2) => true
   | some (.reload 2) => true
   | _ => false) && !s.cch.reloaded && !outputsHeld s && chainsLive s

/-- STATUS_CAPTURE, and zeros shifted in while the status words leave (R326). -/
def State.shiftStatus (s : State) : State :=
  let s := s.command .statusCapture
  let g := actSet s
  s.emits ((chainList g).map (fun n => Output.line n 0 (List.replicate (cNd g * (cC g + 1)) 0)))

/-- `DRIVER_RELOAD`: RELOAD, configuration, training, status (R322). `trained` gives what each of the 32 chains shows; those
that are not enabled are not looked at. -/
def execDriverReload (trained : List TrainIn) (s : State) : Out :=
  if trained.length ≠ 32 then .fault (.illFormed "DRIVER_RELOAD")
  else .next (s.onlyIf (reloadFrame s) (fun s =>
    let s := (((s.command .reload).sendConfig).command .configStore).sendTraining
    let s := (chainList (actSet s)).foldl (fun (s : State) n => s.trainChain n (trainResult (trained.getD n ⟨[], []⟩))) s
    let s := s.shiftStatus
    -- RELOAD discards all arms; the round runs again from its first command (R337, R345).
    let lost := decide (s.dia.phase ≠ .idle)
    let s : State := { s with
      cch := { s.cch with reloaded := true, lastLineValid := false, statBusy := true, statFrames := 0, statDue := false,
                          statDefer := 0 }
      dia := { s.dia with phase := .idle, burstsSent := false, armed := none, reading := false, defer := 0 } }
    s.onlyIf lost (fun s => s.setC Reg.DIA_ERR 4)))

/-! ## Driver status (R326, R327, R350) -/

/-- INTERVAL. -/
def statInterval (s : State) : Nat := s.rfld Reg.CCH_STAT_CTL 0 8

/-- Places of the status words of driver `d` in the order of CQ. -/
def statusBase (s : State) (d : Nat) : Nat := (cNd (actSet s) - 1 - d) * (cC (actSet s) + 1)

/-- Status word 0 of a driver. -/
def statusWord0 (s : State) (ws : List Nat) (d : Nat) : Nat := ws.getD (statusBase s d) 0

/-- The status word of a channel position. -/
def statusChannel (s : State) (ws : List Nat) (pos : Nat) : Nat :=
  let c := cC (actSet s)
  ws.getD (statusBase s (pos / c) + c - pos % c) 0

/-- The last read stored (R327). -/
def State.storeStatus (s : State) (words : List (List Nat)) : State :=
  let n := cNd (actSet s) * (cC (actSet s) + 1)
  let dst := (chainList (actSet s)).flatMap (fun ch =>
    ((words.getD ch []).take n).zipIdx.filterMap (fun w =>
      if w.1 % 65536 = 0 then none else some (8192 * ch + w.2, BitVec.ofNat 32 (w.1 % 65536))))
  let old := s.cch.dst.filter (fun p => !(cEn (actSet s)).testBit (p.1 / 8192))
  { s with cch := { s.cch with dst := (dst.foldl (fun m p => kset m p.1 p.2) old) } }

/-- One driver's status word 0: CRCERR, CFGERR, OT. -/
def State.driverStatus (s : State) (ch d w : Nat) : State :=
  let s := if hasBit w 0 then (s.setC Reg.CCH_ERR 8).raise .scan Ev.CHAIN_LINE_CRC ch d else s
  let s := if hasBit w 1 then (s.setC Reg.CCH_ERR 16).raise .scan Ev.DRIVER_CFG_ERROR ch d else s
  let was := s.dia.ot.contains (ch, d)
  if hasBit w 2 then
    if was then s
    else
      let s : State := { s with dia := { s.dia with ot := s.dia.ot ++ [(ch, d)] } }
      s.raise .core Ev.DRIVER_OVERTEMP ch d
  else { s with dia := { s.dia with ot := s.dia.ot.filter (fun x => x != (ch, d)) } }

/-- The words of every driver of the enabled chains; a driver that such a chain has no more shows no OT (R350). -/
def State.driversStatus (s : State) (words : List (List Nat)) : State :=
  let g := actSet s
  let s : State := { s with dia := { s.dia with
    ot := s.dia.ot.filter (fun x => !((cEn g).testBit x.1 && decide (cNd g ≤ x.2))) } }
  (chainList (actSet s)).foldl (fun (s : State) ch =>
    (List.range (cNd (actSet s))).foldl (fun (s : State) d =>
      s.driverStatus ch d (statusWord0 s (words.getD ch []) d)) s) s

/-- A read that is due could not be made in this frame (R326, R345). -/
def State.deferRead (s : State) : State :=
  let n := s.cch.statDefer + 1
  let s : State := { s with
    cch := { s.cch with statDefer := min 65535 n }
    dia := { s.dia with defer := if s.dia.phase = .awaiting then min 255 (s.dia.defer + 1) else s.dia.defer } }
  if n = 64 then (s.setC Reg.CCH_ERR 32).raise .scan Ev.CHAIN_STATUS_STARVED 0 else s

/-! ## Data ports -/

/-- An access to `CCH_CFG_DATA` (R93, R321). -/
def cfgPort (s : State) (write : Option Word) : Word × State :=
  let i := s.rfld Reg.CCH_CFG_INDEX 0 6
  let next := fun (s : State) => s.setRfld Reg.CCH_CFG_INDEX 0 6 (i + 1)
  match write with
  | none => (kget 0 s.cch.cfg i, next s)
  | some w => (0, next { s with cch := { s.cch with cfg := kput 0 s.cch.cfg i (mkWord [(0, fld w 0 16)]) } })

/-- `CCH_CFG_DATA_ACCESS`. -/
def execCchCfgDataAccess (_r : Reader) (write : Option Word) (s : State) : Out := .next (cfgPort s write).2

/-- A read of `CCH_DST_DATA` (R327). -/
def dstPort (s : State) : Word × State :=
  let ch := s.rfld Reg.CCH_DST_INDEX 24 5
  let p := s.rfld Reg.CCH_DST_INDEX 0 12
  let w := fun (i : Nat) => fld (kget 0 s.cch.dst (8192 * ch + i)) 0 16
  (mkWord [(16, w (2 * p + 1)), (0, w (2 * p))], s.setRfld Reg.CCH_DST_INDEX 0 12 (p + 1))

/-- `CCH_DST_DATA_ACCESS`. -/
def execCchDstDataAccess (_r : Reader) (s : State) : Out := .next (dstPort s).2

/-! ## Registers -/

/-- What a CCH register holds of a word written. -/
def cchStored (addr : Nat) (w : Word) : Word :=
  if addr = Reg.CCH_GEOM then mkWord [(16, fld w 16 8), (0, fld w 0 2)]
  else if addr = Reg.CCH_DCK then mkWord [(0, min 16 (max 2 (fld w 0 5)))]
  else if addr = Reg.CCH_ROW then mkWord [(0, max 1 (fld w 0 8))]
  else if addr = Reg.CCH_CFG_INDEX then mkWord [(0, fld w 0 6)]
  else if addr = Reg.CCH_STAT_CTL then mkWord [(16, max 1 (fld w 16 8)), (8, max 1 (fld w 8 8)), (0, fld w 0 8)]
  else if addr = Reg.CCH_DST_INDEX then mkWord [(24, fld w 24 5), (0, fld w 0 12)]
  else w

/-- The CCH registers that show state. -/
def viewCch (s : State) (addr : Nat) : Option Word :=
  if addr = Reg.CCH_U then some (mkWord [(0, tU s.pwr.legacy (actSet s) % 2 ^ 24)])
  else if addr = Reg.CCH_BROKEN then
    some (BitVec.ofNat 32 (bitsOf 32 (fun n => (vget s.cch.lane n).broken)))
  else if addr = Reg.CCH_RB_LAST then
    some (match s.cch.lastMismatch with
      | none => 0
      | some (n, l, f) => mkWord [(24, n), (16, l), (0, f)])
  else if Reg.CCH_CQ_PH0 ≤ addr ∧ addr ≤ Reg.CCH_CQ_PH3 then
    let r := (addr - Reg.CCH_CQ_PH0) / 4
    some (mkWord ((List.range 8).map (fun m => (4 * m, (vget s.cch.lane (8 * r + m)).phase))))
  else none

end Sys2Proof.Machine
end

