-- ==== Sys2Proof/Machine/Diagnostics.lean ====
section
/-! DEFINITION. Emitter diagnostics (R337 to R350, R358, R359): rounds, their commands and bursts, status reads, the
classification of a read and the counting of its subjects, and the DIA registers. -/

namespace Sys2Proof.Machine

/-! ## Rounds (R342 to R347)

Every round that can be read in its own frame takes one frame, so that its successor's DIAG_LINE goes out in the
upload that carries its bursts (R343, R347 and the worked example of R358); where its read will not fit, the next round
begins after the read (R342). -/

/-- The light gate in force: the lower of the two (R289). -/
def lightGate (s : State) : Nat := min s.scn.gateA s.scn.gateB

/-- A round may be armed (R345). -/
def diaMayArm (s : State) : Bool :=
  bitOf (s.reg Reg.DIA_CTL) 0 && s.scn.dark.isNone && lightGate s == 65535

/-- Number of the rows round. -/
def rowsRound (s : State) : Nat := tS (actSet s)

/-- Bursts of a round. -/
def roundBursts (s : State) (r : Nat) : Nat := if r = rowsRound s then 1 else 2

/-- FBI of the frame in progress (R285, R294). -/
def frameFbi (s : State) : Nat := s.scn.fbi.getD (tFbi (actSet s)).toNat

/-- Length of the frame in progress, in SCAN cycles. -/
def frameLen (s : State) : Nat := tA (actSet s) + frameFbi s

/-- The end of the last of `n` bursts, in SCAN cycles after the frame boundary (R341). -/
def burstsEnd (s : State) (n : Nat) : Nat := tA (actSet s) + n * 1056

/-- The blanking interval holds `n` bursts (R341). -/
def burstsFit (s : State) (n : Nat) : Bool := decide (burstsEnd s n + 1200 ≤ frameLen s)

/-- The latest end of an upload, in SCAN cycles after the frame boundary (R290, R317). -/
def uploadEnd (s : State) : Nat := 400 + tU s.pwr.legacy (actSet s) * cDiv (actSet s)

/-- A read after `FDONE` and after `n` bursts ends 2 µs before the upload deadline (R326, R344); a read follows the last
burst by 1 µs. -/
def readFits (s : State) (n : Nat) : Bool :=
  let g := actSet s
  let start := if n = 0 then uploadEnd s else max (uploadEnd s) (burstsEnd s n + 400)
  decide (start + readPeriods s.pwr.legacy g * cDiv g + 1600 ≤ frameLen s)

/-- The lines of an upload finish 2 µs before the deadline: diagnostic commands may stand at its trailers (R326). -/
def diaFits (s : State) : Bool := decide (uploadEnd s + 1600 ≤ frameLen s)

/-- A round given up, to be run again from its first command (R345). -/
def State.discardRound (s : State) : State :=
  let s : State := { s with dia := { s.dia with phase := .idle, burstsSent := false, armed := none, reading := false } }
  s.setC Reg.DIA_ERR 4

/-- The line of an upload after whose LINE_STORE the DIAG_LINE of line round `r` goes out (R337, R343). -/
def diagAfter (s : State) (r : Nat) : Nat := if r = 0 then tS (actSet s) - 1 else r - 1

/-- The commands of diagnostics in one upload, each with the line after whose LINE_STORE it goes out, and the state
after it. -/
abbrev DiaPlan := List (Nat × DrvCmd) × State

/-- Chains that are broken as a round begins (R345). -/
def brokenChains (s : State) : List Nat := (List.range 32).filter (fun n => (vget s.cch.lane n).broken)

/-- The next round's DIAG_LINE goes out ahead where this round's read will fit in the frame. -/
def State.armAhead (s : State) (sent : List (Nat × DrvCmd)) : DiaPlan :=
  let next := if s.dia.round = rowsRound s then 0 else s.dia.round + 1
  if diaMayArm s && next != rowsRound s && readFits s (roundBursts s s.dia.round) then
    (sent ++ [(diagAfter s next, .diagLine)],
      { s with dia := { s.dia with armed := some (s.scn.frame + 1), hurtNext := brokenChains s } })
  else (sent, s)

/-- The cycle begins with the test frame of round 0. -/
def State.cycleBegins (s : State) (k : Nat) : State :=
  if s.dia.round = 0 ∧ s.dia.cycleStart = none then { s with dia := { s.dia with cycleStart := some k } } else s

/-- The commands that the upload of frame f + 1 carries while frame f is shown (R343). Where its lines end too late for any,
a round that has begun is run again (R326, R345). -/
def State.diaUpload (s : State) : DiaPlan :=
  let f := s.scn.frame
  match s.dia.phase with
  | .awaiting => ([], s)
  | .armed =>
    if s.dia.testFrame = f ∧ ¬ s.dia.burstsSent then
      if !diaFits s then ([], s.discardRound) else
      let s : State := { s with dia := { s.dia with burstsSent := true } }
      s.armAhead [(0, .diagEven), (1, .diagOdd)]
    else ([], s)
  | .idle =>
    if !diaMayArm s || !diaFits s then ([], s)
    else if s.dia.round = rowsRound s then
      let s : State := { s with dia := { s.dia with phase := .armed, testFrame := f, burstsSent := true, hurt := brokenChains s } }
      s.armAhead [(0, .diagRows)]
    else
      let s : State := { s with dia := { s.dia with phase := .armed, testFrame := f + 1, burstsSent := false, hurt := brokenChains s } }
      ([(diagAfter s s.dia.round, .diagLine)], s.cycleBegins (f + 1))

/-- A burst of every enabled group begins `at'` SCAN cycles after `SOB`: edges 1 to 9 at 12.5 MHz (R341). -/
def State.gckBurst (s : State) (at' : Nat) : State :=
  s.emits ((groupList (actSet s)).map (fun g => Output.gckBurst g at' 9))

/-- `DIAG_BURST`: the queued bursts run in the blanking interval of the test frame, before the upload deadline: the first
2 µs after `SOB`, the second 2 µs after edge 9 of the first (R319, R339, R341). -/
def execDiagBurst (s : State) : Out :=
  .next (if s.scn.blanking && s.scn.dark.isNone && decide (s.dia.phase = .armed) && s.dia.testFrame == s.scn.frame &&
      s.dia.burstsSent && !s.scn.deadlineDone && chainsDriven s && burstsFit s (roundBursts s s.dia.round) then
    let s := (List.range (roundBursts s s.dia.round)).foldl (fun (s : State) i => s.gckBurst (800 + 1056 * i)) s
    { s with dia := { s.dia with phase := .awaiting, defer := 0 } }
  else s)

/-- The light gate is below full: a round before its last sample is given up (R345, R358). -/
def State.diaGate (s : State) : State :=
  if lightGate s == 65535 then s
  else if s.dia.phase = .armed then s.discardRound
  else { s with dia := { s.dia with armed := none } }

/-- The round's read has been deferred long enough to take the chain time of an upload (R346). -/
def stealDue (s : State) : Bool :=
  bitOf (s.reg Reg.DIA_CTL) 1 && decide (s.dia.phase = .awaiting) && decide (4 ≤ s.dia.defer)

/-- The frame that begins is a dark frame of a timing commit, in which a steal would fall or ends (R358). -/
def stealLost (s : State) : Bool :=
  (match s.scn.dark with
   | some (.timing _) => true
   | _ => false) && bitOf (s.reg Reg.DIA_CTL) 1 && decide (s.dia.phase = .awaiting) && (decide (4 ≤ s.dia.defer) || s.dia.reading)

/-- The boundary of frame f: a test frame that is dark, or a round whose frame has passed without its bursts, is run
again (R345, R358); the cycle is late beyond LIMIT frames (R347). -/
def State.diaBoundary (s : State) : State :=
  let f := s.scn.frame
  let s := if stealLost s ∨ s.dia.phase = .armed ∧ (s.dia.testFrame < f ∨ s.scn.dark.isSome) then s.discardRound
           else if s.dia.phase ≠ .idle ∧ s.dia.armed.any (fun k => decide (k ≤ f)) then
             { s with dia := { s.dia with armed := none } }
           else s
  let limit := s.rfld Reg.DIA_COVER 16 16
  match s.dia.cycleStart with
  | none => s
  | some k =>
    if limit ≠ 0 ∧ ¬ s.dia.lateRaised ∧ limit < f - k + 1 then
      let s : State := { s with dia := { s.dia with lateRaised := true } }
      (s.setC Reg.DIA_ERR 8).raise .core Ev.DIAG_COVERAGE_LATE 0
    else s

/-! ## Status reads (R326, R344, R346) -/

/-- A read begins. -/
def State.beginRead (s : State) : State :=
  let s := s.shiftStatus
  { s with
    cch := { s.cch with statBusy := true, statFrames := 0, statDue := false, statDefer := 0, lastLineValid := false }
    dia := { s.dia with reading := decide (s.dia.phase = .awaiting), defer := 0 } }

/-- A read waits to be made in this frame: the round's, or the periodic one while no round waits or runs. -/
def readDue (s : State) : Bool :=
  decide (s.dia.phase = .awaiting) || (decide (s.dia.phase = .idle) && s.cch.statDue)

/-- `STATUS_READ`: after `FDONE`, where it can end 2 µs before the deadline. -/
def execStatusRead (s : State) : Out :=
  .next (s.onlyIf (readDue s && !s.cch.statBusy && !s.scn.swapSent && s.scn.dark.isNone && !outputsHeld s &&
      s.scn.upload.any (fun u => u.complete) &&
      readFits s (if s.dia.phase = .awaiting ∧ s.dia.testFrame = s.scn.frame then roundBursts s s.dia.round else 0))
    State.beginRead)

/-- `DIAG_STEAL`: the round's read takes the chain time of the next upload (R346); a timing commit with dark frames that is
due takes precedence, and the round is run again (R358). -/
def execDiagSteal (s : State) : Out :=
  .next (s.onlyIf (stealDue s && s.scn.upload.isNone && s.scn.dark.isNone && !s.cch.statBusy && !outputsHeld s)
    (fun s =>
      if s.cmt.due && s.cmt.cost != 0 then s.discardRound
      else
      let s := s.beginRead
      { s with
        scn := { s.scn with skipped := (s.scn.frame + 1) :: s.scn.skipped }
        dia := { s.dia with steals := (s.dia.steals + 1) % 256 } }))

/-! ## Classification (R348) -/

/-- A subject that failed: level, subject, cause. -/
structure Fail where
  level : Nat
  subject : Nat
  cause : Nat
  deriving DecidableEq, Repr

/-- A channel with the emitter that it serves in the round. -/
structure Chan where
  ch : Nat
  pos : Nat
  emitter : Nat
  w : Nat
  deriving DecidableEq, Repr

/-- Chains whose results count: those that have been broken at no time in the round (R345). -/
def soundChains (s : State) : List Nat :=
  (chainList (actSet s)).filter (fun n => !(vget s.cch.lane n).broken && !s.dia.hurt.contains n)

/-- Rule 1: what status word 0 of a driver shows. -/
def driverFail (s : State) (w : Nat) : Option Nat :=
  if hasBit w 1 then some 7 else if natBits w 4 6 ≠ tS (actSet s) % 64 then some 8 else none

/-- Rule 1 over all drivers of the sound chains. -/
def rule1 (s : State) (words : List (List Nat)) : List Fail :=
  (soundChains s).flatMap (fun n => (List.range (cNd (actSet s))).filterMap (fun d =>
    (driverFail s (statusWord0 s (words.getD n []) d)).map (fun c => { level := 4, subject := n * 256 + d, cause := c })))

/-- The driver of a channel has failed already. -/
def driverIn (s : State) (l : List Fail) (ch pos : Nat) : Bool :=
  l.any (fun x => x.level == 4 && x.subject == ch * 256 + pos / cC (actSet s))

/-- The mapped channels of sector `q` that serve an emitter on line `l`, with their status words; those of unsound
chains are left out. -/
def sectorChans (s : State) (words : List (List Nat)) (owners : Array Nat) (q l : Nat) : List Chan :=
  let w := s.width
  ((List.range (3 * w)).map (fun i => 3 * w * q + i)).filterMap (fun i =>
    if 98304 ≤ i then none
    else match mapEntry (activeWord s 4 i), mapEmitter w s.height (tS (actSet s)) i l with
      | some (ch, pos), some e =>
        if (soundChains s).contains ch && placeEntry owners ch pos == some i then
          some { ch := ch, pos := pos, emitter := e, w := statusChannel s (words.getD ch []) pos }
        else none
      | _, _ => none)

/-- Sectors of the committed geometry. -/
def sectorCount (s : State) : Nat := divCeil s.height (tS (actSet s))

/-- What a read says: the subjects that failed in the order of the rules, the emitters that passed, and which entries
of the list the read examined, in that no higher rule claimed their subject (R348). -/
structure Finding where
  fails : List Fail
  passed : List Nat
  examined : FaultEntry → Bool

/-- At least ROWFRAC/256 of `m`. -/
def rowFrac (s : State) (n m : Nat) : Bool := decide (m ≠ 0) && decide (max 1 (s.rfld Reg.DIA_DECIDE 16 8) * m ≤ 256 * n)

/-- Rule 2: drivers all of whose mapped channels read OPEN. -/
def rule2 (s : State) (chans : List Chan) : List Fail :=
  (soundChains s).flatMap (fun n => (List.range (cNd (actSet s))).filterMap (fun d =>
    let mine := chans.filter (fun x => x.ch == n && x.pos / cC (actSet s) == d)
    if !mine.isEmpty && mine.all (fun x => hasBit x.w 0) then some { level := 4, subject := n * 256 + d, cause := 6 } else none))

/-- Rule 6: adjacent pins of one driver that both read LOWV. -/
def rule6 (s : State) (words : List (List Nat)) (claimed : Nat → Nat → Bool) : List Fail :=
  let c := cC (actSet s)
  (soundChains s).flatMap (fun n => (List.range (cNd (actSet s) * c)).filterMap (fun p =>
    let low := fun (k : Nat) => hasBit (statusChannel s (words.getD n []) k) 2 && !claimed n k
    if p % c + 1 < c && low p && low (p + 1) then some { level := 1, subject := n * 4096 + p, cause := 3 } else none))

/-- A driver of a sound chain that no fault of a list claims. -/
def driverSound (s : State) (fails : List Fail) (ch d : Nat) : Bool :=
  (soundChains s).contains ch && decide (d < cNd (actSet s)) &&
    !fails.any (fun y => y.level == 4 && y.subject == ch * 256 + d)

/-- Rule 1 has examined an entry of cause 7 or 8 in any round: CFGERR first, then the load pointer. -/
def rule1Examined (s : State) (one : List Fail) (x : FaultEntry) : Bool :=
  driverSound s (if x.cause = 7 then [] else one.filter (fun y => y.cause == 7)) (x.subject / 256) (x.subject % 256)

/-- The read of line round `l`. -/
def lineFinding (s : State) (words : List (List Nat)) (l : Nat) : Finding :=
  let owners := placeOwners s
  let one := rule1 s words
  let chans := ((List.range (sectorCount s)).flatMap (fun q => sectorChans s words owners q l)).filter
    (fun x => !driverIn s one x.ch x.pos)
  let two := rule2 s chans
  let left := chans.filter (fun x => !driverIn s two x.ch x.pos)
  let sectorOf := fun (x : Chan) => x.emitter / 3 / s.width / tS (actSet s)
  let three : List Fail := (List.range (sectorCount s)).filterMap (fun q =>
    let row := left.filter (fun x => sectorOf x == q)
    if rowFrac s (row.filter (fun x => hasBit x.w 0)).length row.length
    then some { level := 2, subject := q * 64 + l, cause := 4 } else none)
  let inRow := fun (x : Chan) => three.any (fun f => f.subject / 64 == sectorOf x)
  let rest := left.filter (fun x => !inRow x)
  let four : List Fail := (rest.filter (fun x => hasBit x.w 1)).map (fun x => { level := 0, subject := x.emitter, cause := 2 })
  let five : List Fail := (rest.filter (fun x => !hasBit x.w 1 && hasBit x.w 0)).map
    (fun x => { level := 0, subject := x.emitter, cause := 1 })
  let claimed := fun (ch pos : Nat) => driverIn s (one ++ two) ch pos ||
    left.any (fun x => x.ch == ch && x.pos == pos && (inRow x || hasBit x.w 0 || hasBit x.w 1))
  { fails := one ++ two ++ three ++ four ++ five ++ rule6 s words claimed
    passed := (rest.filter (fun x => !hasBit x.w 0 && !hasBit x.w 1)).map (·.emitter)
    examined := fun x =>
      if x.cause = 1 then rest.any (fun y => y.emitter == x.subject && !hasBit y.w 1)
      else if x.cause = 2 then rest.any (fun y => y.emitter == x.subject)
      else if x.cause = 4 then x.subject % 64 == l && left.any (fun y => sectorOf y == x.subject / 64)
      else if x.cause = 7 ∨ x.cause = 8 then rule1Examined s one x
      else if x.cause = 6 then
        driverSound s one (x.subject / 256) (x.subject % 256) &&
          chans.any (fun y => y.ch == x.subject / 256 && y.pos / cC (actSet s) == x.subject % 256)
      else if x.cause = 3 then
        let ch := x.subject / 4096
        let p := x.subject % 4096
        driverSound s (one ++ two) ch (p / cC (actSet s)) && !claimed ch p && !claimed ch (p + 1)
      else false }

/-- The read of the rows round. -/
def rowsFinding (s : State) (words : List (List Nat)) : Finding :=
  let owners := placeOwners s
  let one := rule1 s words
  let of := fun (q : Nat) => (sectorChans s words owners q 0).filter (fun x => !driverIn s one x.ch x.pos)
  let stuck := fun (q : Nat) => rowFrac s ((of q).filter (fun x => !hasBit x.w 0)).length (of q).length
  let seven : List Fail := ((List.range (sectorCount s)).filter stuck).map (fun q => { level := 3, subject := q, cause := 5 })
  let free := ((List.range (sectorCount s)).filter (fun q => !stuck q)).flatMap of
  let eight : List Fail := (free.filter (fun x => !hasBit x.w 0)).map
    (fun x => { level := 1, subject := x.ch * 4096 + x.pos, cause := 10 })
  { fails := one ++ seven ++ eight
    passed := []
    examined := fun x =>
      if x.cause = 5 then !(of x.subject).isEmpty
      else if x.cause = 10 then free.any (fun y => y.ch * 4096 + y.pos == x.subject)
      else if x.cause = 7 ∨ x.cause = 8 then rule1Examined s one x
      else false }

/-! ## Counting (R349) -/

/-- `DIA_DECIDE.CLR`. -/
def faultClr (s : State) : Nat := max 1 (s.rfld Reg.DIA_DECIDE 8 8)

/-- A declaration with its event; of emitters, the first 16 of a round have one each (R359). `n` counts the emitter
declarations of the round and keeps the first left out. -/
def State.declareNow (s : State) (n : Nat × Option FaultEntry) (x : FaultEntry) : (Nat × Option FaultEntry) × State :=
  let s := s.declareFault x
  if x.level = 0 then
    if n.1 < 16 then ((n.1 + 1, none), s.faultRaise Ev.EMITTER_FAULT x)
    else ((n.1 + 1, some (n.2.getD x)), s)
  else (n, s.faultRaise (faultEvent x.cause) x)

/-- A subject fails a round (R349); a fault that is declared sets the codes of its emitters anew (R228, R352, R355). -/
def State.failSubject (s : State) (n : Nat × Option FaultEntry) (f : Fail) : (Nat × Option FaultEntry) × State :=
  match findFault s f.level f.subject f.cause with
  | none =>
    let x : FaultEntry := { st := .candidate, cause := f.cause, level := f.level, subject := f.subject,
                            first := s.scn.frame, count := 1, passes := 0, failed := true }
    let r := s.addFault x
    if r.1 ∧ faultDecl s ≤ 1 then r.2.declareNow n { x with st := .declared } else (n, r.2.mapChanged)
  | some x =>
    let x := { x with count := if x.failed then x.count else min 65535 (x.count + 1), failed := true, passes := 0 }
    if x.st = .candidate ∧ faultDecl s ≤ x.count then s.declareNow n { x with st := .declared }
    else if x.st = .candidate then (n, s.putFault x)
    else
      let x : FaultEntry := { x with st := .declared }
      (n, ((s.putFault x).coverDeclared x).mapChanged)

/-- A subject passes a cycle (R349). -/
def State.passSubject (s : State) (x : FaultEntry) : State :=
  if x.st = .candidate then (s.dropFault x).mapChanged
  else if faultClr s ≤ x.passes + 1 then s.clearFault x
  else s.putFault { x with st := .clearing, passes := x.passes + 1 }

/-- Causes that several rounds of a cycle test; they pass at the end of a cycle in which no round failed them. -/
def manyRounds (cause : Nat) : Bool := cause == 3 || cause == 6 || cause == 7 || cause == 8

/-- The chain of a driver or pin subject. -/
def subjectChain (x : FaultEntry) : Nat := if x.level = 4 then x.subject / 256 else x.subject / 4096

/-- The entries of several rounds that this read examines are marked. -/
def State.markSeen (s : State) (f : Finding) : State :=
  { s with dia := { s.dia with faults := s.dia.faults.map (fun x =>
    if manyRounds x.cause && f.examined x then { x with seen := true } else x) } }

/-- The entries that pass with this read. -/
def passing (s : State) (f : Finding) (last : Bool) : List FaultEntry :=
  s.dia.faults.filter (fun x =>
    if x.cause = 9 then false
    else if manyRounds x.cause then last && !x.failed && x.seen && (soundChains s).contains (subjectChain x)
    else f.examined x && !f.fails.any (fun y => x.same y.level y.subject y.cause))

/-- The cycle ends: its length is shown, and the marks of its failures go (R347). -/
def State.endCycle (s : State) : State :=
  let k := s.dia.cycleStart.getD s.scn.frame
  { s with dia := { s.dia with
    coverFrames := min 65535 (s.scn.frame - k + 1), cycleStart := none, lateRaised := false
    faults := s.dia.faults.map (fun x => { x with failed := false, seen := false }) } }

/-- The round is over; the following one goes on where its line test has been armed. -/
def State.nextRound (s : State) : State :=
  let last := s.dia.round = rowsRound s
  let s := if last then s.endCycle else s
  let s : State := { s with dia := { s.dia with round := if last then 0 else s.dia.round + 1, phase := .idle, burstsSent := false } }
  match s.dia.armed with
  | none => s
  | some k =>
    let s : State := { s with dia := { s.dia with armed := none, phase := .armed, testFrame := k, hurt := s.dia.hurtNext } }
    s.cycleBegins k

/-- The decisions of a round (R348, R349). -/
def State.decideRound (s : State) (words : List (List Nat)) : State :=
  let last := s.dia.round = rowsRound s
  let f := if last then rowsFinding s words else lineFinding s words s.dia.round
  let r := f.fails.foldl (fun (a : (Nat × Option FaultEntry) × State) x => a.2.failSubject a.1 x) ((0, none), s)
  let s := match r.1.2 with
    | none => r.2
    | some x => r.2.faultRaise Ev.EMITTER_FAULT x (r.1.1 - 16)
  let s := s.markSeen f
  let s := (passing s f last).foldl (fun (s : State) x => s.passSubject x) s
  let s := (s.setCodes f.passed (fun e => if kget 1 s.dia.map e = 1 then 0 else kget 1 s.dia.map e)).mapChanged
  s.nextRound

/-- `STATUS_READ_DONE`: the words of each of the 32 chains in the order of CQ, empty for one that was not read
(R327). -/
def execStatusReadDone (words : List (List Nat)) (s : State) : Out :=
  if words.length ≠ 32 then .fault (.illFormed "STATUS_READ_DONE")
  else .next (s.onlyIf s.cch.statBusy (fun s =>
    let mine := s.dia.reading
    let s : State := { s with cch := { s.cch with statBusy := false }, dia := { s.dia with reading := false } }
    let s := (s.storeStatus words).driversStatus words
    if mine && decide (s.dia.phase = .awaiting) then s.decideRound words else s))

/-! ## Registers -/

/-- `DIA_STAT.STATE`. -/
def diaStateCode (s : State) : Nat :=
  match s.dia.phase with
  | .armed => 1
  | .awaiting => 2
  | .idle =>
    if !bitOf (s.reg Reg.DIA_CTL) 0 || (s.dia.cycleStart.isSome && !diaMayArm s) then 3 else 0

/-- What a DIA register holds of a word written. -/
def diaStored (addr : Nat) (w : Word) : Word :=
  if addr = Reg.DIA_CTL then mkWord [(0, fld w 0 2)]
  else if addr = Reg.DIA_DECIDE then
    mkWord [(16, max 1 (fld w 16 8)), (8, max 1 (fld w 8 8)), (0, max 1 (fld w 0 4))]
  else if addr = Reg.DIA_COVER then mkWord [(16, fld w 16 16)]
  else if addr = Reg.DIA_COUNT then mkWord [(22, fld w 22 10)]
  else if addr = Reg.DIA_MAP_INDEX then mkWord [(0, fld w 0 18)]
  else if addr = Reg.DIA_FLT_INDEX then mkWord [(0, fld w 0 13)]
  else w

/-- The DIA registers that show state. -/
def viewDia (s : State) (addr : Nat) : Option Word :=
  if addr = Reg.DIA_STAT then
    some (mkWord [(24, s.dia.steals), (16, s.dia.defer), (8, diaStateCode s), (0, s.dia.round)])
  else if addr = Reg.DIA_COVER then some (mkWord [(16, s.rfld Reg.DIA_COVER 16 16), (0, s.dia.coverFrames)])
  else if addr = Reg.DIA_COUNT then some (mkWord [(22, s.rfld Reg.DIA_COUNT 22 10), (0, codeCount s 2)])
  else if addr = Reg.DIA_SUSPECT then some (mkWord [(0, codeCount s 3)])
  else if addr = Reg.DIA_OT then
    some (BitVec.ofNat 32 (bitsOf 32 (fun n => s.dia.ot.any (fun x => x.1 == n))))
  else if addr = Reg.DIA_CMD then some 0
  else if addr = Reg.DIA_FLT_CNT then
    let n := (s.dia.faults.filter FaultEntry.stands).length
    some (mkWord [(16, n), (0, s.dia.faults.length - n)])
  else none

end Sys2Proof.Machine
end

