-- ==== Sys2Proof/Machine/Report.lean ====
section
/-! DEFINITION. The report of the frame energy unit to the Hatband chain (R384, R420). -/

namespace Sys2Proof.Machine

/-- A FEN register as the last composition deadline took it (R383). -/
def fenAct (s : State) (addr : Nat) : Word := kget (resetWord s.pwr.legacy s.pwr.viocClass addr) s.fen.act addr

/-- A field of it. -/
def fenFld (s : State) (addr lo n : Nat) : Nat := fld (fenAct s addr) lo n

/-- PNEXT: PG of the latest forecast. -/
def reportNext (s : State) : Nat := min 65535 ((s.fen.last.map (·.pg)).getD 0)

/-- PAVG: the mean PG of the frames shown since the previous sweep; that of the latest forecast where none was. -/
def reportMean (s : State) : Nat :=
  if s.fen.pgCount = 0 then reportNext s
  else min 65535 (openRound ((s.fen.pgSum : Nat) : Int) ((s.fen.pgCount : Nat) : Int)).toNat

/-- The segment sum of the primary path is there. -/
def reportVolts (s : State) : Bool :=
  s.pwr.barrierOk && s.cel.vsum != 0 && s.cel.cell.toList.all (fun c => c.valid)

/-- INEXT in mA. -/
def reportCurrent (s : State) : Nat :=
  let den := fenFld s 0xA001C 0 10 * s.cel.vsum
  if den = 0 then 0 else (openRound ((reportNext s * 100000000 : Nat) : Int) ((den : Nat) : Int)).toNat

/-- The Docent gives a report for a response: VALID and bytes 52 to 61, the state of charge being a free value. None
while it restarts (R20). -/
def State.takeReport (s : State) : State :=
  if s.docentRuns ∧ s.pwr.barrierOk then
    let valid := fenFld s 0xA0000 0 1 == 1 && reportVolts s && s.fen.last.isSome
    let soc := s.fresh
    let bytes := bytesBE 2 (soc.1 % 65536) ++ bytesBE 2 (reportNext s) ++ bytesBE 2 (reportMean s) ++
      bytesBE 4 (min 0x7FFFFF (reportCurrent s))
    { soc.2 with hb := { soc.2.hb with docent := some (valid, bytes) }, fen := { soc.2.fen with pgSum := 0, pgCount := 0 } }
  else { s with hb := { s.hb with docent := none } }

end Sys2Proof.Machine
end

