-- ==== Sys2Proof/Machine/Weights.lean ====
section
/-! DEFINITION. The temperature weight field of Patina (R364, R365), which the Docent computes in every
housekeeping round, with the fixed-point power of two that its formula needs. -/

namespace Sys2Proof.Machine

/-! ## Powers of two in fixed point -/

/-- The integer square root, bit by bit from bit `k - 1` down: the greatest `r` with `r * r ≤ n` for
`n < 4 ^ k`. -/
def isqrtFrom : Nat → Nat → Nat → Nat
  | 0, _, r => r
  | k + 1, n, r => isqrtFrom k n (if (r + 2 ^ k) * (r + 2 ^ k) ≤ n then r + 2 ^ k else r)

/-- The integer square root of a number below 2^200. -/
def isqrt (n : Nat) : Nat := isqrtFrom 100 n 0

/-- `2 ^ (1/2)`, `2 ^ (1/4)`, … with 80 fraction bits, `n` of them. -/
def rootsOfTwo : Nat → Nat → List Nat
  | 0, _ => []
  | n + 1, c => let d := isqrt (c * 2 ^ 80); d :: rootsOfTwo n d

/-- `2 ^ f` with 80 fraction bits, for a fraction `f` given by its bits from the most significant one down. -/
def powFraction : List Nat → Nat → Nat → Nat → Nat
  | [], _, _, acc => acc
  | r :: rs, k, f, acc =>
    powFraction rs (k - 1) f (if f.testBit k then acc * r / 2 ^ 80 else acc)

/-- `round (4096 × 2 ^ (num / den))` for `-5 ≤ num / den ≤ 3`, to 64 fraction bits of the exponent (log
entry 12). -/
def weightOf (roots : List Nat) (num : Int) (den : Nat) : Nat :=
  let e := ((num + 5 * (den : Int)) * 2 ^ 64).toNat / den
  let p := powFraction roots 63 (e % 2 ^ 64) (2 ^ 80) * 4096 * 2 ^ (e / 2 ^ 64) / 2 ^ 5
  (2 * p + 2 ^ 80) / 2 ^ 81

/-! ## The weight field (R364, R365) -/

/-- The position of a lamp sensor: 1 pixel in x, 32 pixels in y. -/
def lampPos (s : State) (n : Nat) : Int × Int :=
  let w := s.rfld (Reg.PAT_LT_POS0 + 4 * (n / 2)) (16 * (n % 2)) 16
  (((w % 2048 : Nat) : Int), ((w / 2048 * 32 : Nat) : Int))

/-- `d² + 256`, in quarter pixels squared, of a sensor from the centre of a block. -/
def lampWeight (s : State) (n bx by' : Nat) : Nat :=
  let p := lampPos s n
  let dx := 2 * p.1 - ((32 * bx + 15 : Nat) : Int)
  let dy := 2 * p.2 - ((32 * by' + 15 : Nat) : Int)
  (dx * dx + dy * dy).natAbs + 1024

/-- `Tb` of a block as a fraction, in 1/16 °C: the inverse-distance weighting of the enabled sensors. -/
def blockTemp (s : State) (on : List Nat) (bx by' : Nat) : Int × Nat :=
  let ws := on.map (fun n => (lampWeight s n bx by', (vget s.thm.lamp n).eff))
  let all := ws.foldl (fun a w => a * w.1) 1
  (isum (ws.map (fun w => ((all / w.1 : Nat) : Int) * w.2)), lsum (ws.map (fun w => all / w.1)))

/-- The weight of one block from `Tb`, the limits of R364 applied. -/
def blockWeight (s : State) (roots : List Nat) (t : Int × Nat) : Nat :=
  let tref := sext 8 (s.rfld Reg.PAT_AGE 8 8) * 16
  let den := t.2 * (s.rfld Reg.PAT_AGE 0 8) * 16
  let num := t.1 - tref * (t.2 : Int)
  if den = 0 then 4096
  else if num < -5 * (den : Int) then 256
  else if 3 * (den : Int) < num then 16384
  else min 16384 (max 256 (weightOf roots num den))

/-- Sensors enabled in the last round. -/
def lampsOn (s : State) : List Nat := (List.range 8).filter (fun n => hasBit s.thm.enabled n)

/-- The weight of every block (R364); with no lamp sensor enabled, every block at TDEF and `PATINA_NO_TEMP`
when that begins (R365). -/
def State.weightField (s : State) : State :=
  let on := lampsOn s
  let roots := rootsOfTwo 64 (2 * 2 ^ 80)
  let cols := divCeil s.width 16
  let rows := divCeil s.height 16
  let flat : Int × Nat := (sext 8 (s.rfld Reg.PAT_AGE 16 8) * 16, 1)
  let weight := (List.range (cols * rows)).foldl (fun m b =>
    let t := if on.isEmpty then flat else blockTemp s on (b % cols) (b / cols)
    kput 4096 m b (blockWeight s roots t)) []
  let began := on.isEmpty && !s.pat.noTemp
  let s : State := { s with pat := { s.pat with weight := weight, noTemp := on.isEmpty } }
  s.onlyIf began (fun s => (s.setC Reg.PAT_ERR 8).raise .core Ev.PATINA_NO_TEMP)

end Sys2Proof.Machine
end

