-- ==== Sys2Proof/Machine/Thermal.lean ====
section
/-! DEFINITION. Temperature sensing and thermal management (R456 to R468): the housekeeping round, the lamp
sensors and their substitutes, the throttle levels and the orderly stop. The hard cut stands in `Power.lean`. -/

namespace Sys2Proof.Machine

/-! ## Lamp sensors (R457 to R460) -/

/-- The neighbours of a lamp sensor: up to three indices, 0xF and every index above 7 meaning none (R458). -/
def lampNeighbours (s : State) (n : Nat) : List Nat :=
  let w := s.rfld (Reg.THM_NBR0 + 4 * (n / 2)) (16 * (n % 2)) 12
  [natBits w 0 4, natBits w 4 4, natBits w 8 4].filter (fun i => decide (i < 8))

/-- `THM_FAIL_MARGIN.XDEV` and MARGIN, in 1/16 °C. -/
def lampXdev (s : State) : Int := ((s.rfld Reg.THM_FAIL_MARGIN 8 8 * 16 : Nat) : Int)

/-- MARGIN. -/
def lampMargin (s : State) : Int := ((s.rfld Reg.THM_FAIL_MARGIN 0 8 * 16 : Nat) : Int)

/-- Why a reading is faulty by itself: 1 OPEN, 2 SHORT, 3 rate of change, 0 none (R459). -/
def lampOwnCause (x : LampSensor) (m : LampSample) : Nat :=
  if 98500 < m.ratio then 1
  else if m.ratio < 1500 then 2
  else if x.valid && !x.isOpen && !x.short && decide (160 < (lampTemp m.ratio m.dev - x.t).natAbs) then 3
  else 0

/-- What a valid neighbour contributes to the test below neighbours: nothing where it reads OPEN or SHORT, its
held value where it is faulty on rate of change, else its reading (R459; log entry 13). -/
def lampContribution (x : LampSensor) (m : LampSample) : Option Int :=
  match lampOwnCause x m with
  | 0 => some (lampTemp m.ratio m.dev)
  | 3 => x.held
  | _ => none

/-- The least of a list. -/
def leastOf : List Int → Option Int
  | [] => none
  | x :: xs => match leastOf xs with
    | none => some x
    | some y => some (min x y)

/-- The greatest of a list. -/
def greatestOf : List Int → Option Int
  | [] => none
  | x :: xs => match greatestOf xs with
    | none => some x
    | some y => some (max x y)

/-- The cause of a fault of sensor `n` in this round, 4 where it lies too far below its neighbours (R459). -/
def lampCause (s : State) (en : Nat) (ms : List LampSample) (n : Nat) : Nat :=
  let sample := fun i => ms.getD i ⟨0, 0⟩
  let own := lampOwnCause (vget s.thm.lamp n) (sample n)
  let part := (lampNeighbours s n).filterMap (fun i =>
    if hasBit en i && !(vget s.thm.lamp i).failed then lampContribution (vget s.thm.lamp i) (sample i) else none)
  if own ≠ 0 then own
  else match leastOf part with
    | none => 0
    | some lo => if lampTemp (sample n).ratio (sample n).dev < lo - lampXdev s then 4 else 0

/-- A lamp sensor after the reading of a round, its effective value not yet formed (R459). -/
def LampSensor.take (x : LampSensor) (m : LampSample) (cause : Nat) : LampSensor :=
  let bad := if cause = 0 then 0 else x.bad + 1
  let good := if cause = 0 then x.good + 1 else 0
  let t := lampTemp m.ratio m.dev
  { x with t := t, isOpen := decide (98500 < m.ratio), short := decide (m.ratio < 1500), valid := true,
           faulty := cause ≠ 0, bad := bad, good := good,
           held := if cause = 0 then some t else x.held,
           failed := if x.failed then decide (good < 100) else decide (10 ≤ bad) }

/-- A lamp sensor that is disabled leaves every calculation (R456, R467). -/
def LampSensor.off : LampSensor := {}

/-- A sensor whose effective value is its reading or its held value (R460): its value. -/
def lampBase (x : LampSensor) : Option Int :=
  if x.failed then none else if x.faulty then x.held else some x.t

/-- The effective value of sensor `n`, from the sensors after their readings (R460). -/
def lampEff (s : State) (on : List Nat) (n : Nat) : Int :=
  let base := fun i => if i ∈ on then lampBase (vget s.thm.lamp i) else none
  match base n with
  | some v => v
  | none =>
    match greatestOf ((lampNeighbours s n).filterMap base) with
    | some v => v + lampMargin s
    | none =>
      match greatestOf (on.filterMap base) with
      | some v => v + lampMargin s
      | none => sext 8 (s.rfld Reg.PAT_AGE 16 8) * 16 + lampMargin s

/-- A lamp sensor replaced. -/
def State.modLamp (s : State) (n : Nat) (f : LampSensor → LampSensor) : State :=
  { s with thm := { s.thm with lamp := vmod s.thm.lamp n f } }

/-- Event data: bytes 20 and 21 the effective value, byte 22 the tile level, byte 23 the cause (R459, R468). -/
def thmData (s : State) (v : Int) (cause : Nat) : Nat := toTwos 16 v + s.thm.level * 2 ^ 16 + cause * 2 ^ 24

/-- The failure or the recovery of a sensor in this round (R459). -/
def State.lampChange (s : State) (was : Bool) (n cause : Nat) : State :=
  let x := vget s.thm.lamp n
  if x.failed && !was then
    (s.setC Reg.THM_ERR 1).raise .core Ev.THM_SENSOR_FAIL n (thmData s x.eff cause)
  else if was && !x.failed then s.raise .core Ev.THM_SENSOR_RECOVERED n (thmData s x.eff 0)
  else s

/-- The readings of a round: every lamp sensor taken, then every effective value, then the failures (R459,
R460). -/
def State.lampRound (s : State) (ms : List LampSample) : State :=
  let en := s.rfld Reg.THM_EN 0 8
  let on := (List.range 8).filter (hasBit en)
  let before := s
  let causes := (List.range 8).map (lampCause s en ms)
  let s : State := { s with thm := { s.thm with enabled := en } }
  let s := (List.range 8).foldl (fun (s : State) n =>
    s.modLamp n (fun x => if hasBit en n then x.take (ms.getD n ⟨0, 0⟩) (causes.getD n 0) else .off)) s
  let taken := s
  let s := on.foldl (fun (s : State) n => s.modLamp n (fun x => { x with eff := lampEff taken on n })) s
  on.foldl (fun (s : State) n => s.lampChange (vget before.thm.lamp n).failed n (causes.getD n 0)) s

/-! ## Throttle levels (R461 to R463) -/

/-- Threshold of lamp level 1 to 4, in 1/16 °C. -/
def lampLimit (s : State) (l : Nat) : Int := ((s.rfld Reg.THM_LIM_LAMP (8 * (l - 1)) 8 * 16 : Nat) : Int)

/-- `THM_LIM_DIE.THR` and HYST. -/
def dieLimit (s : State) : Int := ((s.rfld Reg.THM_LIM_DIE 0 8 * 16 : Nat) : Int)

/-- HYST. -/
def thmHyst (s : State) : Int := ((s.rfld Reg.THM_LIM_DIE 8 8 * 16 : Nat) : Int)

/-- The highest level whose threshold a lamp value reaches. -/
def lampLevelOf (s : State) (v : Int) : Nat :=
  if lampLimit s 4 ≤ v then 4 else if lampLimit s 3 ≤ v then 3 else if lampLimit s 2 ≤ v then 2
  else if lampLimit s 1 ≤ v then 1 else 0

/-- The level of a lamp zone, with the minimum levels for failed sensors (R461). -/
def lampZone (s : State) (n : Nat) : Nat :=
  let x := vget s.thm.lamp n
  let on := (lampNeighbours s n).filter (hasBit s.thm.enabled)
  let minimum := x.failed && (on.any (fun i => (vget s.thm.lamp i).failed && i != n) ||
    !on.any (fun i => !(vget s.thm.lamp i).failed))
  max (lampLevelOf s x.eff) (if minimum then 3 else 0)

/-- The level of a die zone (R461). -/
def dieZoneOf (s : State) (i : Nat) : Nat := if dieLimit s ≤ vget s.thm.die i then 2 else 0

/-- The first zone with the highest level: its level and its number, die zones being 8 to 11 (R462, R468). -/
def topZone (s : State) : Nat × Nat :=
  let zones := (lampsOn s).map (fun n => ((vget s.thm.lamp n).zone, n)) ++
    (List.range 4).map (fun i => (vget s.thm.dieZone i, 8 + i))
  zones.foldl (fun a z => if a.1 < z.1 then z else a) (0, 8)

/-- The value of a zone for an event. -/
def zoneValue (s : State) (z : Nat) : Int := if z < 8 then (vget s.thm.lamp z).eff else vget s.thm.die (z - 8)

/-- The tile level changed, with `THM_LEVEL`; the counts of R462 start again (R462, R468; log entry 14). -/
def State.thmSetLevel (s : State) (l z : Nat) : State :=
  if l = s.thm.level then s
  else
    let rising := decide (s.thm.level < l)
    let lamp := s.thm.lamp.map (fun x => { x with below := 0 })
    let s : State := { s with thm := { s.thm with
      level := l, lamp := lamp, dieBelow := Vector.replicate 4 0 } }
    if rising then (s.setC Reg.THM_ERR 2).raise .core Ev.THM_LEVEL_RISING z (thmData s (zoneValue s z) 0)
    else s.raise .core Ev.THM_LEVEL_FALLING z (thmData s (zoneValue s z) 0)

/-- The zones of this round and how long each has stayed below its threshold at the tile level (R461, R462). -/
def State.thmZones (s : State) : State :=
  let l := s.thm.level
  let low := fun (v lim : Int) => decide (v < lim - thmHyst s)
  let s0 := s
  let s := (lampsOn s).foldl (fun (s : State) n => s.modLamp n (fun x =>
    { x with zone := lampZone s0 n, below := if low x.eff (lampLimit s0 l) then x.below + 1 else 0 })) s
  { s with thm := { s.thm with
    dieZone := Vector.ofFn (fun i : Fin 4 => dieZoneOf s0 i)
    dieBelow := Vector.ofFn (fun i : Fin 4 =>
      if low (vget s0.thm.die i) (dieLimit s0) then vget s0.thm.dieBelow i + 1 else 0)
    hold := (lampsOn s).any (fun n => (vget s.thm.lamp n).failed && decide (1 ≤ (vget s.thm.lamp n).zone)) } }

/-- Every zone with a threshold at the tile level has stayed below it for 100 rounds (R462). -/
def thmMayFall (s : State) : Bool :=
  (lampsOn s).all (fun n => decide (100 ≤ (vget s.thm.lamp n).below)) &&
    (s.thm.level != 2 || (List.range 4).all (fun i => decide (100 ≤ vget s.thm.dieBelow i)))

/-- The tile level of this round (R461, R462). -/
def State.thmLevel (s : State) : State :=
  let top := topZone s
  let minimum := if s.dia.ot.isEmpty then 0 else s.rfld Reg.THM_CTL 8 3
  let want := max top.1 minimum
  if s.thm.level < want then s.thmSetLevel want top.2
  else if want < s.thm.level && !s.thm.hold && thmMayFall s then s.thmSetLevel (s.thm.level - 1) top.2
  else s

/-- The cap of a throttle level (R461). -/
def levelCap (l : Nat) : Nat :=
  if l = 0 then 65535 else if l = 1 then 55705 else if l = 2 then 45875 else if l = 3 then 32768 else 16384

/-! ## Orderly stop (R464, R465) -/

/-- `THM_LIM_STOP.LAMP` and DIE. -/
def stopLamp (s : State) : Int := ((s.rfld Reg.THM_LIM_STOP 0 8 * 16 : Nat) : Int)

/-- DIE. -/
def stopDie (s : State) : Int := ((s.rfld Reg.THM_LIM_STOP 8 8 * 16 : Nat) : Int)

/-- Frames of the stop ramp: RAMP over the frame period, at least 1 (R464). FPER counts cycles of 2.5 ns. -/
def stopFrames (s : State) : Nat :=
  max 1 (roundNear ((s.rfld Reg.THM_LIM_STOP 16 16 * 400000 : Nat) : Int)
    ((s.afld Reg.SCN_SH_FPER 0 24 : Nat) : Int)).toNat

/-- The zone that an orderly stop names: the hottest of those at their limit. -/
def stopZone (s : State) : Nat :=
  let lamps := (lampsOn s).map (fun n => ((vget s.thm.lamp n).eff - stopLamp s, n))
  let dies := (List.range 4).map (fun i => (vget s.thm.die i - stopDie s, 8 + i))
  ((lamps ++ dies).foldl (fun (a : Option (Int × Nat)) z =>
    match a with
    | none => some z
    | some b => if b.1 < z.1 then some z else some b) none).elim 8 (·.2)

/-- An orderly stop begins (R464). -/
def State.thmStop (s : State) : State :=
  let z := stopZone s
  let ramp := StopSt.ramping (levelCap s.thm.level) (stopFrames s) 0
  let s : State := { s with thm := { s.thm with stop := ramp, cool := 0, hotLamp := 0, hotDie := 0 } }
  (s.setC Reg.THM_ERR 4).raise .core Ev.THERMAL_STOP z (thmData s (zoneValue s z) 0)

/-- The stop ends at level 4 (R465). -/
def State.thmEndStop (s : State) : State :=
  let s : State := { s with thm := { s.thm with stop := .none, cool := 0, hotLamp := 0, hotDie := 0 } }
  let z := stopZone s
  let s := s.thmSetLevel 4 z
  s.raise .core Ev.THERMAL_RESUMED z (thmData s (zoneValue s z) 0)

/-- The stop decisions of a round (R464, R465). -/
def State.thmStopRound (s : State) : State :=
  let hotL := (lampsOn s).any (fun n => decide (stopLamp s ≤ (vget s.thm.lamp n).eff))
  let hotD := s.thm.die.toList.any (fun t => decide (stopDie s ≤ t))
  let cool := (lampsOn s).all (fun n => decide ((vget s.thm.lamp n).eff ≤ stopLamp s - 160)) &&
    s.thm.die.toList.all (fun t => decide (t ≤ stopDie s - 160))
  let s : State := { s with thm := { s.thm with
    hotLamp := if hotL then s.thm.hotLamp + 1 else 0
    hotDie := if hotD then s.thm.hotDie + 1 else 0
    cool := if cool then s.thm.cool + 1 else 0 } }
  if s.thm.stop = .none then s.onlyIf (decide (3 ≤ s.thm.hotLamp) || decide (3 ≤ s.thm.hotDie)) State.thmStop
  else s.onlyIf (decide (600 ≤ s.thm.cool) && bitOf (s.reg Reg.THM_CTL) 0) State.thmEndStop

/-- `HOUSEKEEPING_ROUND`: the Docent's round (R456 to R465) with the weight field of Patina (R364). A round that
falls into a restart or a stop of the Docent changes nothing (R463). -/
def execHousekeepingRound (lamps : List LampSample) (dies : List Int) (s : State) : Out :=
  if lamps.length ≠ 8 ∨ dies.length ≠ 4 then .fault (.illFormed "HOUSEKEEPING_ROUND")
  else .next (s.onlyIf s.docentRuns (fun s =>
    let s := s.lampRound lamps
    let s : State := { s with thm := { s.thm with die := Vector.ofFn (fun i : Fin 4 => dies.getD i 0) } }
    (s.thmZones.thmLevel.thmStopRound).weightField))

/-- `THM_RESUME`: the stop ends where the cool condition is met; an earlier RESUME is not remembered (R465). -/
def execThmResume (s : State) : Out :=
  .next (s.onlyIf (decide (s.thm.stop ≠ .none) && decide (600 ≤ s.thm.cool)) State.thmEndStop)

/-- The cap H for the next frame whose G is fixed, and the ramp after it (R463, R464). -/
def stopStep : StopSt → Nat → Nat × StopSt
  | .none, l => (levelCap l, .none)
  | .ramping h0 n j, _ =>
    if n ≤ j + 1 then (0, .stopped) else (h0 * (n - (j + 1)) / n, .ramping h0 n (j + 1))
  | .stopped, _ => (0, .stopped)

/-! ## Registers -/

/-- `THM_STAT.STOP`. -/
def stopCode : StopSt → Nat
  | .none => 0
  | .ramping _ _ _ => 1
  | .stopped => 2

/-- `THM_LT0` to `THM_LT7`. -/
def lampWord (s : State) (n : Nat) : Word :=
  let x := vget s.thm.lamp n
  mkWord [(20, x.zone), (19, b2n x.short), (18, b2n x.isOpen), (17, b2n x.failed),
    (16, b2n x.valid), (0, toTwos 16 x.t)]

/-- The registers of the THM window that are not plain storage. -/
def viewThm (s : State) (addr : Nat) : Option Word :=
  if addr = Reg.THM_STAT then some (mkWord [
    (24, bitsOf 8 (fun n => (vget s.thm.lamp n).failed)), (16, bitsOf 8 (fun n => (vget s.thm.lamp n).faulty)),
    (6, b2n s.thm.hardCut), (4, stopCode s.thm.stop), (3, b2n s.thm.hold), (0, s.thm.level)])
  else if Reg.THM_LT0 ≤ addr ∧ addr ≤ Reg.THM_LT7 then some (lampWord s ((addr - Reg.THM_LT0) / 4))
  else if Reg.THM_EFF0 ≤ addr ∧ addr ≤ Reg.THM_EFF3 then
    let r := (addr - Reg.THM_EFF0) / 4
    some (mkWord [(16, toTwos 16 (vget s.thm.lamp (2 * r + 1)).eff), (0, toTwos 16 (vget s.thm.lamp (2 * r)).eff)])
  else if Reg.THM_DIE0 ≤ addr ∧ addr ≤ Reg.THM_DIE3 then
    let i := (addr - Reg.THM_DIE0) / 4
    some (mkWord [(16, vget s.thm.dieZone i), (0, toTwos 16 (vget s.thm.die i))])
  else if addr = Reg.THM_CMD then some 0
  else none

/-- What a write of a THM register stores (R461, R459, R462, R464). -/
def thmStored (addr : Nat) (w : Word) : Word :=
  if addr = Reg.THM_CTL then mkWord [(8, min 4 (fld w 8 3)), (0, fld w 0 1)]
  else if addr = Reg.THM_FAIL_MARGIN then mkWord [(8, max 1 (fld w 8 8)), (0, fld w 0 8)]
  else if addr = Reg.THM_LIM_DIE then mkWord [(8, max 1 (fld w 8 8)), (0, fld w 0 8)]
  else if addr = Reg.THM_LIM_STOP then mkWord [(16, fld w 16 16), (8, min 120 (fld w 8 8)), (0, fld w 0 8)]
  else w

end Sys2Proof.Machine
end

