-- ==== Sys2Proof/Machine/Energy.lean ====
section
/-! DEFINITION. The frame energy unit (R376 to R386): forecast, governor, limit, PWR_FF and the FEN registers. Charges are
in µC, energies in µJ, powers in units of 100 mW, all exact until a register shows them. -/

namespace Sys2Proof.Machine

/-! ## Energy curves (R377) -/

/-- The running maximum of a list. -/
def runMax : Nat → List Nat → List Nat
  | _, [] => []
  | m, x :: xs => let y := max m x; y :: runMax y xs

/-- The points of the energy curve of colour `c`, from the bank of table 0x02 that a frame uses. -/
def energyCurve (get : Nat → Word) (top c : Nat) : Array Rat :=
  let m := (runMax 0 ((List.range (top + 1)).map (lutCode get top c))).toArray
  let step := fun (a : List Rat × Rat) (i : Nat) =>
    let r : Rat := if i = 0 then 0 else max a.2 (((m.getD (i * top / 256) 0 : Nat) : Rat) / ((i : Nat) : Rat))
    (a.1 ++ [((i : Nat) : Rat) * r], r)
  (((List.range 257).foldl step ([], 0)).1).toArray

/-- The curve at `x`, straight between its points. -/
def curveValue (pts : Array Rat) (top : Nat) (x : Rat) : Rat :=
  let u := x * 256 / ((max 1 top : Nat) : Rat)
  let i := min 255 u.floor.toNat
  let a := pts.getD i 0
  a + (pts.getD (i + 1) 0 - a) * (u - ((i : Nat) : Rat))

/-! ## Forecast (R376, R378) -/

/-- A rational rounded the way that the spec leaves open (log entry 3). -/
def openRat (r : Rat) : Nat := (openRound r.num (r.den : Int)).toNat

/-- The contribution of one emitter in 1/256 codes (R376). -/
def emitterCode (ident : Bool) (pts : Array Rat) (top b v : Nat) : Nat :=
  let x : Rat := ((v * b * top : Nat) : Rat) / ((65535 * 1048575 : Nat) : Rat)
  openRat (256 * (if ident then x else curveValue pts top x))

/-- SW of the three colours in 1/256 codes. -/
def codeSums (s : State) (c : Composed) : List Nat :=
  let top := 2 ^ panelDepth s - 1
  let ident := bitOf c.olut 0
  let pts := fun (k : Nat) => if ident then #[] else energyCurve (wordFor s c.frame 2) top k
  let p0 := pts 0
  let p1 := pts 1
  let p2 := pts 2
  let n := tS (actSet s)
  let add := fun (a : Nat × Nat × Nat) (v : Nat × Nat) =>
    let i := entryOf c.w n v.2
    if c.w = 0 ∨ 98304 ≤ i ∨ (mapEntry (wordFor s c.frame 4 i)).isNone then a
    else
      let k := v.2 % 3
      let x := emitterCode ident (if k = 0 then p0 else if k = 1 then p1 else p2) top c.b v.1
      if k = 0 then (a.1 + x, a.2.1, a.2.2) else if k = 1 then (a.1, a.2.1 + x, a.2.2) else (a.1, a.2.1, a.2.2 + x)
  let r := c.px.zipIdx.foldl add (0, 0, 0)
  [r.1, r.2.1, r.2.2]

/-- A value saturated at the top of 32 bits. -/
def satRat (x : Rat) : Rat := min x 4294967295

/-- The charge of a colour in µC from its sum and its full-scale current in µA. -/
def chargeOf (s : State) (sw i : Nat) : Rat :=
  ((sw * i * 65536 : Nat) : Rat) / ((256 * 400000000 * max 1 (tGrate (actSet s)) : Nat) : Rat)

/-- An energy in µJ as a power over the frame period, in 100 mW. -/
def powerOf (s : State) (e : Rat) : Rat := e * 4000 / ((max 1 (framePeriod s) : Nat) : Rat)

/-- L of R381: the limit in force. -/
def limitNow (s : State) : Nat := if s.fen.pgLow then fenFld s Reg.FEN_PLIM 16 16 else fenFld s Reg.FEN_PLIM 0 16

/-- FULL. -/
def ffFull (s : State) : Nat := max 1 (fenFld s Reg.FEN_FF_CTL 0 16)

/-- Duty steps for a power (R382). -/
def dutyFor (s : State) (p : Rat) : Nat := min 400 (p * 400 / ((ffFull s : Nat) : Rat)).ceil.toNat

/-- The duty of a dark frame (R383). -/
def darkDuty (s : State) : Nat := dutyFor s ((fenFld s Reg.FEN_PSTATIC 0 16 : Nat) : Rat)

/-- Gn of R380. -/
def neededFactor (s : State) (b : Nat) (p pv : Rat) : Nat :=
  let l : Rat := ((limitNow s : Nat) : Rat)
  let ps : Rat := ((fenFld s Reg.FEN_PSTATIC 0 16 : Nat) : Rat)
  if fenFld s Reg.FEN_CTL 1 1 = 0 ∨ p ≤ l ∨ pv = 0 then 65535
  else (((b : Nat) : Rat) * (l - ps) / pv).floor.toNat

/-- The rise limit of R380. -/
def riseLimit (g : Nat) : Nat := min 65535 (g + divCeil g 256)

/-- Event data of R386: G and P. -/
def fenData (g p : Nat) : Nat := g % 65536 + min 65535 p * 65536

/-- The governor's episode begins or ends with a new factor (R380). -/
def State.governorEpisode (s : State) (gn g p : Nat) : State :=
  let s : State := { s with fen := { s.fen with limited := decide (gn < 65535) } }
  if gn < 65535 ∧ ¬ s.fen.governing then
    let s : State := { s with fen := { s.fen with governing := true } }
    (s.setC Reg.FEN_ERR 1).raise .core Ev.GOVERNOR_ACTIVE 0 (fenData g p)
  else if s.fen.governing ∧ g = 65535 then
    let s : State := { s with fen := { s.fen with governing := false } }
    s.raise .core Ev.GOVERNOR_RELEASED 0 (fenData g p)
  else s

/-- Composition of a frame has ended: its forecast is complete and G(k) is fixed under the limit, the thermal cap and the
rise limit; the cap of an orderly stop goes on by one step (R378, R380, R463, R464). -/
def State.forecast (s : State) (c : Composed) : State :=
  let sw := codeSums s c
  let cur := fun (k : Nat) =>
    if k = 0 then fenFld s Reg.FEN_IFS01 0 16 else if k = 1 then fenFld s Reg.FEN_IFS01 16 16 else fenFld s Reg.FEN_IFS2 0 16
  let q := fun (k : Nat) => chargeOf s (sw.getD k 0) (cur k)
  let all := satRat (q 0 + q 1 + q 2)
  let ev := satRat (all * ((fenFld s Reg.FEN_VLED 0 16 : Nat) : Rat) / 1000)
  let stat := fenFld s Reg.FEN_PSTATIC 0 16
  let es := satRat (((stat * framePeriod s : Nat) : Rat) / 4000)
  let e := satRat (ev + es)
  let pv := powerOf s ev
  let p := powerOf s e
  let h := stopStep s.thm.stop s.thm.level
  let gn := neededFactor s c.b p pv
  let g := min gn (min h.1 (riseLimit s.fen.g))
  let pg : Rat := ((stat : Nat) : Rat) + (if c.b = 0 then 0 else pv * ((g : Nat) : Rat) / ((c.b : Nat) : Rat))
  let f : Forecast := {
    frame := c.frame, q := openRat all, qr := openRat (satRat (q 0)), qg := openRat (satRat (q 1))
    qb := openRat (satRat (q 2)), e := openRat e, p := openRat p, b := c.b, g := g, gn := gn, pg := openRat pg
    d := dutyFor s pg, l := limitNow s, pgLow := s.fen.pgLow, ident := bitOf c.olut 0 }
  let s : State := { s with
    fen := { s.fen with last := some f, recent := (f :: s.fen.recent).take 4, g := g }
    thm := { s.thm with cap := h.1, stop := h.2 } }
  s.governorEpisode gn g f.p

/-- `PWR_GOOD_LOW` (R381). -/
def execPwrGoodLow (s : State) : Out :=
  .next (s.onlyIf (s.awake && !s.fen.pgLow) (fun s =>
    let s : State := { s with fen := { s.fen with pgLow := true } }
    (s.setC Reg.FEN_ERR 2).raise .core Ev.PWR_NOT_GOOD 0 (fenData s.fen.g ((s.fen.last.map (·.p)).getD 0))))

/-- `PWR_GOOD_RESTORED` (R381). -/
def execPwrGoodRestored (s : State) : Out :=
  .next (s.onlyIf (s.awake && s.fen.pgLow) (fun s =>
    let s : State := { s with fen := { s.fen with pgLow := false } }
    s.raise .core Ev.PWR_GOOD_RESTORED 0 (fenData s.fen.g ((s.fen.last.map (·.p)).getD 0))))

/-- The forecast of a frame. -/
def forecastOf (s : State) (k : Nat) : Option Forecast := s.fen.recent.find? (fun f => f.frame == k)

/-- The duty for the interval of frame `k`, `dark` where scan-out has decided so (R382, R383): a frame whose composition
was abandoned or held keeps the duty in force. -/
def frameDuty (s : State) (k : Nat) (dark : Bool) : Nat :=
  if fenFld s Reg.FEN_CTL 0 1 = 0 then 0
  else if !s.pwr.scanLock then s.fen.duty
  else if dark then darkDuty s
  else ((forecastOf s k).map (·.d)).getD s.fen.duty

/-- The FEN fields as a composition deadline takes them, from where on the duty follows them (R383). -/
def State.fenDeadline (s : State) : State :=
  let s : State := { s with
    fen := { s.fen with act := s.regs.filter (fun p => decide (0xA0000 ≤ p.1) && decide (p.1 < 0xB0000)) } }
  { s with fen := { s.fen with duty := frameDuty s s.scn.frame s.scn.dark.isSome } }

/-- A frame that is shown counts for PAVG with the power of the content shown (R384). -/
def State.countShown (s : State) : State :=
  { s with fen := { s.fen with pgSum := s.fen.pgSum + s.fen.pgShown, pgCount := s.fen.pgCount + 1 } }

/-- Item 0x04 of QUERY (R385). -/
def queryEnergy (s : State) : List Nat :=
  match s.fen.last with
  | none => List.replicate 32 0
  | some f =>
    bytesLE 4 f.frame ++ bytesLE 4 f.qr ++ bytesLE 4 f.qg ++ bytesLE 4 f.qb ++ bytesLE 4 f.e ++ bytesLE 2 f.b ++
      bytesLE 2 f.g ++ bytesLE 2 f.d ++ bytesLE 2 f.l ++
      [flagsWord [decide (f.gn < 65535), f.pgLow, f.ident]] ++ [0, 0, 0]

/-! ## Registers -/

/-- What a FEN register holds of a word written. -/
def fenStored (addr : Nat) (w : Word) : Word :=
  if addr = Reg.FEN_CTL then mkWord [(0, fld w 0 2)]
  else if addr = Reg.FEN_IFS2 ∨ addr = Reg.FEN_VLED ∨ addr = Reg.FEN_PSTATIC then mkWord [(0, fld w 0 16)]
  else if addr = Reg.FEN_FF_CTL then mkWord [(16, min 2000 (fld w 16 11)), (0, max 1 (fld w 0 16))]
  else if addr = Reg.FEN_EFF then mkWord [(0, min 1000 (max 500 (fld w 0 10)))]
  else w

/-- The FEN registers that show state. -/
def viewFen (s : State) (addr : Nat) : Option Word :=
  if addr = Reg.FEN_Q then some (BitVec.ofNat 32 ((s.fen.last.map (·.q)).getD 0))
  else if addr = Reg.FEN_E then some (BitVec.ofNat 32 ((s.fen.last.map (·.e)).getD 0))
  else if addr = Reg.FEN_GOV then some (mkWord [(16, if s.thm.hardCut then 0 else s.fen.duty), (0, s.fen.g)])
  else if addr = Reg.FEN_STAT then some (mkWord [(1, b2n s.fen.pgLow), (0, b2n s.fen.limited)])
  else none

end Sys2Proof.Machine
end

