-- ==== Sys2Proof/Machine/Patina.lean ====
section
/-! DEFINITION. Patina (R360 to R374): dose integration, curves and gains, targets, snapshots, restore, zeroing, the data
ports and the PAT registers. The temperature weights are in `Weights.lean`. -/

namespace Sys2Proof.Machine

/-! ## Dose (R360 to R363) -/

/-- `PAT_CTL.RUN`. -/
def patRun (s : State) : Bool := bitOf (s.reg Reg.PAT_CTL) 0

/-- Dose of an emitter. -/
def doseOf (s : State) (e : Nat) : Nat := kget 0 s.pat.dose e

/-- KF of R362: `round (2^40 × TG / 64 ms)`. -/
def doseKf (s : State) : Nat :=
  (roundNear ((2 ^ 56 : Nat) : Int) ((25600000 * tGrate (actSet s) : Nat) : Int)).toNat

/-- The gate of each sub-frame: a sub-frame whose start was not reported has the gate of the one before, the first the
gate in force (R361). -/
def subGates (s : State) : List Nat :=
  (List.range (tNsf (actSet s))).map (fun j =>
    s.pat.gates.getD j (s.pat.gates.getLast?.getD (min s.scn.gateA s.scn.gateB)))

/-- The on-time n of code `w` under the gates of a frame (R361). -/
def doseTime (s : State) (gates : List Nat) (w : Nat) : Nat :=
  let g := actSet s
  if gates.all (fun x => x == 65535) then w
  else lsum (gates.zipIdx.map (fun x => min (onTime (tLogNsf g) w x.2) (gateBound (tP g) x.1)))

/-- The block of an emitter (R364). -/
def doseBlock (s : State) (e : Nat) : Nat :=
  let p := e / 3
  p / s.width / 16 * divCeil s.width 16 + p % s.width / 16

/-- `d24` of R362. -/
def doseStep (s : State) (kf n e : Nat) : Nat := n * kf * kget 4096 s.pat.weight (doseBlock s e) / 2 ^ 28

/-- One step of the rounding LFSR, x^32 + x^22 + x^2 + x + 1 (R362). -/
def doseShift (x : Nat) : Nat :=
  2 * x % 2 ^ 32 + (natBits x 31 1 + natBits x 21 1 + natBits x 1 1 + natBits x 0 1) % 2

/-- The content after a draw: 24 steps, whose bits are the 24 bits drawn (log entry 47). -/
def doseDraw (x : Nat) : Nat := (List.range 24).foldl (fun x _ => doseShift x) x

/-- The LFSR has a content other than 0, in which it would stand still: a frame counter of 0 seeds a free one (log entry 47). -/
def State.doseSeed (s : State) : State :=
  if s.pat.lfsr = 0 then
    let r := s.fresh
    { r.2 with pat := { r.2.pat with lfsr := 1 + r.1 % (2 ^ 32 - 1) } }
  else s

/-- The dose increment of one emitter, rounded with a fresh draw (R362). -/
def State.doseEmitter (s : State) (e d24 : Nat) : State :=
  let s := s.doseSeed
  let x := doseDraw s.pat.lfsr
  let dose := min 0xFFFFFFFF (doseOf s e + (d24 + x % 2 ^ 24) / 2 ^ 24)
  { s with pat := { s.pat with dose := kput 0 s.pat.dose e dose, lfsr := x } }

/-- The emitter of the active geometry that an emitter of a frame of width `w` lights: the same entry of the channel map on the
same scan line (R275, R363). -/
def doseEmitterOf (s : State) (w e : Nat) : Option Nat :=
  let n := tS (actSet s)
  mapEmitter s.width s.height n (entryOf w n e) (e / 3 / w % n)

/-- The frame that has just been displayed is integrated; `dark` frames count zero. A frame that is repeated after a change of
the geometry counts for the emitters that its channels serve then (R361, R363, R528). -/
def State.doseIntegrate (s : State) (dark : Bool) : State :=
  let gates := subGates s
  let s := match s.scn.shown with
    | none => s
    | some f =>
      if dark || !patRun s || s.width == 0 || tGrate (actSet s) == 0 then s
      else
        let kf := doseKf s
        f.codes.zipIdx.foldl (fun (s : State) (c : Nat × Nat) =>
          match doseEmitterOf s f.w c.2 with
          | none => s
          | some e => s.doseEmitter e (doseStep s kf (doseTime s gates c.1) e)) s
  { s with pat := { s.pat with gates := [] } }

/-- The gate at the start of a sub-frame passes to Patina (R361). -/
def State.gateSample (s : State) : State :=
  { s with pat := { s.pat with gates := s.pat.gates ++ [min s.scn.gateA s.scn.gateB] } }

/-! ## Curves and efficiency (R366) -/

/-- η_c[i]. -/
def curveOf (curve : List (Nat × Nat)) (c i : Nat) : Nat := kget 32768 curve (65 * c + i)

/-- The efficiency of an emitter of colour `c` with dose `x`. -/
def efficiency (s : State) (c x : Nat) : Nat :=
  let i := min 63 (isqrt (x / 2 ^ 20))
  let lo := i * i * 2 ^ 20
  let a : Int := (curveOf s.pat.curve c i : Nat)
  let b : Int := (curveOf s.pat.curve c (i + 1) : Nat)
  (a + (b - a) * ((x - lo : Nat) : Int) / (((2 * i + 1) * 2 ^ 20 : Nat) : Int)).toNat

/-! ## Targets (R368) -/

/-- The fixed target. -/
def fixedTarget (s : State) : Nat :=
  (roundNear ((32768 * (1000 - s.rfld Reg.PAT_HEADROOM 0 10) : Nat) : Int) 1000).toNat

/-- MODE. -/
def patMode (s : State) : Nat := s.rfld Reg.PAT_CTL 1 2

/-- T_c of an update. -/
def targetOf (s : State) (c : Nat) : Nat :=
  let fixed := fixedTarget s
  let prev := s.pat.tgt.getD c 27853
  if patMode s = 0 then fixed
  else if patMode s = 1 then max 1 (s.rfld (Reg.PAT_MTGT0 + 4 * c) 0 16)
  else if !s.pat.firstDone then fixed
  else if !s.pat.followBegun then min fixed prev
  else match s.pat.tgtNext.getD c none with
    | none => prev
    | some t => min prev (min fixed t)

/-- Emitters of colour `c`. -/
def colourEmitters (s : State) (c : Nat) : List Nat := (List.range (s.width * s.height)).map (fun p => 3 * p + c)

/-- η at rank EXCL + 1 from the bottom among the emitters that are not DEAD: known to its bin of 8, the value within
being free. -/
def State.findTarget (s : State) (c : Nat) : Option Nat × State :=
  let live := ((colourEmitters s c).filter (fun e => faultCode s e != 2)).map (fun e => efficiency s c (doseOf s e) / 8)
  let excl := s.rfld Reg.PAT_FOLLOW 0 22
  match (live.mergeSort (fun a b => decide (a ≤ b)))[excl]? with
  | none => (none, s)
  | some b =>
    let r := s.fresh
    (some (8 * b + r.1 % 8), r.2)

/-! ## Gains (R367, R369) -/

/-- g_t of an efficiency under a target. -/
def gainTarget (t eta : Nat) : Nat :=
  if eta = 0 then 32768 else (min 32768 (roundNear ((32768 * t : Nat) : Int) ((eta : Nat) : Int))).toNat

/-- The gain of emitter `e` in an update. -/
def newGain (s : State) (targets : List Nat) (step : Nat) (e : Nat) : Nat :=
  let c := e % 3
  let gt := gainTarget (targets.getD c 0) (efficiency s c (doseOf s e))
  if !s.pat.firstDone || s.pat.fresh.contains e then gt
  else
    let old : Int := (activeGain s e : Nat)
    (old + clampInt (-(step : Int)) (step : Int) ((gt : Int) - old)).toNat

/-- The targets of an update, with what follow mode finds and lowers (R368). -/
def State.updateTargets (s : State) : State :=
  let ts := (List.range 3).map (targetOf s)
  let s := if patMode s = 2 ∧ s.pat.firstDone then
      (List.range 3).foldl (fun (s : State) c =>
        if ts.getD c 0 < s.pat.tgt.getD c 0 then s.raise .core Ev.PATINA_TARGET_LOWERED c else s) s
    else s
  let found := (List.range 3).foldl (fun (a : List (Option Nat) × State) c =>
      if patMode s = 2 then (let r := a.2.findTarget c; (a.1 ++ [r.1], r.2)) else (a.1 ++ [none], a.2)) ([], s)
  { found.2 with pat := { found.2.pat with tgt := ts, tgtNext := found.1, followBegun := decide (patMode s = 2) } }

/-- The emitters of each colour whose headroom is used up (R369). -/
def State.countExhausted (s : State) : State :=
  let n := (List.range 3).map (fun c => ((colourEmitters s c).filter (fun e =>
    decide (efficiency s c (doseOf s e) < s.pat.tgt.getD c 0))).length)
  let was := lsum s.pat.exhaust
  let s : State := { s with pat := { s.pat with exhaust := n } }
  if was = 0 ∧ lsum n ≠ 0 then
    (s.setC Reg.PAT_ERR 4).raise .core Ev.PATINA_EXHAUSTED ((List.range 3).find? (fun c => n.getD c 0 != 0) |>.getD 0)
  else s

/-- One update of the inactive bank (R367). -/
def State.gainUpdate (s : State) : State :=
  let s := s.updateTargets
  let step := max 1 (s.rfld Reg.PAT_GAIN_CTL 16 16)
  let bank := (List.range (emitterCount s)).foldl (fun m e => kput 32768 m e (newGain s s.pat.tgt step e)) []
  let s : State := { s with pat := { s.pat with
    gain0 := if s.pat.gainActive then bank else s.pat.gain0
    gain1 := if s.pat.gainActive then s.pat.gain1 else bank
    gainReady := true, firstDone := true, fresh := [] } }
  s.countExhausted

/-- `GAIN_UPDATE`: the update of a period; the first waits for R371 (R367, R373). -/
def execGainUpdate (s : State) : Out := .next (s.onlyIf (s.pat.restored && patRun s && s.awake) State.gainUpdate)

/-- The completed bank swaps at a composition deadline, and the other takes its content (R367). -/
def State.gainSwap (s : State) : State :=
  if s.pat.gainReady then
    let bank := if s.pat.gainActive then s.pat.gain0 else s.pat.gain1
    { s with pat := { s.pat with gain0 := bank, gain1 := bank, gainActive := !s.pat.gainActive, gainReady := false } }
  else s

/-! ## Snapshots (R370) -/

/-- The ledger goes to staging storage, or waits for the snapshot being written; none is taken while they are held. -/
def State.snapCopy (s : State) : State :=
  let s : State := { s with pat := { s.pat with snapDue := false } }
  if s.pat.heldSnaps then s
  else if s.pat.staging.isSome then { s with pat := { s.pat with snapAgain := true } }
  else { s with pat := { s.pat with staging := some (s.pat.dose, s.opsec, s.scn.frame, s.width, s.height) } }

/-- `PATINA_SNAPSHOT_COPY`. -/
def execPatinaSnapshotCopy (s : State) : Out := .next (s.onlyIf s.awake State.snapCopy)

/-- The bytes that the CRC of a slot covers (R370; log entry 97). -/
def snapBytes (a : ArcSnap) : List Nat :=
  (List.range (3 * a.w * a.h)).flatMap (fun e => bytesLE 4 (kget 0 a.dose e)) ++ bytesLE 4 a.opsec ++ bytesLE 8 a.frame ++
    bytesLE 2 a.w ++ bytesLE 2 a.h ++ bytesLE 4 a.board.toNat ++ curveBytes a.curve

/-- The CRC of a slot is good. -/
def snapGood (a : ArcSnap) : Bool := a.crc == crc32c (snapBytes a)

/-- The slot that staging storage is written to, before its CRC: it holds the CRC that it held. -/
def snapBody (s : State) (crc : Nat) (x : List (Nat × Nat) × Nat × Nat × Nat × Nat) : ArcSnap :=
  { dose := x.1, opsec := x.2.1, frame := x.2.2.1 % 2 ^ 48, w := x.2.2.2.1, h := x.2.2.2.2, board := s.reg Reg.PAT_BOARD_ID
    curve := s.pat.curve, crc := crc }

/-- The slot not written last. -/
def snapSlot (s : State) : Nat := 1 - s.arc.snapLast % 2

/-- `PATINA_SNAPSHOT`: the Docent has written the slot not written last, its CRC at the end (R370). -/
def execPatinaSnapshot (s : State) : Out :=
  match (if s.docentRuns then s.pat.staging else none) with
  | none => .next s
  | some x =>
    if s.pat.heldSnaps then .next { s with pat := { s.pat with staging := none, snapAgain := false } }
    else
      let a := snapBody s 0 x
      let op := x.2.1
      let slot := snapSlot s
      let s : State := { s with
        arc := { s.arc with snap := vset s.arc.snap slot (some { a with crc := crc32c (snapBytes a) }), snapLast := slot }
        pat := { s.pat with staging := none, snapTime := op, snapDue := s.pat.snapDue || s.pat.snapAgain, snapAgain := false } }
      .next (s.raise .core Ev.PATINA_SNAPSHOT 0)

/-- A reset in the midst of writing a slot leaves it as it was, or with its content and not yet its CRC, so that it is no longer
valid (R370); which is open (log entry 97). -/
def State.snapCut (s : State) : State :=
  match s.pat.staging with
  | none => s
  | some x =>
    let t := s.fresh
    if s.pat.heldSnaps || t.1 % 2 == 0 then t.2
    else { t.2 with arc := { s.arc with
      snap := vset s.arc.snap (snapSlot s) ((vget s.arc.snap (snapSlot s)).map (fun a => snapBody s a.crc x)) } }

/-- `PAT_CMD.SNAP`. -/
def State.patSnap (s : State) : State := { s with pat := { s.pat with snapDue := true } }

/-- `PAT_SNAP_CMD`. -/
def execPatSnapCmd (s : State) : Out := .next s.patSnap

/-- `PAT_CMD.ZERO`; during step 2 of a commit it waits for the end of the window (R536). -/
def State.patZero (s : State) : State :=
  if cmtStep s == 2 then { s with cmt := { s.cmt with deferZero := true } }
  else { s with pat := { s.pat with zeroDue := true } }

/-- `PAT_ZERO_CMD`. -/
def execPatZeroCmd (s : State) : Out := .next s.patZero

/-- `PAT_CMD.DISCARD` (R371). -/
def State.patDiscard (s : State) : State := { s with pat := { s.pat with heldSnaps := false } }

/-- `PAT_DISCARD_CMD`. -/
def execPatDiscardCmd (s : State) : Out := .next s.patDiscard

/-- Doses of a set of emitters zeroed; their next gain is not limited by MAXSTEP (R367, R373). -/
def State.zeroDoses (s : State) (es : List Nat) : State :=
  { s with pat := { s.pat with dose := es.foldl (fun m e => kdel m e) s.pat.dose
                               fresh := s.pat.fresh ++ es.filter (fun e => !s.pat.fresh.contains e) } }

/-- The emitters of the rectangle of `PAT_ZERO_POS` and `PAT_ZERO_SIZE` (R373). -/
def zeroRect (s : State) : List Nat :=
  let x0 := s.rfld Reg.PAT_ZERO_POS 0 16
  let y0 := s.rfld Reg.PAT_ZERO_POS 16 16
  let w := s.rfld Reg.PAT_ZERO_SIZE 0 16
  let h := s.rfld Reg.PAT_ZERO_SIZE 16 16
  (List.range (emitterCount s)).filter (fun e =>
    let x := e / 3 % s.width
    let y := e / 3 / s.width
    decide (x0 ≤ x) && decide (x < x0 + w) && decide (y0 ≤ y) && decide (y < y0 + h))

/-- What a frame boundary does: a copy that is due, then zeroing with its snapshot (R370, R373, R374). -/
def State.patBoundary (s : State) : State :=
  let s := if s.pat.snapDue then s.snapCopy else s
  if s.pat.zeroDue then
    let s : State := { s with pat := { s.pat with zeroDue := false } }
    (s.zeroDoses (zeroRect s)).snapCopy
  else s

/-- A geometry commit after the first: the ledger is set to 0 and the snapshots are held (R374). -/
def State.patGeometry (s : State) : State :=
  let s := s.zeroDoses (List.range (emitterCount s))
  let s : State := { s with pat := { s.pat with dose := [], heldSnaps := true, snapDue := false, snapAgain := false } }
  (s.setC Reg.PAT_ERR 2).raise .core Ev.PATINA_SNAP_HELD 0

/-! ## Restore (R371, R372) -/

/-- A slot matches the commit in geometry and board. -/
def snapMatches (s : State) (a : ArcSnap) : Bool :=
  a.w == s.width && a.h == s.height && a.board == s.reg Reg.PAT_BOARD_ID

/-- The valid slots, the one with the higher operating seconds first. -/
def validSnaps (s : State) : List ArcSnap :=
  (s.arc.snap.toList.filterMap (fun a => a.bind (fun x => if snapGood x then some x else none))).mergeSort
    (fun a b => decide (b.opsec ≤ a.opsec))

/-- The dose of an emitter restored from slot A, extrapolated with slot B (R371). -/
def restoredDose (s : State) (a : ArcSnap) (b : Option ArcSnap) (e : Nat) : Nat :=
  let da := kget 0 a.dose e
  match b with
  | none => da
  | some b =>
    let t := a.opsec - b.opsec
    if t = 0 then da
    else
      let d := s.opsec - a.opsec
      let db := kget 0 b.dose e
      (clampInt 0 0xFFFFFFFF ((da : Int) + ((da : Int) - (db : Int)) * ((min d t : Nat) : Int) / (t : Int))).toNat

/-- Slot B, where the extrapolation of R371 is on and it matches. -/
def extrapolator (s : State) (rest : List ArcSnap) : Option ArcSnap :=
  if bitOf (s.reg Reg.PAT_CTL) 3 then rest.find? (snapMatches s) else none

/-- The restore at the first commit: where no slot may be restored the ledger is all 0 (R371). -/
def State.patRestore (s : State) : State :=
  let s : State := { s with pat := { s.pat with restored := true, dose := [] } }
  match validSnaps s with
  | [] => (s.setC Reg.PAT_ERR 2).raise .core Ev.PATINA_RESTORE_FAIL 0
  | a :: rest =>
    if a.board ≠ s.reg Reg.PAT_BOARD_ID then (s.setC Reg.PAT_ERR 2).raise .core Ev.PATINA_BOARD_NEW 0
    else if !snapMatches s a then
      let s : State := { s with pat := { s.pat with heldSnaps := true } }
      (s.setC Reg.PAT_ERR 2).raise .core Ev.PATINA_SNAP_HELD 0
    else
      let b := extrapolator s rest
      let dose := (List.range (emitterCount s)).foldl (fun m e => kput 0 m e (restoredDose s a b e)) []
      let s : State := { s with pat := { s.pat with dose := dose } }
      s.raise .core Ev.PATINA_RESTORED 0

/-- The first update after a reset, which its first composition already uses (R367). -/
def State.patFirst (s : State) : State := if patRun s then s.gainUpdate else s

/-- Ledger words lost to an uncorrectable error: zeroed, then restored where a slot matches (R372). -/
def State.doseRepair (s : State) (es : List Nat) : State :=
  let s := s.zeroDoses es
  match (validSnaps s).filter (snapMatches s) with
  | [] => s
  | a :: rest =>
    let b := extrapolator s rest
    let s : State := { s with pat := { s.pat with
      dose := es.foldl (fun m e => kput 0 m e (restoredDose s a b e)) s.pat.dose } }
    (s.setC Reg.PAT_ERR 16).raise .core Ev.PATINA_DOSE_REPAIRED 0

/-! ## Data ports (R93, R366, R373) -/

/-- An access to `PAT_DOSE_DATA`. The ledger has 3,145,728 words (R32). -/
def dosePort (s : State) (write : Option Word) : Word × State :=
  let e := s.rfld Reg.PAT_DOSE_INDEX 0 22
  let next := fun (s : State) => s.setRfld Reg.PAT_DOSE_INDEX 0 22 (e + 1)
  match write with
  | none => if e < 3145728 then (BitVec.ofNat 32 (doseOf s e), next s) else (0, s)
  | some w =>
    if patRun s then (0, s.setC Reg.PAT_ERR 1)
    else if e < 3145728 then (0, next { s with pat := { s.pat with dose := kput 0 s.pat.dose e w.toNat } })
    else (0, s)

/-- `PAT_DOSE_DATA_ACCESS`. -/
def execPatDoseDataAccess (_r : Reader) (write : Option Word) (s : State) : Out := .next (dosePort s write).2

/-- An access to `PAT_CURVE_DATA`; above entry 194 it has no effect. -/
def curvePort (s : State) (write : Option Word) : Word × State :=
  let i := s.rfld Reg.PAT_CURVE_INDEX 0 8
  let next := fun (s : State) => s.setRfld Reg.PAT_CURVE_INDEX 0 8 (i + 1)
  if 194 < i then (0, s)
  else match write with
    | none => (BitVec.ofNat 32 (kget 32768 s.pat.curve i), next s)
    | some w => (0, next { s with pat := { s.pat with curve := kput 32768 s.pat.curve i (fld w 0 16), curveDirty := true } })

/-- `PAT_CURVE_DATA_ACCESS`. -/
def execPatCurveDataAccess (_r : Reader) (write : Option Word) (s : State) : Out := .next (curvePort s write).2

/-! ## Registers -/

/-- What a PAT register holds of a word written. -/
def patStored (addr : Nat) (w : Word) : Word :=
  if addr = Reg.PAT_CTL then
    mkWord [(3, fld w 3 1), (1, if fld w 1 2 = 3 then 0 else fld w 1 2), (0, fld w 0 1)]
  else if addr = Reg.PAT_AGE then mkWord [(16, fld w 16 8), (8, fld w 8 8), (0, min 30 (max 4 (fld w 0 8)))]
  else if addr = Reg.PAT_HEADROOM then mkWord [(0, min 500 (fld w 0 10))]
  else if addr = Reg.PAT_GAIN_CTL then
    mkWord [(16, min 4096 (max 1 (fld w 16 16))), (0, min 3600 (max 1 (fld w 0 12)))]
  else if Reg.PAT_MTGT0 ≤ addr ∧ addr ≤ Reg.PAT_MTGT2 then mkWord [(0, max 1 (fld w 0 16))]
  else if addr = Reg.PAT_FOLLOW then mkWord [(0, fld w 0 22)]
  else if addr = Reg.PAT_SNAP then mkWord [(0, max 1 (fld w 0 8))]
  else if addr = Reg.PAT_DOSE_INDEX then mkWord [(0, fld w 0 22)]
  else if addr = Reg.PAT_CURVE_INDEX then mkWord [(0, fld w 0 8)]
  else w

/-- A write of `PAT_CMD`. -/
def State.patCommand (s : State) (data : Word) : State :=
  let s := if acts data 2 then s.patDiscard else s
  let s := if acts data 0 then s.patSnap else s
  if acts data 1 then s.patZero else s

/-- The PAT registers that show state. -/
def viewPat (s : State) (addr : Nat) : Option Word :=
  let valid := fun (i : Nat) => match vget s.arc.snap i with
    | none => false
    | some a => snapGood a
  if addr = Reg.PAT_TGT_ACT01 then some (mkWord [(16, s.pat.tgt.getD 1 0), (0, s.pat.tgt.getD 0 0)])
  else if addr = Reg.PAT_TGT_ACT2 then some (mkWord [(0, s.pat.tgt.getD 2 0)])
  else if addr = Reg.PAT_SNAP then
    some (mkWord [(11, b2n s.pat.heldSnaps), (10, b2n (valid 1)), (9, b2n (valid 0)),
                  (8, if valid 0 || valid 1 then s.arc.snapLast % 2 else 0), (0, s.rfld Reg.PAT_SNAP 0 8)])
  else if addr = Reg.PAT_SNAP_TIME then some (BitVec.ofNat 32 s.pat.snapTime)
  else if addr = Reg.PAT_CMD then some 0
  else if addr = Reg.PAT_EXHAUST then
    some (mkWord [(22, min 1023 (s.pat.exhaust.getD 2 0)), (11, min 2047 (s.pat.exhaust.getD 1 0)),
                  (0, min 2047 (s.pat.exhaust.getD 0 0))])
  else none

end Sys2Proof.Machine
end

