-- ==== Sys2Proof/Machine/Scan.lean ====
section
/-! DEFINITION. Scan-out (R284 to R304): uploads, frame events, line visits, light gate, genlock, the SCAN PLL, PWR_FF, and
the SCN registers. The frame boundary itself is in `Boundary.lean`. -/

namespace Sys2Proof.Machine

/-- Scan-out runs: CORE is awake and the SCAN PLL has locked (R70, R74). -/
def scanRuns (s : State) : Bool := s.awake && s.pwr.scanLock

/-- The drivers do not swap at the next boundary whatever the upload does, because scan-out has decided already that the
coming frame is dark (R300, R333, R466, R522, R534), or cannot send the swap. -/
def nextDark (s : State) : Bool :=
  outputsHeld s || (s.cmt.due && s.cmt.cost != 0) || s.cmt.reload || s.cmt.svcReload || s.pwr.scanLost ||
  (match s.scn.dark with
   | some (.timing n) => decide (2 ≤ n)
   | some (.reload n) => decide (2 ≤ n)
   | _ => false)

/-! ## Uploads (R290, R315) -/

/-- The composed frame that is to be uploaded in this frame: that of frame f + 1, where its composition ended and no
reload has yet to run before it. Nothing is uploaded before the first accepted commit (R301; log entry 52). -/
def uploadExpected (s : State) : Option Composed :=
  let k := s.scn.frame + 1
  let blocked := match s.scn.dark with
    | some (.timing n) => decide (2 ≤ n)
    | some (.reload n) => decide (2 ≤ n)
    | some .hold => true
    | _ => false
  if !scanRuns s || blocked || outputsHeld s || !s.cmt.everAccepted || s.scn.skipped.contains k then none
  else s.pix.composed.find? (fun c => c.frame == k && c.w != 0 && c.h != 0)

/-- The same where the upload can start. -/
def uploadFrame (s : State) : Option Composed :=
  if s.scn.upload.isSome || s.scn.deadlineDone || s.cch.statBusy then none else uploadExpected s

/-- The chain words of one line, its LINE_STORE, and the commands that diagnostics put into its trailer (R315, R337). -/
def State.sendLine (s : State) (word : Nat → Nat → Nat) (plan : List (Nat × DrvCmd)) (l : Nat) : State :=
  let g := actSet s
  let s := s.onlyIf (chainsDriven s) (fun s =>
    s.emits ((chainList g).map (fun n => Output.line n l (lineWords s.pwr.legacy (cNd g) (cC g) (tD g) l (word n)))))
  (plan.filter (fun p => p.1 == l)).foldl (fun (s : State) p => s.command p.2) (s.command .lineStore)

/-- The upload of a composed frame. -/
def State.upload (s : State) (c : Composed) (bad : List (Nat × Nat)) : State :=
  let s := s.lfsrUpload (fld c.dith 16 16)
  let g := ((forecastOf s c.frame).map (·.g)).getD s.fen.g
  let s : State := { s with pix := { s.pix with e := scaleE c.b g, governed := decide (g < c.b) } }
  let owners := mapOwners s c.w c.h
  let codes := backCodes s c g
  let lines := tS (actSet s)
  let s := (s.readback c.frame bad).command .loadStart
  let p := s.diaUpload
  let s := (List.range lines).foldl (fun (s : State) l =>
    s.sendLine (fun n pos => placeCode owners codes c.w c.h lines n pos l) p.1 l) p.2
  let u : Upload := { frame := c.frame, complete := false, w := c.w, h := c.h, reads := c.reads
                      codes := doseCodes s c.w c.h owners codes }
  { s with
    scn := { s.scn with upload := some u }
    cch := { s.cch with lastLineValid := false } }

/-- `UPLOAD_START`: the upload begins after F(k-1), once composition of frame k has ended. `bad` lists the chains and
lines whose readback differs in this upload (R324). -/
def execUploadStart (bad : List (Nat × Nat)) (s : State) : Out :=
  .next (match uploadFrame s with
    | none => s
    | some c => s.upload c bad)

/-- Microseconds left before the deadline of the frame in progress as its upload ends (R292). The upload has started within
1 µs after the boundary, when is open: a composition that ends later is abandoned (R30, R290; log entry 51). -/
def microsLeft (s : State) (start : Nat) : Nat :=
  (frameLen s - 800 - (start % 401 + tU s.pwr.legacy (actSet s) * cDiv (actSet s))) / 400

/-- `FDONE`: the upload has ended in every enabled group. -/
def execFdone (s : State) : Out :=
  .next (match s.scn.upload with
    | none => s
    | some u => s.onlyIf (scanRuns s && !u.complete && !s.scn.deadlineDone) (fun s =>
        let s : State := { s with
          scn := { s.scn with upload := some { u with complete := true } }
          cch := { s.cch with lastLineValid := true } }
        s.onlyIf (bitOf (s.reg Reg.SCN_EVT_EN) 2) (fun s =>
          let t := s.fresh
          t.2.raise .scan Ev.FDONE 0 u.frame (microsLeft s t.1))))

/-- GLK_OUT changes its level. -/
def State.glkLevel (s : State) (high : Bool) : State :=
  if s.scn.glkOut = high then s else { s.emit (.glkOut high) with scn := { s.scn with glkOut := high } }

/-- The upload deadline: FRAME_SWAP where the upload is complete and the coming frame is not decided dark, FRAME_SYNC
otherwise (R290, R318, R322, R334). Nothing is sent while the chains are not driven. A read that waits could not be made in this
frame (R326). -/
def State.deadline (s : State) : State :=
  if s.scn.deadlineDone then s
  else
    let swap := s.scn.upload.any (fun u => u.complete) && !nextDark s
    let s : State := { s with scn := { s.scn with deadlineDone := true, swapSent := swap } }
    let s := s.onlyIf ((readDue s || s.cch.statDue) && !s.cch.statBusy && s.scn.dark.isNone) State.deferRead
    (s.glkLevel false).command (if swap then .frameSwap else .frameSync)

/-- `UPLOAD_DEADLINE`, F(k) − 2 µs. -/
def execUploadDeadline (s : State) : Out := .next (s.onlyIf (scanRuns s) State.deadline)

/-! ## Line visits (R285, R286, R330) -/

/-- The next line visit: sub-frame and line; none after the last. -/
def nextVisit (s : State) : Option (Nat × Nat) :=
  let g := actSet s
  if s.scn.line + 1 < tS g then some (s.scn.subframe, s.scn.line + 1)
  else if s.scn.subframe + 1 < tNsf g then some (s.scn.subframe + 1, 0)
  else none

/-- ROWEN rises in a visit whose gate is above 0, in a frame that is not dark (R286, R289). -/
def rowRises (s : State) (gate : Nat) : Bool := s.scn.dark.isNone && gate != 0 && chainsDriven s

/-- The row bus runs: the frame is not dark and the outputs are driven (R286). -/
def rowRuns (s : State) : Bool := s.scn.dark.isNone && chainsDriven s

/-- The edge of a line visit at which RA changes (R330). -/
def raDelay (s : State) : Nat := min (tLb (actSet s) - 1) (max 1 (fld (s.actReg Reg.CCH_ROW) 0 8))

/-- The row bus in a visit of line `l`: ROWEN falls at edge 0, RA changes at edge RA_DLY, and ROWEN rises at edge LB, where the
light gate lets it (R286, R330). -/
def visitEdges (s : State) (l : Nat) (rises : Bool) : List Output :=
  [.row (some 0) false s.scn.ra, .row (some (raDelay s)) false l, .row (some (tLb (actSet s))) rises l]

/-- A line visit begins with the gate in force; State holds what its edge LB leaves (R286, R289, R330). -/
def State.visit (s : State) (j l : Nat) : State :=
  let gate := lightGate s
  let rises := rowRises s gate
  let ra := if rowRuns s then l else 0
  let s := s.onlyIf (rowRuns s) (fun s => s.emits (visitEdges s l rises))
  { s with scn := { s.scn with subframe := j, line := l, gateLine := gate, rowen := rises, ra := ra } }

/-- GLK_OUT rises at the start of a sub-frame: in mode 0 at F(k) only; in mode 2 it is low (R296). -/
def State.glkPulse (s : State) (j : Nat) : State :=
  if s.scn.outMode = 1 ∨ s.scn.outMode = 0 ∧ j = 0 then s.glkLevel true
  else s.onlyIf (j == 0) (fun s => s.glkLevel false)

/-- GCK periods since the rise of GLK_OUT, at the start of line visit `l` of sub-frame `j`. -/
def pulseGck (s : State) (j l : Nat) : Nat :=
  let g := actSet s
  (if s.scn.outMode = 0 then j * tS g + l else l) * (tLb g + tP g)

/-- GLK_OUT falls 10 µs after its rise: at the first line visit, `SOB` or deadline from then on, as the model has no finer
instant (R296; log entry 96). -/
def State.glkFall (s : State) (j l : Nat) : State :=
  s.onlyIf (decide (4000 * tGrate (actSet s) ≤ pulseGck s j l * 65536)) (fun s => s.glkLevel false)

/-- `LINE_VISIT_START`. -/
def execLineVisitStart (s : State) : Out :=
  .next (if !scanRuns s || s.scn.blanking then s
    else match nextVisit s with
      | none => s
      | some (j, l) =>
        let s := s.visit j l
        let s := s.glkFall j l
        if l = 0 then (s.gateSample).glkPulse j else s)

/-- `LMATCH`: the visit that has begun is the one that `SCN_LMATCH` names (R292, R302). -/
def execLmatch (s : State) : Out :=
  .next (s.onlyIf (scanRuns s && !s.scn.blanking && s.scn.lmatch == 256 * s.scn.subframe + s.scn.line &&
      bitOf (s.reg Reg.SCN_EVT_EN) 1)
    (fun s => s.raise .scan Ev.LMATCH 0 s.scn.frame (s.scn.subframe + 256 * s.scn.line)))

/-- `LIGHT_GATE_CHANGE`: a safety core passes its gate value into SCAN. A lowered gate acts in the running visit, a
raised one from the next (R289). -/
def execLightGateChange (core : SafCore) (s : State) : Out :=
  .next (
    let g := safGate s
    let s : State := match core with
      | .a => { s with scn := { s.scn with gateA := g } }
      | .b => { s with scn := { s.scn with gateB := g } }
    let line := min s.scn.gateLine (lightGate s)
    let s := s.onlyIf (s.scn.rowen && line == 0) (fun s => s.emit (.row none false s.scn.ra))
    let s : State := { s with scn := { s.scn with gateLine := line, rowen := s.scn.rowen && line != 0 } }
    s.diaGate)

/-! ## Genlock (R293 to R295) -/

/-- An interval is accepted (R293). -/
def glkAccepts (s : State) (cycles : Nat) : Bool :=
  decide (19 * framePeriod s ≤ 20 * cycles) && decide (20 * cycles ≤ 21 * framePeriod s)

/-- A rejected or missing pulse: it counts, ends WAIT's count, and ends TRACK (R294). -/
def State.glkReject (s : State) : State :=
  let was := s.scn.genlock
  let s : State := { s with scn := { s.scn with
    accepted := 0, rejects := min 15 (s.scn.rejects + 1)
    genlock := if was = .track then .wait else was, fbi := if was = .track then none else s.scn.fbi, glkLost := s.scn.glkLost || decide (was = .track) } }
  s.onlyIf (decide (was = .track)) (fun s => (s.setC Reg.SCN_ERR 4).raise .scan Ev.GENLOCK_LOST 0)

/-- `GLK_IN_EDGE`: a rising edge, with the interval since the edge before in SCAN cycles and the length of its high pulse; a
pulse shorter than 100 ns is ignored. -/
def execGlkInEdge (x : GlkEdge) (s : State) : Out :=
  let cycles := x.cycles
  .next (s.onlyIf (scanRuns s && decide (100 ≤ x.ns)) (fun s =>
    let s : State := { s with scn := { s.scn with glkPer := min 0x1FFFFFF cycles } }
    if glkAccepts s cycles then
      let n := s.scn.accepted + 1
      let go := decide (s.scn.genlock = .wait) && decide (4 ≤ n)
      { s with scn := { s.scn with
        glkSeen := true, accepted := if go then 0 else min 4 n
        genlock := if go then .capture else s.scn.genlock } }
    else s.glkReject))

/-- `GLK_IN_MISSING`: no edge within 1.05 × FPER of the last accepted one. -/
def execGlkInMissing (s : State) : Out :=
  .next (s.onlyIf (scanRuns s && s.scn.glkSeen) State.glkReject)

/-- The phase found at a boundary: within ±2 cycles CAPTURE becomes TRACK (R294). -/
def State.glkPhase (s : State) (phase : Option Int) : State :=
  match phase with
  | none => s
  | some e =>
    let s : State := { s with scn := { s.scn with phaseErr := e } }
    if s.scn.genlock = .capture ∧ -2 ≤ e ∧ e ≤ 2 then
      let s : State := { s with scn := { s.scn with genlock := .track, rejects := 0, glkLost := false } }
      s.raise .scan Ev.GENLOCK_ACQUIRED 0
    else s

/-- In TRACK the trim follows the rate; its value is free within its range, and frozen otherwise (R73, R294). -/
def State.trimFollow (s : State) : State :=
  if s.scn.genlock = .track ∧ bitOf (s.reg Reg.SCN_CLK_SRC) 1 then
    let t := s.fresh
    { t.2 with scn := { t.2.scn with trim := ((t.1 % 201 : Nat) : Int) - 100 } }
  else s

/-- FBI of a frame in CAPTURE whose boundary lies `e` cycles after the target phase: it moves by at most a twentieth of the
period, and is shortened down to FBI_MIN (R294). -/
def captureFbi (s : State) (e : Int) : Nat :=
  let g := actSet s
  let fbi := tFbi g
  let step : Int := ((divCeil (tFper g) 20 : Nat) : Int)
  (if 0 < e then max (min fbi ((tFbiMin g : Nat) : Int)) (fbi - min e step) else fbi + min (-e) step).toNat

/-- FBI of a frame in TRACK: it follows an accepted GLK_IN period, both boundaries within 2 cycles of their target phase, and is
no shorter than FBI_MIN (R293 to R295); `v` is the free value (log entry 51). -/
def trackFbi (s : State) (v : Nat) : Nat :=
  let g := actSet s
  let lo := max (tFbiMin g) (divCeil (19 * tFper g) 20 - 4 - tA g)
  let hi := max lo (21 * tFper g / 20 + 4 - tA g)
  lo + v % (hi - lo + 1)

/-- FBI of the frame that begins, with the phase found at its boundary (R285, R294). -/
def State.fixFbi (s : State) (phase : Option Int) : State :=
  match s.scn.genlock, phase with
  | .capture, some e => { s with scn := { s.scn with fbi := some (captureFbi s e) } }
  | .track, _ =>
    let t := s.fresh
    { t.2 with scn := { t.2.scn with fbi := some (trackFbi s t.1) } }
  | _, _ => { s with scn := { s.scn with fbi := none } }

/-! ## The SCAN PLL (R74, R302) -/

/-- `SCAN_PLL_UNLOCK`: the upload is abandoned without `UNDERRUN`, and outputs are low. -/
def execScanPllUnlock (s : State) : Out :=
  .next (s.onlyIf (scanRuns s) (fun s =>
    let lost := decide (s.dia.phase ≠ .idle)
    let s : State := { s.rowRest with
      pwr := { s.pwr with scanLock := false, scanLost := true }
      scn := { s.rowRest.scn with
        upload := none, swapSent := false, gateLine := 0
        skipped := if s.scn.upload.isSome then (s.scn.frame + 1) :: s.scn.skipped else s.scn.skipped }
      cch := { s.cch with lastLineValid := false, statBusy := false } }
    let s := s.onlyIf lost State.discardRound
    s.raise .scan Ev.SCAN_PLL_UNLOCK 0))

/-- `SCAN_PLL_RELOCK`: the next boundary starts a dark frame. -/
def execScanPllRelock (s : State) : Out :=
  .next (s.onlyIf (s.awake && !s.pwr.scanLock && s.pwr.scanLost)
    (fun s => { s with pwr := { s.pwr with scanLock := true } }))

/-! ## Requests -/

/-- A write of `SCN_COMMIT` (R298): further requests merge into the pending one. -/
def State.commitWrite (s : State) (data : Word) : State :=
  if bitOf data 0 then { s with cmt := { s.cmt with pend := true } } else s

/-- `SCN_COMMIT`. -/
def execScnCommit (data : Word) (s : State) : Out := .next (s.onlyIf s.awake (fun s => s.commitWrite data))

/-- `GLB_SVC_CMD.RELOAD` (R522). -/
def State.serviceReload (s : State) : State := { s with cmt := { s.cmt with svcReload := true } }

/-- `SERVICE_RELOAD`. -/
def execServiceReload (s : State) : Out := .next (s.onlyIf s.awake State.serviceReload)

/-- `PWR_FF_UPDATE`: at F(k) − LEAD the duty of frame k goes out, the dark duty where scan-out has already decided that
the frame is dark (R382, R383). -/
def execPwrFfUpdate (s : State) : Out :=
  .next (s.onlyIf (scanRuns s) (fun s =>
    { s with fen := { s.fen with duty := frameDuty s (s.scn.frame + 1) (nextDark s) } }))

/-! ## Registers -/

/-- `SCN_COMMIT.DARK`: a dark frame of R300 or R301. -/
def commitDark (s : State) : Bool :=
  match s.scn.dark with
  | some (.timing _) => true
  | some .noFrame => s.cmt.first
  | _ => false

/-- `SCN_STAT.PHASE`. -/
def scanPhase (s : State) : Nat :=
  if s.scn.dark.isSome && s.scn.frame != 0 then 2 else b2n s.scn.blanking

/-- What an SCN register holds of a word written. -/
def scnStored (addr : Nat) (w : Word) : Word :=
  if addr = Reg.SCN_CLK_SRC then mkWord [(0, fld w 0 2)]
  else if addr = Reg.SCN_GLK_CTL then mkWord [(0, if fld w 0 2 = 3 then 0 else fld w 0 2)]
  else if addr = Reg.SCN_EVT_EN then mkWord [(0, fld w 0 3)]
  else if addr = Reg.SCN_LMATCH then mkWord [(8, fld w 8 6), (0, fld w 0 6)]
  else if addr = Reg.SCN_FREEZE then mkWord [(8, fld w 8 1), (0, max 1 (fld w 0 8))]
  else if addr = Reg.SCN_SH_FPER ∨ addr = Reg.SCN_SH_PHASE then mkWord [(0, fld w 0 24)]
  else if addr = Reg.SCN_SH_GCK then mkWord [(0, fld w 0 15)]
  else if addr = Reg.SCN_SH_MODE then
    mkWord [(16, fld w 16 8), (8, fld w 8 3), (4, fld w 4 4), (0, fld w 0 2)]
  else if addr = Reg.SCN_SH_FBIMIN then mkWord [(0, fld w 0 20)]
  else w

/-- The SCN registers that show state; the active set lies 0x100 above the shadow set. -/
def viewScn (s : State) (addr : Nat) : Option Word :=
  if addr = Reg.SCN_COMMIT then some (mkWord [(24, b2n (commitDark s)), (16, s.cmt.err), (8, b2n s.cmt.pend)])
  else if addr = Reg.SCN_STAT then
    some (mkWord [(24, scanPhase s), (16, s.scn.subframe % 64), (0, s.scn.line % 64)])
  else if addr = Reg.SCN_FRAME_LO then some (BitVec.ofNat 32 s.scn.frame)
  else if addr = Reg.SCN_FRAME_HI then some (mkWord [(0, s.scn.frame / 2 ^ 32 % 65536)])
  else if addr = Reg.SCN_CLK_SRC then
    some (mkWord [(9, b2n (decide (s.scn.genlock = .track))), (8, b2n (tSrc (actSet s))), (0, s.rfld Reg.SCN_CLK_SRC 0 2)])
  else if addr = Reg.SCN_GLK_PER then some (mkWord [(0, s.scn.glkPer)])
  else if addr = Reg.SCN_GLK_STAT then
    let code := match s.scn.genlock with | .free => 0 | .wait => 1 | .capture => 2 | .track => 3
    some (mkWord [(28, s.scn.rejects), (24, code),
      (16, if bitOf (s.reg Reg.SCN_CLK_SRC) 1 then toTwos 8 s.scn.trim else 0),
      (0, toTwos 16 (clampInt (-32768) 32767 s.scn.phaseErr))])
  else if addr = Reg.SCN_FREEZE then
    some (mkWord [(16, min 255 s.scn.freeze), (0, s.rfld Reg.SCN_FREEZE 0 9)])
  else if addr = Reg.SCN_GATE then some (mkWord [(16, s.scn.gateA), (0, s.scn.gateB)])
  else if addr = Reg.SCN_UNDERRUN_CNT then some (BitVec.ofNat 32 s.scn.underruns)
  else if addr = Reg.SCN_FBI then some (mkWord [(0, toTwos 24 (tFbi (actSet s)))])
  else if Reg.SCN_SH_FPER + 0x100 ≤ addr ∧ addr ≤ Reg.SCN_SH_PHASE + 0x100 then some (s.actReg (addr - 0x100))
  else none

end Sys2Proof.Machine
end

