-- ==== Sys2Proof/Machine/Commit.lean ====
section
/-! DEFINITION. The configuration commit (R298 to R301, R332, R524 to R537): capture and checks at SOB, the set taken at
F(m), the steps with their held compositions, and `SOB` itself. -/

namespace Sys2Proof.Machine

/-! ## Staged registers (R524) -/

/-- The timing set and the source. -/
def timingAddrs : List Nat :=
  [Reg.SCN_SH_FPER, Reg.SCN_SH_GCK, Reg.SCN_SH_MODE, Reg.SCN_SH_FBIMIN, Reg.SCN_SH_PHASE, Reg.SCN_CLK_SRC]

/-- The chain settings but for the `CCH_CFG_DATA` entries. -/
def chainAddrs : List Nat := [Reg.CCH_EN, Reg.CCH_GEOM, Reg.CCH_DCK, Reg.CCH_ROW]

/-- `LAY_CTL` of every layer. -/
def layAddrs : List Nat := (List.range 16).map (inst Reg.LAY_CTL 0x100)

/-- Pixel pipeline fields, then the layer conversion fields. -/
def pixelAddrs : List Nat :=
  [Reg.PIX_CTL, Reg.PIX_LUM, Reg.PIX_HLG, Reg.PIX_DITH, Reg.PIX_OLUT_CTL, Reg.PIX_CONCEAL] ++ layAddrs

/-- `YZL_PORT_CTL` of every port. -/
def portAddrs : List Nat := (List.range 4).map (inst Reg.YZL_PORT_CTL 0x1000)

/-- Every staged register. -/
def stagedAddrs : List Nat := timingAddrs ++ chainAddrs ++ [Reg.PIX_GEOM] ++ pixelAddrs ++ portAddrs

/-- What a register of the captured set holds. -/
def capReg (s : State) (addr : Nat) : Word :=
  kget (resetWord s.pwr.legacy s.pwr.viocClass addr) s.cmt.captured addr

/-- Registers of the captured set taken into effect. -/
def State.take (s : State) (addrs : List Nat) : State :=
  let taken := s.cmt.captured.filter (fun p => addrs.contains p.1)
  { s with act := taken.foldl (fun m p => kset m p.1 p.2) (s.act.filter (fun p => !addrs.contains p.1)) }

/-! ## Checks (R299, R525) -/

/-- GRATE's maximum of a VIOC class (R309). -/
def grateMax (vioc : Nat) : Nat := if vioc = 0 then 20480 else if vioc = 1 then 16384 else 13107

/-- Cause 1: a field outside its range. -/
def rangeBad (g : Nat → Word) : Bool :=
  decide (tFper g < 1666666) || decide (16683334 < tFper g) || decide (tGrate g < 1024) || decide (20480 < tGrate g) ||
  tScan g == 3 || decide (tD g < 10) || decide (14 < tD g) || decide (6 < tLogNsf g) || decide (tP g < 64) ||
  decide (tLb g < 8) || decide (tFbiMin g < 16000) || decide (400000 < tFbiMin g) ||
  decide (tFper g < 2 * (tPhase g).natAbs) || cNd g == 0 || decide (192 < cNd g) || decide (3072 < cNd g * cC g)

/-- Cause 2: a limit of the VIOC class. -/
def classBad (s : State) (g : Nat → Word) : Bool :=
  decide (3 ≤ s.pwr.viocClass) || decide (grateMax s.pwr.viocClass < tGrate g) ||
    decide (cDiv g < resetDck s.pwr.viocClass)

/-- Cause 3: the blanking interval is too short. -/
def blankBad (g : Nat → Word) : Bool :=
  decide (tFbi g < ((tFbiMin g + (if tSrc g then divCeil (tFper g) 20 else 0) : Nat) : Int))

/-- Cause 4: the upload does not fit, 3 µs being 1,200 cycles. -/
def uploadBad (s : State) (g : Nat → Word) : Bool := decide (tFper g < tU s.pwr.legacy g * cDiv g + 1200)

/-- Cause 6: a geometry outside R2. -/
def geomBad (w h : Nat) : Bool :=
  w == 0 || h == 0 || w % 16 != 0 || decide (2048 < w) || decide (1024 < h) || decide (1048576 < w * h)

/-- The first cause of refusal of a captured set, 0 for none. -/
def commitErr (s : State) (g : Nat → Word) : Nat :=
  let w := fld (g Reg.PIX_GEOM) 0 12
  let h := fld (g Reg.PIX_GEOM) 16 11
  if rangeBad g then 1
  else if classBad s g then 2
  else if blankBad g then 3
  else if uploadBad s g then 4
  else if s.pwr.legacy && (tScan g != 0 || decide (12 < tD g)) then 5
  else if geomBad w h then 6
  else if (chainList g).length * cNd g * cC g < channelsNeeded w h (tS g) then 7
  else if s.pwr.legacy && (decide (512 < w) || decide (512 < h)) then 8
  else 0

/-! ## What a commit changes (R300, R332, R526, R527) -/

/-- Dark frames that a set costs at F(m). -/
def commitCost (s : State) (g : Nat → Word) : Nat :=
  let a := actSet s
  if !s.cmt.everAccepted || tScan g != tScan a || tD g != tD a || cEn g != cEn a || g Reg.CCH_GEOM != a Reg.CCH_GEOM ||
      cDiv g != cDiv a || s.cch.cfg != s.cch.cfgAct then 2
  else if tFper g != tFper a || tGrate g != tGrate a || tLogNsf g != tLogNsf a || tLb g != tLb a || tSrc g != tSrc a then 1
  else 0

/-- The geometry changes; at the first commit it always does (R532). -/
def geomChanges (s : State) (g : Nat → Word) : Bool := !s.cmt.everAccepted || g Reg.PIX_GEOM != s.actReg Reg.PIX_GEOM

/-- A staged field of `LAY_CTL` or `PIX_CTL` changes. -/
def flushChanges (s : State) (g : Nat → Word) : Bool :=
  (Reg.PIX_CTL :: layAddrs).any (fun a =>
    if a = Reg.PIX_CTL then g a != s.actReg a else fld (g a) 1 31 != fld (s.actReg a) 1 31)

/-- LANES and RATE of a `YZL_PORT_CTL` word. -/
def portLanes (w : Word) : Nat × Bool := (fld w 2 2, bitOf w 1)

/-- The ports whose LANES or RATE change. -/
def portsChanged (s : State) (g : Nat → Word) : List Nat :=
  (List.range 4).filter (fun p =>
    portLanes (g (inst Reg.YZL_PORT_CTL 0x1000 p)) != ((vget s.port p).lanes, (vget s.port p).rate))

/-- Steps with the number of compositions that each holds. -/
def commitSteps (s : State) (g : Nat → Word) : List (Nat × Nat) :=
  let later := (if geomChanges s g then [(2, max 1 (divCeil 3600000 (tFper g)))] else []) ++
    (if geomChanges s g || flushChanges s g then [(3, 1)] else []) ++
    (if (portsChanged s g).isEmpty then [] else [(4, 1)])
  (if commitCost s g = 0 then [] else [(1, if later.isEmpty then 0 else 1)]) ++ later

/-- Steps held within the bound, and those that are applied visibly from the first that would exceed it on (R529). -/
def boundSteps (holdMax : Nat) : Nat → Bool → List (Nat × Nat) → List CmtStep
  | _, _, [] => []
  | used, vis, (n, h) :: l =>
    let v := vis || decide (holdMax < used + h)
    { step := n, left := if v then 0 else h, visible := v } :: boundSteps holdMax (used + h) v l

/-! ## The sample at SOB (R298, R299, R524) -/

/-- No request is sampled in the window of a commit, in dark frames that a commit takes (R298, R530), nor the first one while
the Docent, which holds it until the restores are ready, does not run (R532, R542; log entry 52). -/
def samplingWaits (s : State) : Bool :=
  s.cmt.window || (!s.cmt.everAccepted && !s.docentRuns) || (match s.scn.dark with
    | some (.timing _) => true
    | some (.reload _) => true
    | _ => false)

/-- The request is decided: the staged items are captured together and checked together. -/
def State.sampleCommit (s : State) : State :=
  if !s.cmt.pend || samplingWaits s then s
  else
    let s : State := { s with cmt := { s.cmt with
      pend := false, captured := s.regs.filter (fun p => stagedAddrs.contains p.1), capturedCfg := s.cch.cfg } }
    let g := capReg s
    let err := commitErr s g
    if err ≠ 0 then
      let s : State := { s with cmt := { s.cmt with err := err } }
      (s.setC Reg.SCN_ERR 8).raise .scan Ev.TIMING_REFUSED 0 err
    else
      let s : State := { s with
        cmt := { s.cmt with
          err := 0, commits := min 65535 (s.cmt.commits + 1), everAccepted := true, visible := false, held := 0
          window := true, steps := boundSteps (s.rfld Reg.GLB_CMT_CTL 0 3) 0 false (commitSteps s g)
          cost := commitCost s g, due := true, initial := !s.cmt.everAccepted, pixels := true }
        cch := { s.cch with mapRaised := false }
        cal := { s.cal with access := if s.cal.access = some 1 then none else s.cal.access } }
      s.raise .scan Ev.TIMING_COMMITTED 0

/-- `SOB`: F(k) + A of the active set, in dark frames too. -/
def execSob (s : State) : Out :=
  .next (s.onlyIf (scanRuns s && !s.scn.blanking) (fun s =>
    let s : State := { s with scn := { s.scn with blanking := true } }
    let s := (s.rowRest).glkFall (tNsf (actSet s) - 1) (tS (actSet s))
    let s := s.onlyIf (bitOf (s.reg Reg.SCN_EVT_EN) 0) (fun s => s.raise .scan Ev.SOB 0 s.scn.frame (frameFbi s % 2 ^ 24))
    s.sampleCommit))

/-! ## The set at F(m) (R300, R332) -/

/-- Chains that the captured set disables lose their broken mark, and with the fault that clears their emitters return to GOOD
(R332, R334, R352). -/
def State.mendDisabled (s : State) (was : Nat) : State :=
  ((List.range 32).filter (fun n => was.testBit n && !(cEn (actSet s)).testBit n)).foldl
    (fun (s : State) n => s.mendChain n 0) s

/-- Genlock at a commit: FREE without GLK_IN, WAIT after a change of FPER or source or out of CAPTURE and TRACK. -/
def State.glkCommit (s : State) (fper : Nat) (src : Bool) : State :=
  let a := actSet s
  let go := tFper a != fper || tSrc a != src || decide (s.scn.genlock = .capture) || decide (s.scn.genlock = .track)
  if !tSrc a then { s with scn := { s.scn with genlock := .free, accepted := 0 } }
  else if go then { s with scn := { s.scn with genlock := .wait, accepted := 0 } }
  else s

/-- The timing set, the chain settings and the configuration entries take effect. -/
def State.applyTiming (s : State) : State :=
  let a := actSet s
  let fper := tFper a
  let src := tSrc a
  let en := cEn a
  let shape := (tScan a, tD a)
  let s : State := { s.take (timingAddrs ++ chainAddrs) with
    cch := { s.cch with cfgAct := s.cmt.capturedCfg, mapReported := s.cch.mapRaised }
    cmt := { s.cmt with due := false } }
  let s := (s.mendDisabled en).glkCommit fper src
  s.onlyIf (shape != (tScan (actSet s), tD (actSet s))) State.restartCycle

/-! ## Steps (R527 to R530) -/

/-- What a geometry step does (R279, R356, R374, R219). -/
def State.applyGeometry (s : State) : State :=
  let s := s.take [Reg.PIX_GEOM]
  let s : State := { s with cur := { s.cur with quads := [] }, cch := { s.cch with mapReported := s.cch.mapRaised } }
  if s.cmt.initial then s else ((s.calmatReset).faultReset).patGeometry

/-- What a port step does: every changed port goes down and brings itself up again, and a port that had no lane
starts (R124, R127). -/
def State.applyPorts (s : State) : State :=
  (portsChanged s (capReg s)).foldl (fun (s : State) p =>
    let w := portLanes (capReg s (inst Reg.YZL_PORT_CTL 0x1000 p))
    ((s.modPort p (fun q => { q with lanes := w.1, rate := w.2 })).portIdle p).portStart p) s

/-- A step begins. A geometry that is held takes effect when its step ends, one that is visible at once. -/
def State.beginStep (s : State) (x : CmtStep) : State :=
  let s := if x.step = 2 ∧ x.visible then s.applyGeometry
    else if x.step = 3 then s.dropVitrines
    else if x.step = 4 then s.applyPorts
    else s
  if x.visible && !s.cmt.visible then
    let s : State := { s with cmt := { s.cmt with visible := true } }
    s.raise .core Ev.COMMIT_VISIBLE 0 (x.step + 256 * s.cmt.held)
  else s

/-- A step ends. -/
def State.endStep (s : State) (x : CmtStep) : State := if x.step = 2 ∧ ¬ x.visible then s.applyGeometry else s

/-- The composition at this boundary is held: frame f + 2 is not composed (R528). -/
def State.holdComposition (s : State) : State :=
  let k := s.scn.frame + 2
  { s with
    scn := { s.scn with skipped := k :: s.scn.skipped, heldFrames := k :: s.scn.heldFrames }
    cmt := { s.cmt with held := min 15 (s.cmt.held + 1) } }

/-- At the first commit the restores of R280, R355 and R371 come in that order, and the first update of the gains after
them (R367, R532). -/
def State.restoreFirst (s : State) : State :=
  s.onlyIf s.cmt.initial (fun s =>
    let s := ((((s.restoreTables).curveRestore).restoreFaults).patRestore).patFirst
    { s with cmt := { s.cmt with initial := false } })

/-- The commit is over: the restores of a first one have come, and commands that waited for the end of step 2 are carried out
(R536). -/
def State.endCommit (s : State) : State :=
  let s := s.restoreFirst
  let clear := s.cmt.deferClear
  let zero := s.cmt.deferZero
  let s : State := { s with cmt := { s.cmt with window := false, steps := [], deferClear := false, deferZero := false } }
  let s := s.onlyIf clear State.diaClear
  (s.onlyIf zero State.patZero).swapFrames true

/-- The steps at one boundary: those that have ended make room for the next. Answers whether the composition at this
boundary is held; a first one that is not, in the midst of a visible commit, has the restores before it (R367, R371). -/
def State.runSteps (s : State) : List CmtStep → Bool × State
  | [] => (false, s.endCommit)
  | x :: l =>
    let s := if x.begun then s else s.beginStep x
    if 0 < x.left then
      let s : State := { s with cmt := { s.cmt with steps := { x with begun := true, left := x.left - 1 } :: l } }
      (true, s.holdComposition)
    else if x.visible && !x.begun then
      let s := s.onlyIf (s.width != 0) State.restoreFirst
      (false, { s with cmt := { s.cmt with steps := { x with begun := true } :: l } })
    else (s.endStep x).runSteps l

/-- The commit at a boundary: with the outputs held its steps wait, and the composition with them (R536). -/
def State.commitBoundary (s : State) : Bool × State :=
  if !s.cmt.window then (false, s)
  else if outputsHeld s then
    let k := s.scn.frame + 2
    (true, { s with scn := { s.scn with skipped := k :: s.scn.skipped, heldFrames := k :: s.scn.heldFrames } })
  else s.runSteps s.cmt.steps

/-! ## Registers -/

/-- `GLB_CMT_STAT`. -/
def viewCmtStat (s : State) : Word :=
  mkWord [(16, s.cmt.commits), (15, b2n s.cmt.first), (14, b2n s.cmt.visible), (8, s.cmt.held),
          (3, b2n s.cmt.window), (0, cmtStep s)]

end Sys2Proof.Machine
end

