-- ==== Sys2Proof/Machine/Firmware.lean ====
section
/-! DEFINITION. Identity, fuses and the debug port (R538 to R546), and live firmware update with the start of
the Docent (R20, R79, R515 to R518, R542). -/

namespace Sys2Proof.Machine

/-! ## Fuses (R539 to R541) -/

/-- What a fuse word reads as after sensing (R539). -/
def fuseWord (s : State) (w : Nat) : Word :=
  if w = 2 ∧ 2 ∈ s.fuse.eccBad then 0x101
  else if 5 ≤ w ∧ w ≤ 12 ∧ s.fuse.eccBad.any (fun b => decide (5 ≤ b) && decide (b ≤ 12)) then 0
  else if w ∈ s.fuse.eccBad then 0
  else kget 0 s.fuse.sensed w

/-- The rollback floor: the count of bits blown, 64 where a word of it is uncorrectable (R539). -/
def rollbackFloor (s : State) : Nat :=
  if 3 ∈ s.fuse.eccBad ∨ 4 ∈ s.fuse.eccBad then 64
  else popCount 32 (kget 0 s.fuse.sensed 3).toNat + popCount 32 (kget 0 s.fuse.sensed 4).toNat

/-- DBG_OFF as sensed (R539, R545). -/
def dbgOff (s : State) : Bool := bitOf (fuseWord s 2) 8

/-- The key hash reads all zero. -/
def keyHashZero (s : State) : Bool := (List.range 8).all (fun i => fuseWord s (5 + i) == 0)

/-- The key-hash fuses hold no blown bit. -/
def keyHashClear (s : State) : Bool := (List.range 8).all (fun i => kget 0 s.fuse.blown (5 + i) == 0)

/-- The fuses sensed at a logic-side reset, with the words that could not be corrected; DBG_OFF
holds the TAP in reset from there on (R539, R545). -/
def State.fuseSense (s : State) (bad : List Nat) : State :=
  let sensed := s.fuse.blown.filter (fun p => !bad.contains p.1)
  let s : State := { s with fuse := { s.fuse with sensed := sensed, eccBad := bad } }
  let s : State := if dbgOff s then { s with dbg := { s.dbg with ir := .idcode } } else s
  bad.foldl (fun (s : State) w => s.raise .core Ev.FUSE_ECC 0 w) s

/-- The bits of a word that the lifecycle state lets be blown (R540). The fuse array ends at word 98. -/
def fuseAllowed (s : State) (w : Nat) : Nat :=
  if 98 < w then 0
  else if lifecycle s = 0 then
    (if 5 ≤ w ∧ w ≤ 12 then (if keyHashZero s && keyHashClear s then 2 ^ 32 - 1 else 0) else 2 ^ 32 - 1)
  else if fld (kget 0 s.fuse.sensed 2) 0 2 = 2 then 0
  else if w = 2 then (if lifecycle s = 1 then 0x102 else 0x100)
  else if (w = 3 ∨ w = 4) ∧ lifecycle s = 1 then 2 ^ 32 - 1
  else 0

/-- The floor after blowing bits of a word (R541). -/
def floorAfter (s : State) (w : Nat) (bits : Word) : Nat :=
  let at' := fun i => (kget 0 s.fuse.blown i ||| (if i = w then bits else 0)).toNat
  popCount 32 (at' 3) + popCount 32 (at' 4)

/-- Version of the running image (`GLB_FW_STAT.VERSION`). -/
def runVersion (s : State) : Nat := (vget s.arc.fw s.fw.running).version

/-- The device refuses the word (R541). -/
def fuseRefused (s : State) (w : Nat) (bits : Word) (viomOk : Bool) : Bool :=
  !viomOk || bits.toNat &&& fuseAllowed s w != bits.toNat ||
    ((w == 3 || w == 4) && decide (runVersion s / 256 % 256 < floorAfter s w bits))

/-- A request to blow the selected bits (R541). One that meets a blow in progress changes nothing (log entry
20). -/
def State.fuseBlow (s : State) (viomOk : Bool) : State :=
  let w := s.rfld Reg.SEC_PROG_INDEX 0 7
  let bits := s.reg Reg.SEC_PROG_DATA
  if s.fuse.busy.isSome then s
  else if fuseRefused s w bits viomOk then
    ({ s with fuse := { s.fuse with result := 2 } }).raise .core Ev.FUSE_REFUSED 0 w
  else { s with fuse := { s.fuse with busy := some (w, bits) } }

/-- `FUSE_BLOW`: a write of `SEC_FUSE_CMD` by the management port, with VIOM as measured (R541). -/
def execFuseBlow (data : Word) (viomOk : Bool) (s : State) : Out :=
  .next (s.onlyIf (acts data 0 && keyed data 0x69) (fun s => s.fuseBlow viomOk))

/-- `FUSE_BLOW_DONE`: blowing completes (R541). Which bits a mismatch left unblown is open (log entry 20). -/
def execFuseBlowDone (mismatch : Bool) (s : State) : Out :=
  match s.fuse.busy with
  | none => .next s
  | some (w, bits) =>
    let q := s.fresh
    let took := if mismatch then bits &&& BitVec.ofNat 32 q.1 else bits
    let s := if mismatch then q.2 else s
    let s : State := { s with fuse := { s.fuse with
      busy := none, result := if mismatch then 3 else 1
      blown := kput 0 s.fuse.blown w (kget 0 s.fuse.blown w ||| took) } }
    .next (s.raise .core Ev.FUSE_BLOWN 0 w)

/-! ## Identity and the debug port (R538, R543 to R545) -/

/-- The instruction register takes an instruction, and the data scan that follows brings `bits` out at TDO (log entry 104); a
TAP that DBG_OFF holds in reset takes none, and TDO stays at high impedance (R543, R545). -/
def State.tap (s : State) (ir : JtagIr) (dr : Nat) (bits : List Bool) : State :=
  if dbgOff s then { s with dbg := { s.dbg with ir := .idcode } }
  else
    let s : State := { s with dbg := { s.dbg with ir := ir, dr := dr } }
    if bits.isEmpty then s else s.emit (.tdo bits)

/-- IDCODE (R543). -/
def idcode : Nat := natBits (Config.dieRevision / 2 ^ 24) 0 4 * 2 ^ 28 + 0x2412A67

/-- `IDCODE`. -/
def execIdcode (s : State) : Out := .next (s.tap .idcode idcode ((List.range 32).map idcode.testBit))

/-- `BYPASS`: the one-bit bypass register. -/
def execBypass (s : State) : Out := .next (s.tap .bypass 0 [false])

/-- `SAMPLE_PRELOAD`: the boundary register captures the balls. -/
def execSamplePreload (balls : List Bool) (s : State) : Out :=
  let s := s.tap .samplePreload 0 balls
  .next (if dbgOff s then s else { s with dbg := { s.dbg with boundary := balls } })

/-- A debug instruction that only TEST has; elsewhere it acts as BYPASS (R543). It puts both safety cores into
the safe state (R544). -/
def State.debugInstr (s : State) (ir : JtagIr) (bits : List Bool) : State :=
  if dbgOff s ∨ lifecycle s ≠ 0 then s.tap .bypass 0 [false]
  else ((s.tap ir 0 bits).setC Reg.SAF_ERR 32).safEnter

/-- `EXTEST`: the boundary register, which drives the balls, is the data register (R544). -/
def execExtest (s : State) : Out := .next (s.debugInstr .extest s.dbg.boundary)

/-- `DOCENT_HALT`: the Docent is halted too, until a logic-side reset (R544). -/
def execDocentHalt (s : State) : Out :=
  let s := s.debugInstr .docentHalt []
  .next (if s.dbg.ir = .docentHalt then { s with pwr := { s.pwr with docent := .halted } } else s)

/-! ## Start and restart of the Docent (R20, R79, R542) -/

/-- An image is accepted at a start (R542). -/
def imageOk (s : State) (slot : Nat) : Bool :=
  let f := vget s.arc.fw slot
  f.signed && !keyHashZero s && decide (rollbackFloor s ≤ f.version / 256)

/-- `DOCENT_START`: the Docent verifies the boot slot, then the other, starts, and the Registrar scans (R79,
R492, R542). -/
def execDocentStart (s : State) : Out :=
  if s.awake && decide (s.pwr.docent = .off) then
    let boot := s.arc.boot % 2
    let pick := if imageOk s boot then some boot else if imageOk s (1 - boot) then some (1 - boot) else none
    match pick with
    | none => .next (s.raise .core Ev.BOOT_VERIFY_FAIL)
    | some r =>
      let s : State := { s with
        pwr := { s.pwr with docent := .running }
        fw := { s.fw with running := r, boot := boot, unconf := false, ready := true } }
      .next s.rgsScan
  else .next s

/-- Fallback to the previous image at the next deadline, where the running image is not confirmed (R517). -/
def State.fwFallback (s : State) : State :=
  if s.fw.unconf then { s with fw := { s.fw with fallbackReq := true } } else s

/-- `DOCENT_LOCKSTEP`: both cores are reset and restart (R20); twice within 60 s on an unconfirmed image falls
back (R517). -/
def execDocentLockstep (s : State) : Out :=
  if s.awake && (decide (s.pwr.docent = .running) || decide (s.pwr.docent = .restarting)) then
    let s := s.raise .core Ev.DOCENT_LOCKSTEP
    let recent := (s.fw.locksteps.filter (fun t => decide (s.opsec ≤ t + 60))) ++ [s.opsec]
    let s : State := { s with pwr := { s.pwr with docent := .restarting }, fw := { s.fw with locksteps := recent } }
    .next (s.onlyIf (decide (2 ≤ recent.length)) State.fwFallback)
  else .next s

/-- `DOCENT_RESTART_DONE`: the Docent is back in service from the image in execution (R20, R516). -/
def execDocentRestartDone (s : State) : Out :=
  .next (s.onlyIf (s.awake && decide (s.pwr.docent = .restarting)) (fun s =>
    { s with pwr := { s.pwr with docent := .running }, fw := { s.fw with ready := true } }))

/-! ## Live firmware update (R515 to R518) -/

/-- Erase or verify in progress. -/
def fwBusy (s : State) : Bool := s.fw.busyErase || s.fw.busyVerify

/-- The slot that is not running. -/
def otherSlot (s : State) : Nat := 1 - s.fw.running % 2

/-- A firmware slot changed. -/
def State.modSlot (s : State) (n : Nat) (f : FwSlot → FwSlot) : State :=
  { s with arc := { s.arc with fw := vmod s.arc.fw n f } }

/-- The slot not running is erased (R515). A request that meets BUSY changes nothing (log entry 21), nor one that meets a stopped Docent (R43). -/
def State.fwErase (s : State) : State :=
  if fwBusy s || !s.docentRuns then s
  else
    let s := s.modSlot (otherSlot s) (fun f => { f with signed := false, words := [] })
    { s with fw := { s.fw with busyErase := true, verified := false } }

/-- `FW_ERASE`. -/
def execFwErase (s : State) : Out := .next s.fwErase

/-- `FW_ERASE_DONE`; the Docent carries the erase out (R43; log entry 75). -/
def execFwEraseDone (s : State) : Out :=
  .next (s.onlyIf s.docentRuns (fun s => { s with fw := { s.fw with busyErase := false } }))

/-- The index of the image port advanced by one completed access (R93). -/
def State.fwAdvance (s : State) : State :=
  s.setRfld Reg.GLB_FW_INDEX 0 22 (s.rfld Reg.GLB_FW_INDEX 0 22 + 1)

/-- A write of `GLB_FW_DATA`: the word stored and the index advanced, unless BUSY or while the Docent is stopped (R43,
R515, R93). What was verified before is no longer what the slot holds. -/
def State.fwData (s : State) (data : Word) : State :=
  if fwBusy s || !s.docentRuns then s
  else
    let i := s.rfld Reg.GLB_FW_INDEX 0 22
    let s := s.modSlot (otherSlot s) (fun f => { f with signed := false, words := kset f.words i data })
    ({ s with fw := { s.fw with verified := false } } : State).fwAdvance

/-- `FW_DATA_WRITE`. -/
def execFwDataWrite (data : Word) (s : State) : Out := .next (s.fwData data)

/-- The check of the image begins (R515); not while the Docent is stopped (R43). -/
def State.fwVerify (s : State) : State :=
  if fwBusy s || !s.docentRuns then s else { s with fw := { s.fw with busyVerify := true } }

/-- `FW_VERIFY`. -/
def execFwVerify (s : State) : Out := .next s.fwVerify

/-- `FW_VERIFY_DONE`: whether the signature verifies under the fused key hash, and the image's version (R515,
R542). -/
def execFwVerifyDone (signed : Bool) (version : Nat) (s : State) : Out :=
  if 65536 ≤ version then .fault (.illFormed "FW_VERIFY_DONE")
  else .next (s.onlyIf (s.fw.busyVerify && s.docentRuns) (fun s =>
    let s := s.modSlot (otherSlot s) (fun f => { f with signed := signed, version := version })
    let ok := imageOk s (otherSlot s)
    let s : State := { s with fw := { s.fw with busyVerify := false, verified := ok } }
    s.raise .core (if ok then Ev.FW_IMAGE_LOADED else Ev.FW_VERIFY_FAIL) 0 version))

/-- A switch is requested where the other slot is verified (R515, R516) and the Docent runs (R43). -/
def State.fwSwitch (s : State) : State :=
  if s.fw.verified && !fwBusy s && s.docentRuns then { s with fw := { s.fw with switchReq := true } } else s

/-- `FW_SWITCH`. -/
def execFwSwitch (s : State) : Out := .next s.fwSwitch

/-- The running image becomes the boot slot (R517). -/
def State.fwConfirm (s : State) : State :=
  if s.fw.unconf then
    let s : State := { s with
      fw := { s.fw with unconf := false, boot := s.fw.running, previous := false, fallbackReq := false }
      arc := { s.arc with boot := s.fw.running } }
    s.raise .core Ev.FW_CONFIRMED 0 (runVersion s)
  else s

/-- `FW_CONFIRM_CMD`. -/
def execFwConfirmCmd (s : State) : Out := .next (s.onlyIf s.docentRuns State.fwConfirm)

/-- `FW_CONFIRM_TIMEOUT`: CONFIRM minutes without a fallback (R517). -/
def execFwConfirmTimeout (s : State) : Out := .next (s.onlyIf (!s.fw.fallbackReq) State.fwConfirm)

/-- `FW_READY_TIMEOUT`: the new image has not reported ready (R517). -/
def execFwReadyTimeout (s : State) : Out := .next (s.onlyIf (!s.fw.ready) State.fwFallback)

/-- A switch at a composition deadline: the other image starts, and the Docent pauses as under R20 (R516). -/
def State.fwExchange (s : State) : State :=
  let new := otherSlot s
  let old := s.fw.running
  let s : State := { s with
    fw := { s.fw with running := new, ready := false, verified := imageOk s old, switchReq := false,
                      fallbackReq := false, locksteps := [] }
    pwr := { s.pwr with docent := if s.pwr.docent = .halted then .halted else .restarting } }
  s.raise .core Ev.FW_SWITCHED 0 (runVersion s)

/-- An event of severity 3 or more occupies the slot or is pending (R518). -/
def graveEvent (s : State) : Bool :=
  s.hnd.slot.any (fun x => decide (3 ≤ x.ev.sev)) || s.hnd.queued.any (fun x => decide (3 ≤ x.ev.sev)) ||
    s.hnd.suspended.any (fun x => decide (3 ≤ x.ev.sev))

/-- What a composition deadline does with a switch or a fallback that waits (R516 to R518). -/
def State.fwDeadline (s : State) (timingDark : Bool) : State :=
  if timingDark then s
  else if s.fw.fallbackReq then
    let s := s.fwExchange
    let s : State := { s with fw := { s.fw with unconf := false, previous := true, ready := true } }
    s.raise .core Ev.FW_FALLBACK 0 (runVersion s)
  else if s.fw.switchReq && !graveEvent s then
    let s := s.fwExchange
    { s with fw := { s.fw with unconf := true } }
  else s

/-! ## Registers -/

/-- `GLB_FW_STAT`. -/
def viewFwStat (s : State) : Word :=
  mkWord [(16, runVersion s), (4, b2n (fwBusy s)), (3, b2n s.fw.verified), (2, b2n s.fw.unconf),
    (1, s.fw.boot % 2), (0, s.fw.running % 2)]

/-- The registers of the SEC window that are not plain storage. -/
def viewSec (s : State) (addr : Nat) : Option Word :=
  if addr = Reg.SEC_LIFE then some (mkWord [(8, b2n (dbgOff s)), (0, lifecycle s)])
  else if Reg.SEC_KEYHASH0 ≤ addr ∧ addr ≤ Reg.SEC_KEYHASH7 then
    some (fuseWord s (5 + (addr - Reg.SEC_KEYHASH0) / 4))
  else if addr = Reg.SEC_ROLLBACK then some (BitVec.ofNat 32 (rollbackFloor s))
  else if addr = Reg.SEC_PROG_DATA then
    let w := s.rfld Reg.SEC_PROG_INDEX 0 7
    some (if w ∈ s.fuse.eccBad then fuseWord s w else kget 0 s.fuse.blown w)
  else if addr = Reg.SEC_FUSE_CMD then some 0
  else if addr = Reg.SEC_FUSE_STAT then
    some (mkWord [(1, s.fuse.result), (0, b2n s.fuse.busy.isSome)])
  else none

end Sys2Proof.Machine
end

