-- ==== Sys2Proof/Machine/Boundary.lean ====
section
/-! DEFINITION. The frame boundary F(k) (R27 to R31, R291, R297, R302) and the end of a composition (R29). At F(f) the
drivers swap or not, frame f begins, and the composition of frame f + 2 starts. -/

namespace Sys2Proof.Machine

/-! ## What the boundary finds (R30, R291) -/

/-- The composition of frame f + 1 has not ended at F(f) (R30). -/
def overrunAt (s : State) : Bool := s.pix.composing.any (fun c => decide (c.frame ≤ s.scn.frame + 1))

/-- The composition that ran is abandoned where it has not ended, and the engines' hangs are counted (R30, R224). -/
def State.endStage (s : State) (overrun : Bool) (late : List Nat) : State :=
  if overrun then (s.countHang late).abandonFrame (s.scn.frame + 1) else s.countHang []

/-- The upload of the frame that begins was due and is not complete; an overrun at the same boundary stands alone
(R291, R302). `due` says whether one was due before the boundary. -/
def State.underrun (s : State) (due complete overrun : Bool) : State :=
  if due && !complete && !overrun then
    let s : State := { s with scn := { s.scn with underruns := min (2 ^ 32 - 1) (s.scn.underruns + 1) } }
    (s.setC Reg.SCN_ERR 1).raise .scan Ev.UNDERRUN 0 s.scn.frame (groupMask (actSet s))
  else s

/-! ## Dark frames (R74, R297, R300, R301, R333) -/

/-- The dark frame that a frame which is held interrupts, to be taken again when the hold ends. -/
def resumeOf (s : State) : Option Dark :=
  match s.scn.dark with
  | some .hold => s.scn.resume
  | some (.timing n) => some (.timing n)
  | some (.reload n) => some (.reload n)
  | _ => none

/-- The dark frame that follows the one in progress of its own accord. -/
def darkGoesOn (d : Option Dark) : Option Dark :=
  match d with
  | some (.timing n) => if 2 ≤ n then some (.timing (n - 1)) else none
  | some (.reload n) => if 2 ≤ n then some (.reload (n - 1)) else none
  | _ => none

/-- Two dark frames for a reload; those of a timing commit where one is in progress or begins (R522). -/
def reloadDark (d : Option Dark) : Option Dark :=
  match d with
  | some (.timing _) => some (.timing 2)
  | _ => some (.reload 2)

/-- Why the frame that begins is dark whatever the upload did: `cost` is that of a commit that takes effect here, `load`
says whether a reload does. -/
def forcedDark (s : State) (cost : Nat) (load : Bool) : Option Dark :=
  if outputsHeld s then some .hold
  else
    let before := if s.scn.dark = some .hold then s.scn.resume else darkGoesOn s.scn.dark
    if cost = 2 ∨ (cost = 1 ∧ load) then some (.timing 2)
    else if load then reloadDark before
    else if cost = 1 then some (.timing 1)
    else match before with
      | some d => some d
      | none => if s.pwr.scanLost then some .relock else none

/-- The drivers are to be reloaded in this dark frame: they hold no frame any more. -/
def clearsDrivers (d : Option Dark) : Bool :=
  match d with
  | some (.timing n) => decide (2 ≤ n)
  | some (.reload n) => decide (2 ≤ n)
  | _ => false

/-- A dark frame of a timing commit (R297). -/
def timingDark (d : Option Dark) : Bool :=
  match d with
  | some (.timing _) => true
  | _ => false

/-- The banks swap: frame f is the one uploaded. -/
def State.swapBanks (s : State) : State :=
  match s.scn.upload with
  | none => s
  | some u =>
    let s : State := { s with
      scn := { s.scn with shown := some { frame := u.frame, w := u.w, h := u.h, reads := u.reads, codes := u.codes }
                          freeze := 0 }
      fen := { s.fen with pgShown := ((forecastOf s u.frame).map (·.pg)).getD 0 } }
    let s := if s.scn.frozen then
        let s : State := { s with scn := { s.scn with frozen := false } }
        s.raise .scan Ev.DISPLAY_THAWED 0
      else s
    if s.cmt.first && s.cmt.everAccepted then
      let s : State := { s with cmt := { s.cmt with first := false } }
      s.raise .core Ev.START_COMPLETE 0
    else s

/-- A boundary without a swap counts for the freeze detector, dark frames of a timing commit and held frames apart
(R297; log entry 42). -/
def State.countFreeze (s : State) (forced : Option Dark) : State :=
  if timingDark forced || s.scn.heldFrames.contains s.scn.frame then s
  else
    let n := min 255 (s.scn.freeze + 1)
    let s : State := { s with scn := { s.scn with freeze := n } }
    if !s.scn.frozen && decide (max 1 (s.rfld Reg.SCN_FREEZE 0 8) ≤ n) then
      let s : State := { s with scn := { s.scn with frozen := true } }
      (s.setC Reg.SCN_ERR 2).raise .scan Ev.DISPLAY_FROZEN 0
    else s

/-- What is shown from here on: the swap or its absence, and why the frame is dark. -/
def State.display (s : State) (forced : Option Dark) : State :=
  let resume := if outputsHeld s then resumeOf s else none
  let clear := clearsDrivers forced
  let swap := s.scn.swapSent && forced.isNone
  let s := if swap then s.swapBanks else s.countFreeze forced
  let s : State := { s with
    scn := { s.scn with shown := if clear then none else s.scn.shown, resume := resume }
    cch := { s.cch with reloaded := if clear then false else s.cch.reloaded }
    pwr := { s.pwr with scanLost := s.pwr.scanLost && outputsHeld s } }
  let dark := match forced with
    | some d => some d
    | none =>
      if s.scn.frozen && bitOf (s.reg Reg.SCN_FREEZE) 8 then some .frozen
      else if s.scn.shown.isNone then some .noFrame
      else none
  { s with scn := { s.scn with dark := dark } }

/-- The frame's own counters start afresh, with line visit 0 of sub-frame 0 (R285, R292, R296). -/
def State.frameStarts (s : State) : State :=
  let s : State := { s with scn := { s.scn with
    blanking := false, upload := none, swapSent := false, deadlineDone := false
    outMode := s.rfld Reg.SCN_GLK_CTL 0 2, lmatch := s.rfld Reg.SCN_LMATCH 0 14 } }
  let s := s.gckRun (rowRuns s)
  ((s.visit 0 0).gateSample).glkPulse 0

/-- The periodic status read becomes due (R326). -/
def State.statBoundary (s : State) : State :=
  let n := min 65535 (s.cch.statFrames + 1)
  let due := statInterval s != 0 && decide (statInterval s ≤ n)
  { s with cch := { s.cch with statFrames := n, statDue := s.cch.statDue || due } }

/-! ## The composition deadline (R28, R249 to R256, R281) -/

/-- The tables whose swap falls here, each once, and the descriptors that asked for them (R183, R189, R278); a swap of
table 0x04 resets the fault map (R356). -/
def State.swapsDue (s : State) : State :=
  if s.cmt.window then s
  else
    let due := dueSwaps s
    let s : State := { s with pix := { s.pix with swaps := s.pix.swaps.filter (fun r => !due.contains r) } }
    let s := ([1, 2, 3, 4].filter (fun t => due.any (fun r => r.table == t))).foldl
      (fun (s : State) t => (s.swapEffects t).onlyIf (t == 4) State.faultReset) s
    due.foldl (fun (s : State) r => match r.ctx with
      | none => s
      | some c => s.complete c r.d stOk (swapAt s r.table) (r.late || decide (r.frame < swapAt s r.table))) s

/-- Pipeline and layer fields of the last commit take effect at the first composition after it (R281, R526). -/
def State.pixelsDue (s : State) : State :=
  if s.cmt.pixels && !s.cmt.due then
    let s := s.take pixelAddrs
    { s with cmt := { s.cmt with pixels := false } }
  else s

/-- Composition of frame f + 2 starts. `was` is B(f + 1). -/
def State.compose (s : State) (was : Nat) : State :=
  let k := s.scn.frame + 2
  let s := s.fwDeadline (s.cmt.window || timingDark s.scn.dark)
  let s := ((s.fenDeadline).gainSwap).retireDue
  let s := s.failoverDeadline k
  let s := s.pixelsDue
  let s := (s.swapFrames false).swapsDue
  let s := s.onlyIf (s.width != 0) State.mapCheck
  let s := ((s.layersDeadline k).brightnessDeadline k was).countChanges
  let runs := vitrineRuns s
  let s := s.vitrineDeadline k runs
  let s : State := { s with layComp := s.layer }
  if s.width = 0 ∨ s.height = 0 then s
  else
    let s : State := { s with cur := { s.cur with bands := assignBands s s.height } }
    let s : State := { s with cur := { s.cur with dup := (dupOf s k).orElse (fun _ => s.cur.dup), dupAgain := none } }
    let c := composeFrame s k runs
    { s with pix := { s.pix with composing := some c }, cur := { s.cur with reading := c.reads } }

/-- Frames that are over leave the lists of frames. -/
def State.pruneFrames (s : State) : State :=
  let f := s.scn.frame
  { s with
    scn := { s.scn with
      skipped := s.scn.skipped.filter (fun k => decide (f < k))
      heldFrames := s.scn.heldFrames.filter (fun k => decide (f < k)) }
    pix := { s.pix with composed := s.pix.composed.filter (fun c => decide (f < c.frame)) } }

/-! ## The boundary -/

/-- The part of a boundary that belongs to the display: what has been shown is integrated, the frame number advances, a
commit or a reload takes effect, the banks swap or not. -/
def State.displayBoundary (s : State) (b : BoundaryIn) : State :=
  let s := s.deadline
  let due := (uploadExpected s).isSome || s.scn.upload.isSome
  let complete := s.scn.upload.any (fun u => u.complete)
  let s := s.doseIntegrate s.scn.dark.isSome
  let s : State := { s with scn := { s.scn with frame := s.scn.frame + 1 } }
  let overrun := overrunAt s
  let s := (s.endStage overrun b.late).underrun due complete overrun
  let held := outputsHeld s
  let applies := s.cmt.due && !held
  let cost := if applies then s.cmt.cost else 0
  let svc := s.cmt.svcReload && !held
  let load := svc || (s.cmt.reload && !held)
  let s := s.onlyIf applies State.applyTiming
  let s := s.onlyIf svc (fun s => s.raise .scan Ev.SERVICE_RELOAD 0)
  let s : State := { s with cmt := { s.cmt with svcReload := s.cmt.svcReload && held, reload := s.cmt.reload && held } }
  let s := s.display (forcedDark s cost load)
  let s : State := { s with fen := { s.fen with duty := frameDuty s s.scn.frame s.scn.dark.isSome } }
  let s := s.onlyIf s.scn.dark.isNone State.countShown
  (((s.frameStarts).glkPhase b.phase).fixFbi b.phase).trimFollow

/-- The part that belongs to everything else. -/
def State.workBoundary (s : State) : State :=
  let f := s.scn.frame
  let s := (s.diaBoundary).statBoundary
  let s := s.completeFrame f
  let s := s.onlyIf s.scn.dark.isNone (fun s => s.markShown f ((s.scn.shown.map (·.reads)).getD []))
  let s := (s.patBoundary).clipBoundary
  let was := s.pix.b
  let s := s.rampStep
  let s := s.onlyIf (s.rfld Reg.CUR_VIT_CTL 0 8 == 0) State.dropVitrines
  let c := s.commitBoundary
  (if c.1 then c.2 else c.2.compose was).pruneFrames

/-- `FRAME_BOUNDARY`: F(k), with the engines whose bands are unfinished and the phase against the genlock target. -/
def execFrameBoundary (b : BoundaryIn) (s : State) : Out :=
  .next (s.onlyIf (s.awake && (s.pwr.scanLock || s.pwr.scanLost)) (fun s => (s.displayBoundary b).workBoundary))

/-! ## The end of a composition (R29, R219, R231) -/

/-- `COMPOSITION_END`: composition ends, with the cycles of each row quad; the forecast is complete and G(k) fixed. -/
def execCompositionEnd (cycles : List Nat) (s : State) : Out :=
  .next (match (if s.awake then s.pix.composing else none) with
    | none => s
    | some c =>
      let bands := s.cur.bands
      let per := (List.range 8).map (fun e => lsum ((bands.filter (fun b => b.engine == e)).map (fun b => bandCycles b cycles)))
      let s : State := { s with
        pix := { s.pix with
          composing := none, composed := (s.pix.composed ++ [c]).drop (s.pix.composed.length - 1)
          concCnt := c.conc, clipCnt := c.clip, bEnded := c.b, rampEnded := c.ramp }
        cur := { s.cur with
          lastBands := bands, cycles := per, quads := if cycles.length = quadsOf c.h then cycles else []
          reading := [] }
        layEnd := s.layComp }
      (s.freeOld).forecast c)

end Sys2Proof.Machine
end

