-- ==== Sys2Proof/Machine/Cvu.lean ====
section
/-! DEFINITION. The check-value units (R469 to R477). -/

namespace Sys2Proof.Machine

/-- The address of a register of unit `u`. -/
def cvuReg (base u : Nat) : Nat := inst base 0x40 u

/-- A field of `CVU_CTL` of a unit. -/
def cvuCtl (s : State) (u lo n : Nat) : Nat := s.rfld (cvuReg Reg.CVU_CTL u) lo n

/-- The unit is enabled. -/
def cvuEn (s : State) (u : Nat) : Bool := cvuCtl s u 0 1 == 1

/-- The width W of a `CVU_CTL` word (R469). -/
def cvuWidthOf (ctl : Word) : Nat := if fld ctl 1 2 = 0 then 8 else if fld ctl 1 2 = 1 then 16 else 32

/-- The width W of a unit. -/
def cvuWidth (s : State) (u : Nat) : Nat := cvuWidthOf (s.reg (cvuReg Reg.CVU_CTL u))

/-- The low W bits of a register of the unit: the bits above W read as 0 (R469). -/
def cvuLow (s : State) (base u : Nat) : Nat := fld (s.reg (cvuReg base u)) 0 (cvuWidth s u)

/-- A write of POLY, INIT, XOROUT or EXPECT: the bits above W are ignored (R469). -/
def cvuStoredLow (s : State) (addr u : Nat) (w : Word) : Word :=
  let n := cvuWidth s u
  let old := (s.reg addr).toNat
  BitVec.ofNat 32 (old - natBits old 0 n + fld w 0 n)

/-- One byte into the running value (R469). -/
def cvuByte (s : State) (u run byte : Nat) : Nat :=
  let b := if cvuCtl s u 3 1 = 1 then reverseBits 8 byte else byte % 256
  let w := cvuWidth s u
  crcByte w (cvuLow s Reg.CVU_POLY u) run b

/-- The running value: its low W bits. -/
def cvuRun (s : State) (u : Nat) : Nat := (vget s.cvu u).run % 2 ^ cvuWidth s u

/-- `CVU_RESULT` (R469). -/
def cvuResult (s : State) (u : Nat) : Nat :=
  let w := cvuWidth s u
  (if cvuCtl s u 4 1 = 1 then reverseBits w (cvuRun s u) else cvuRun s u) ^^^ cvuLow s Reg.CVU_XOROUT u

/-- An event of a unit at the severity of its `CVU_CTL.SEV` (R477). -/
def State.cvuRaise (s : State) (u code d0 d1 : Nat) : State :=
  s.raiseEv .core { code := code, sev := cvuCtl s u 8 3, inst := u, d0 := d0, d1 := d1 }

/-- A restart: INIT into RUN, BYTES to 0, the compare state cleared (R472). -/
def State.cvuRestart (s : State) (u : Nat) : State :=
  let run := cvuLow s Reg.CVU_INIT u
  s.modCvu u (fun c => { c with run := run, bytes := 0, cmp := 0 })

/-- What a write of `CVU_CTL` stores. -/
def cvuCtlStored (w : Word) : Word :=
  mkWord [(16, fld w 16 16), (8, min 3 (fld w 8 3)), (6, fld w 6 2), (3, fld w 3 2),
    (1, min 2 (fld w 1 2)), (0, fld w 0 1)]

/-- A write of `CVU_CTL` (R472, R475): RUN keeps its low W bits, EN = 1 restarts, and AEN newly set awaits a
first value. -/
def State.cvuSetCtl (s : State) (u : Nat) (data : Word) : State :=
  let new := cvuCtlStored data
  let set := fld new 7 1 == 1 && cvuCtl s u 7 1 == 0
  let s := s.setReg (cvuReg Reg.CVU_CTL u) new
  let s := s.modCvu u (fun c =>
    { c with run := c.run % 2 ^ cvuWidthOf new, first := c.first || set, stale := c.stale && !set })
  s.onlyIf (fld new 0 1 == 1) (fun s => s.cvuRestart u)

/-- `CVU_CTL_WRITE`. -/
def execCvuCtlWrite (u : Fin 8) (data : Word) (s : State) : Out := .next (s.cvuSetCtl u data)

/-- Bytes fed to an enabled unit (R470). -/
def State.cvuFeed (s : State) (u : Nat) (bytes : List Nat) : State :=
  if cvuEn s u then
    s.modCvu u (fun c =>
      { c with run := bytes.foldl (fun r b => cvuByte s u r b) (cvuRun s u),
               bytes := satAdd 28 c.bytes bytes.length })
  else s

/-- `CVU_DATA_WRITE`: the bytes that one write carries, in ascending address order (R470). -/
def execCvuDataWrite (u : Fin 8) (bytes : List Byte) (s : State) : Out :=
  .next (s.cvuFeed u (bytes.map (·.toNat)))

/-- A write of `CVU_RUN` (R472). -/
def State.cvuSetRun (s : State) (u : Nat) (data : Word) : State :=
  s.modCvu u (fun c => { c with run := fld data 0 (cvuWidth s u) })

/-- `CVU_RUN_WRITE`. -/
def execCvuRunWrite (u : Fin 8) (data : Word) (s : State) : Out := .next (s.cvuSetRun u data)

/-- The comparison of RESULT with EXPECT; not made while EN = 0 (R474). -/
def State.cvuCompare (s : State) (u : Nat) : State :=
  let r := cvuResult s u
  let e := cvuLow s Reg.CVU_EXPECT u
  if !cvuEn s u then s
  else if r = e then s.modCvu u (fun c => { c with cmp := 1 })
  else
    let s := s.modCvu u (fun c => { c with cmp := 2 })
    (s.setC (cvuReg Reg.CVU_ERR u) 1).cvuRaise u 0x1081 r e

/-- A write of `CVU_EXPECT`: stored and compared at once (R474). -/
def State.cvuExpect (s : State) (u : Nat) (data : Word) : State :=
  let a := cvuReg Reg.CVU_EXPECT u
  (s.setReg a (cvuStoredLow s a u data)).cvuCompare u

/-- `CVU_EXPECT_WRITE`. -/
def execCvuExpectWrite (u : Fin 8) (data : Word) (s : State) : Out := .next (s.cvuExpect u data)

/-- `CVU_RESTART` (R472). -/
def execCvuRestart (u : Fin 8) (s : State) : Out := .next (s.cvuRestart u)

/-- `CVU_COMPARE` (R474). -/
def execCvuCompare (u : Fin 8) (s : State) : Out := .next (s.cvuCompare u)

/-- The next alive value is accepted as a first value (R475). -/
def State.cvuAliveReset (s : State) (u : Nat) : State :=
  s.modCvu u (fun c => { c with first := true, stale := false })

/-- `CVU_ALIVE_RESET`. -/
def execCvuAliveReset (u : Fin 8) (s : State) : Out := .next (s.cvuAliveReset u)

/-- The width of the alive counter. -/
def cvuAliveBits (s : State) (u : Nat) : Nat := if cvuCtl s u 6 1 = 1 then 8 else 4

/-- A write of `CVU_ALIVE.VALUE` (R475). -/
def State.cvuAlive (s : State) (u : Nat) (data : Word) : State :=
  let n := cvuAliveBits s u
  let v := fld data 0 n
  let c := vget s.cvu u
  if cvuCtl s u 7 1 = 0 then s
  else if c.first then s.modCvu u (fun c => { c with first := false, last := v, stale := false })
  else if v = (c.last + 1) % 2 ^ n then s.modCvu u (fun c => { c with last := v, stale := false })
  else if v = c.last then (s.setC (cvuReg Reg.CVU_ERR u) 2).cvuRaise u 0x1082 c.last v
  else
    let skipped := (((v : Int) - c.last - 1) % ((2 ^ n : Nat) : Int)).toNat
    let s := s.modCvu u (fun c => { c with last := v, skipped := skipped, stale := false })
    (s.setC (cvuReg Reg.CVU_ERR u) 4).cvuRaise u 0x1082 c.last v

/-- `CVU_ALIVE_WRITE`. -/
def execCvuAliveWrite (u : Fin 8) (data : Word) (s : State) : Out := .next (s.cvuAlive u data)

/-- `CVU_ALIVE_TIMEOUT`: ATMO without an accepted write, reported once (R476). -/
def execCvuAliveTimeout (u : Fin 8) (s : State) : Out :=
  let c := vget s.cvu u
  .next (s.onlyIf (cvuCtl s u 7 1 == 1 && cvuCtl s u 16 16 != 0 && !c.first && !c.stale) (fun s =>
    let s := s.modCvu u (fun c => { c with stale := true })
    (s.setC (cvuReg Reg.CVU_ERR u) 8).cvuRaise u 0x1083 c.last 0))

/-- The registers of the CVU window that are not plain storage, by unit and offset. -/
def viewCvu (s : State) (addr : Nat) : Option Word :=
  let u := (addr - Reg.CVU_CTL) / 0x40
  let off := (addr - Reg.CVU_CTL) % 0x40
  let c := vget s.cvu u
  if off = 0x4 then some (BitVec.ofNat 32 (cvuLow s Reg.CVU_POLY u))
  else if off = 0x8 then some (BitVec.ofNat 32 (cvuLow s Reg.CVU_INIT u))
  else if off = 0xC then some (BitVec.ofNat 32 (cvuLow s Reg.CVU_XOROUT u))
  else if off = 0x10 then some 0
  else if off = 0x14 then some (BitVec.ofNat 32 (cvuRun s u))
  else if off = 0x18 then some (BitVec.ofNat 32 (cvuResult s u))
  else if off = 0x1C then some (BitVec.ofNat 32 (cvuLow s Reg.CVU_EXPECT u))
  else if off = 0x20 then some 0
  else if off = 0x24 then some (mkWord [(16, b2n c.first), (8, c.skipped), (0, c.last)])
  else if off = 0x28 then some (mkWord [(30, if cvuEn s u then c.cmp else 0), (0, c.bytes)])
  else none

end Sys2Proof.Machine
end

