-- ==== Sys2Proof/Machine/Ecc.lean ====
section
/-! DEFINITION. DRAM errors (R225 to R228): counting, map-out of rows, what an uncorrectable word does to what it held, the
patrol scrub. -/

namespace Sys2Proof.Machine

/-- A DRAM row that exists. -/
def rowReal (r : RowAt) : Bool := decide (r.channel < 4) && decide (r.bank < 16) && decide (r.row < 8192)

/-- CE_LIMIT. -/
def ceLimit (s : State) : Nat := max 1 (s.rfld Reg.CUR_ECC_CTL 0 8)

/-! ## Map-out (R226, R227) -/

/-- A page of a channel taken as a spare: a free one, or one freed under rule 3 of R209. -/
def State.sparePage (s : State) (ch : Nat) : Option State :=
  let enough := fun (p : PageSet) => decide (0 < p.get ch)
  match takeVictims enough s.cur.free (poolSources s []) with
  | none => none
  | some l =>
    let s := s.takeAll l
    if 0 < s.cur.free.get ch then
      some { s with cur := { s.cur with free := s.cur.free.put ch (s.cur.free.get ch - 1) } }
    else none

/-- A row is mapped out, or cannot be. -/
def State.mapOut (s : State) (r : RowAt) : State :=
  if s.cur.mapped.contains r then s
  else
    let full := decide (4096 ≤ (s.cur.mapped.filter (fun x => x.channel == r.channel)).length)
    match (if full then none else s.sparePage r.channel) with
    | none =>
      let s : State := { s with cur := { s.cur with
        failedRows := if s.cur.failedRows.contains r then s.cur.failedRows else s.cur.failedRows ++ [r] } }
      (s.setC Reg.CUR_ERR 128).raise .mem Ev.ROW_MAP_FAILED r.channel (rowCode r)
    | some s =>
      let s : State := { s with cur := { s.cur with
        mapped := s.cur.mapped ++ [r], failedRows := s.cur.failedRows.filter (fun x => x != r) } }
      let s := (s.setC Reg.CUR_ERR 64).raise .mem Ev.ROW_MAPPED_OUT r.channel (rowCode r)
      s.requota (some r.channel)

/-! ## Corrected errors (R225, R229) -/

/-- A corrected error counted, with its event at most once a second a channel. -/
def State.eccCorrected (s : State) (r : RowAt) : State :=
  let now := s.opsec
  let times := (s.cur.ceTimes.filter (fun x => decide (now < x.2 + 86400))) ++ [(r, now)]
  let n := s.cur.ceSince.getD r.channel 0 + 1
  let s : State := { s with cur := { s.cur with
    ce := min 65535 (s.cur.ce + 1), lastErr := some (r, false), ceTimes := times
    ceSince := lmod s.cur.ceSince r.channel (fun _ => n) } }
  let s := if s.cur.ceEvent.getD r.channel none = some now then s
    else
      let s : State := { s with cur := { s.cur with
        ceSince := lmod s.cur.ceSince r.channel (fun _ => 0)
        ceEvent := lmod s.cur.ceEvent r.channel (fun _ => some now) } }
      s.raise .mem Ev.ECC_CORRECTED r.channel n
  if ceLimit s ≤ (times.filter (fun x => x.1 == r)).length || s.cur.failedRows.contains r then s.mapOut r else s

/-! ## Uncorrectable errors (R228) -/

/-- Entries of a list from `i` on replaced by 0, `n` of them. -/
def zeroRange (l : List Nat) (i n : Nat) : List Nat :=
  l.zipIdx.map (fun x => if i ≤ x.2 ∧ x.2 < i + n then 0 else x.1)

/-- The inactive bank of a table does not hold the content of the active one. -/
def bankLoading (s : State) (t : Nat) : Bool :=
  let x := tableOf s t
  x.copying || x.bank0 != x.bank1 || (List.range 4).any (fun c => (vget s.ctx c).tloads.any (fun l => l.table == t && !l.queued))

/-- The word at a byte offset of a surface is zero from now on. -/
def Surface.lose (x : Surface) (off : Nat) : Surface := { x with data := zeroRange x.data (off / 8 * 8) 8 }

/-- A word of a surface is lost; a composition that reads this content, and not through a Vitrine surface, gets the zero
(R228). -/
def State.loseSurface (s : State) (c h off : Nat) : State :=
  let live := findSurface s c h
  let s : State := { s with cur := { s.cur with surfaces := s.cur.surfaces.map (fun x =>
    if x.ctx == c && x.handle == h then x.lose off else x) } }
  s.recompose (fun k => { k with srcs := k.srcs.map (fun x =>
    if x.2.ctx == c && x.2.handle == h && live.any (fun y => y.data == x.2.data) && !k.flat.any (fun r => r.contains x.1)
    then (x.1, x.2.lose off) else x) })

/-- A word of a Vitrine pixel is lost to the frame in composition: which of its bits were in the word is free (log entry
41). -/
def State.loseVitrine (s : State) (run : List Nat) (pixel : Nat) : State :=
  let a := s.fresh
  let b := a.2.fresh
  let c := b.2.fresh
  let d := c.2.fresh
  d.2.recompose (fun k =>
    if k.flat.contains run then { k with lost := k.lost ++ [{ run := run, pixel := pixel, keep := [a.1, b.1, c.1, d.1] }] } else k)

/-- Values of `bits` bits, by emitter, that lie in one word of 64 bits on a channel. -/
def wordOn (s : State) (d : DevStruct) (bits ch : Nat) (es : List Nat) : Bool :=
  devPages s d ch != 0 && es.all (fun e => devChannel (e * bits / 8) == ch && es.all (fun x => x * bits / 64 == e * bits / 64))

/-- A row can hold what it is said to hold: the word lies on the row's channel (R34, R202; log entry 98). -/
def rowHolds (s : State) (r : RowAt) (u : DramUse) : Bool :=
  match u with
  | .surface c h _ => (findSurface s c h).all (fun x => x.pages.get r.channel != 0)
  | .vitrine layers _ => (s.cur.vitrines.find? (fun v => v.layers == layers)).all (fun v => v.pages.get r.channel != 0)
  | .composed => devPages s .composed r.channel != 0 || devPages s .upload r.channel != 0
  | .table t word =>
    if t = 3 then devPages s .matrices r.channel != 0 && devChannel (4 * word) == r.channel else devPages s .tables r.channel != 0
  | .gains es => wordOn s .gains 16 r.channel es
  | .ledger es => wordOn s .ledger 32 r.channel es
  | .faultMap es => wordOn s .faultMap 2 r.channel es
  | .other => devPages s .working r.channel != 0

/-- What follows where the word lies. -/
def State.eccLost (s : State) (r : RowAt) (u : DramUse) : State :=
  if !rowHolds s r u then s
  else match u with
  | .surface c h off => s.loseSurface c h off
  | .vitrine layers pixel =>
    match s.cur.vitrines.find? (fun v => v.layers == layers) with
    | none => s
    | some v => (s.dropVitrine v).onlyIf v.ready (fun s => s.loseVitrine layers pixel)
  | .composed =>
    let k := s.scn.frame + 1
    if s.scn.upload.isSome || s.pix.composed.any (fun c => c.frame == k) then
      ({ s with scn := { s.scn with upload := none, swapSent := false } } : State).abandonFrame k
    else s
  | .table t word =>
    if 1 ≤ t ∧ t ≤ 4 ∧ bankLoading s t then
      let i := word / 2 * 2
      ((s.putTableWord t true i 0).putTableWord t true (i + 1) 0).recompose id
    else s
  | .gains es =>
    if s.pat.gain0 = s.pat.gain1 then s
    else
      let zero := fun (m : List (Nat × Nat)) => es.foldl (fun m e => kput 32768 m e 0) m
      let s : State := if s.pat.gainActive then { s with pat := { s.pat with gain1 := zero s.pat.gain1 } }
        else { s with pat := { s.pat with gain0 := zero s.pat.gain0 } }
      s.recompose id
  | .ledger es => s.doseRepair es
  | .faultMap es =>
    ((s.setCodes es (fun _ => 1)).mapChanged).recompose (fun c => { c with map := es.foldl (fun m e => kput 1 m e 1) c.map })
  | .other =>
    match s.pix.composing with
    | none => s
    | some c => s.abandonFrame c.frame

/-- An uncorrectable error: its event, the map-out of its row, and what it held. -/
def State.eccUncorrectable (s : State) (r : RowAt) (u : DramUse) : State :=
  let s : State := { s with cur := { s.cur with ue := min 65535 (s.cur.ue + 1), lastErr := some (r, true) } }
  let s := s.setC Reg.CUR_ERR 32
  let s := match u with
    | .surface c h _ => s.raiseTo c .mem Ev.ECC_UNCORRECTABLE r.channel h (rowCode r)
    | _ => s.raise .mem Ev.ECC_UNCORRECTABLE r.channel 0 (rowCode r)
  (s.mapOut r).eccLost r u

/-- `DRAM_READ_ECC_ERROR`: a read meets a corrected or an uncorrectable word. -/
def execDramReadEccError (row : RowAt) (uncorrectable : Bool) (use : DramUse) (s : State) : Out :=
  if !rowReal row then .fault (.illFormed "DRAM_READ_ECC_ERROR")
  else .next (s.onlyIf s.awake (fun s =>
    if uncorrectable then s.eccUncorrectable row use else s.eccCorrected row))

/-- `PATROL_SCRUB`: the scrub reads a row, with the error that it finds there, if any. A row that could not be mapped out
is tried again (R225, R227). -/
def execPatrolScrub (row : RowAt) (err : Option Bool) (use : DramUse) (s : State) : Out :=
  if !rowReal row then .fault (.illFormed "PATROL_SCRUB")
  else .next (s.onlyIf (s.awake && s.rfld Reg.CUR_ECC_CTL 24 8 != 0) (fun s =>
    match err with
    | some true => s.eccUncorrectable row use
    | some false => s.eccCorrected row
    | none => if s.cur.failedRows.contains row then s.mapOut row else s))

end Sys2Proof.Machine
end

