-- ==== Sys2Proof/Machine/Cell.lean ====
section
/-! DEFINITION. The cell side (R387 to R406): epochs and apertures, primary and sweep results, thermistors,
coulomb counters, balancing, autonomous protection and cross-calibration. Instants are in units of 10 ns. -/

namespace Sys2Proof.Machine

/-! ## Configuration fields -/

/-- Over-voltage threshold, LSB 100 µV. -/
def celOv (s : State) : Nat := s.rfld Reg.CEL_PROT_V 16 16 * 10
/-- Under-voltage threshold, LSB 100 µV. -/
def celUv (s : State) : Nat := s.rfld Reg.CEL_PROT_V 0 16 * 10
/-- Voltage filter, in results. -/
def celVflt (s : State) : Nat := s.rfld Reg.CEL_PROT_T 16 8
/-- Over-temperature filter, in 10 ns. -/
def celTflt (s : State) : Nat := s.rfld Reg.CEL_PROT_T 24 8 * 1000000
/-- Over-temperature threshold, LSB 1/16 °C. -/
def celOt (s : State) : Int := sext 16 (s.rfld Reg.CEL_PROT_T 0 16)
/-- Thermistor `i` (0 to 3) is enabled. -/
def celCtEn (s : State) (i : Nat) : Bool := bitOf (s.reg Reg.CEL_CTL) i
/-- `CEL_CTL.TFAIL_TRIP`. -/
def celTfailTrip (s : State) : Bool := bitOf (s.reg Reg.CEL_CTL) 8

/-! ## Protection (R401, R402) -/

/-- Both barrier protection lines toggle while the cell side runs, no demand is latched and no string decision
holds them (R402, R425, R427). -/
def State.celLines (s : State) : State :=
  { s with cel := { s.cel with
      lines := s.cel.running && !s.cel.demand && !s.hb.orphanDemand && !s.hb.leadOpen } }

/-- A condition trips: the demand is latched, the lines stop, a waiting CLEAR is cancelled, and the event names
the cell or sensor (R402). -/
def State.celTrip (s : State) (k : EvKind) (inst val : Nat) : State :=
  let s := ({ s with cel := { s.cel with demand := true, clearPend := false } }).celLines
  (s.setCel 1).raise .afe k inst val s.cel.epoch

/-- One result of one path against one voltage condition: `shows` says whether it shows the condition, `clears`
whether it lies past the hysteresis (R401). Answers the filter and whether it has tripped now. -/
def VFilter.step (f : VFilter) (primary : Bool) (v need : Nat) (shows clears : Nat → Bool) : VFilter × Bool :=
  let n := if shows v then (if primary then f.p else f.s) + 1 else 0
  let f := if primary then { f with p := n } else { f with s := n }
  if f.on then
    let f := if primary then { f with lp := some v } else { f with ls := some v }
    if f.lp.all clears && f.ls.all clears then
      ({ f with on := false, lp := none, ls := none }, false)
    else (f, false)
  else if need ≤ n then
    (if primary then { f with on := true, lp := some v, ls := none }
      else { f with on := true, lp := none, ls := some v }, true)
  else (f, false)

/-- A usable result of one path of cell `n` (0 to 11) checked against both voltage conditions (R401). -/
def State.celCheck (s : State) (n : Nat) (primary : Bool) (v : Nat) : State :=
  let c := vget s.cel.cell n
  let ov := celOv s
  let uv := celUv s
  let (fo, tripO) := c.ov.step primary v (celVflt s) (fun x => decide (ov ≤ x)) (fun x => decide (x + 500 < ov))
  let (fu, tripU) := c.uv.step primary v (celVflt s) (fun x => decide (x ≤ uv)) (fun x => decide (uv + 1000 < x))
  let s := s.modCell n (fun c => { c with ov := fo, uv := fu })
  let s := if tripO then s.celTrip Ev.CELL_OV (n + 1) v else s
  if tripU then s.celTrip Ev.CELL_UV (n + 1) v else s

/-- Some under-voltage condition is active. -/
def celAnyUv (s : State) : Bool := s.cel.cell.toList.any (fun c => c.uv.on)
/-- Some over-temperature condition or temperature lost is active. -/
def celAnyTemp (s : State) : Bool := s.cel.sensor.toList.any (fun x => x.ot) || s.cel.tlost
/-- Some over-voltage condition is active. -/
def celAnyOv (s : State) : Bool := s.cel.cell.toList.any (fun c => c.ov.on)
/-- Some condition of R401 is active. -/
def celAny (s : State) : Bool := celAnyOv s || celAnyUv s || celAnyTemp s

/-! ## Balancing (R398, R399) -/

/-- The channel of cell `n` counts as failed: by R404, or under calibration (R503). -/
def celFailed (s : State) (n : Nat) : Bool :=
  (vget s.cel.cell n).fail || decide (calConv s = some n)

/-- A cell or one of its neighbours satisfies a test. -/
def orNeighbours (n : Nat) (f : Nat → Bool) : Bool :=
  f n || (decide (0 < n) && f (n - 1)) || (decide (n < 11) && f (n + 1))

/-- Cell `n` qualifies under R398 for the epoch that begins. -/
def balQualifies (s : State) (n : Nat) : Bool :=
  let c := vget s.cel.cell n
  bitOf (s.reg Reg.CEL_BAL_REQ) n && c.valid && decide (s.rfld Reg.CEL_BAL_CTL 16 16 * 10 ≤ c.v) &&
    !celAnyUv s && !celAnyTemp s && !orNeighbours n (celFailed s)

/-- The place of cell `n` in its run of adjacent qualifying cells, counted from 0 at the lowest. -/
def runPlace (q : Nat) : Nat → Nat
  | 0 => 0
  | n + 1 => if hasBit q n then runPlace q n + 1 else 0

/-- The balancing set and the deferred set of an epoch (R399). -/
def balanceSets (thru : Bool) (q : Nat) (odd : Bool) : Nat × Nat :=
  if thru then
    let alone n := !(decide (0 < n) && hasBit q (n - 1)) && !hasBit q (n + 1)
    let on n := hasBit q n && (alone n || decide ((runPlace q n % 2 = 1) = odd))
    (bitsOf 12 on, bitsOf 12 (fun n => hasBit q n && !on n))
  else (q, 0)

/-! ## Apertures (R389) -/

/-- What happens at an instant `t` after the last aperture: no aperture, a free-running one with the trigger
that remains, or the triggered one. -/
inductive Aperture where
  | notTaken
  | freeRunning (left : Option (Nat × Int))
  | triggered (arrived : Int)
  deriving DecidableEq, Repr

/-- The choice of R389. A named instant earlier than 500 µs after the last aperture is applied at 500 µs. -/
def apertureAt (c : CellState) (t : Nat) : Aperture :=
  match c.trigger with
  | none => if t = 100000 then .freeRunning none else .notTaken
  | some (at', base) =>
    let due := max at' 50000
    if 0 < c.apertures ∧ t = due then .triggered base
    else if t = 100000 ∧ (c.apertures = 0 ∨ 150000 ≤ due) then
      .freeRunning (some (due - 100000, base - 100000))
    else .notTaken

/-- Address of the result register of primary cell `n` (0 to 11). -/
def regV (n : Nat) : Nat := Reg.CEL_V1 + 4 * n
/-- Address of the sweep register of cell `n`. -/
def regSV (n : Nat) : Nat := Reg.CEL_SV1 + 4 * n

/-- The result of thermistor `n` is valid (R394, R396). -/
def celSensorValid (s : State) (n : Nat) : Bool :=
  let x := vget s.cel.sensor n
  celCtEn s n && x.seen && !x.failed && !s.cel.refFault

/-- The words of the sweep registers (R393). -/
def celSweepWords (s : State) : List (Nat × Word) :=
  (List.range 12).map (fun n =>
    let c := vget s.cel.cell n
    (regSV n, mkWord [(18, b2n c.sStale), (17, b2n c.sBal), (16, b2n c.sValid), (0, c.sv)])) ++
  [(Reg.CEL_SSTK, mkWord [(16, s.cel.apertures % 65536), (0, s.cel.stack % 65536)]),
   (Reg.CEL_SREF, mkWord [(16, s.cel.refB % 65536), (0, s.cel.refA % 65536)])] ++
  (List.range 4).map (fun n =>
    let x := vget s.cel.sensor n
    (Reg.CEL_T1 + 4 * n, mkWord [(18, b2n x.short), (17, b2n x.isOpen),
      (16, b2n (celSensorValid s n)), (0, toTwos 16 x.t)]))

/-- The words of the primary result registers (R390 to R392). -/
def celPrimWords (s : State) : List (Nat × Word) :=
  (List.range 12).map (fun n =>
    let c := vget s.cel.cell n
    let f := celFailed s n
    (regV n, mkWord [(19, b2n f), (18, b2n c.fail), (17, b2n c.balact), (16, b2n c.valid), (0, c.v)])) ++
  [(Reg.CEL_VSUM, mkWord [(17, b2n s.cel.vsumSweep),
      (16, b2n (s.cel.cell.toList.all (fun c => c.valid))), (0, s.cel.vsum % 65536)]),
   (Reg.CEL_I, BitVec.ofNat 32 (toTwos 32 s.cel.current)),
   (Reg.CEL_EPOCH, BitVec.ofNat 32 s.cel.epoch)]

/-- Results reach the mirror through the barrier channel (R392, R393). -/
def State.celShow (s : State) (ws : List (Nat × Word)) : State :=
  if s.mirrorOpen then
    { s with cel := { s.cel with shown := ws.foldl (fun m q => kput 0 m q.1 q.2) s.cel.shown } }
  else s

/-- The slots that the epoch did not reach keep their values with STALE = 1, and the sweep of the epoch is
shown (R393). -/
def State.celCloseSweep (s : State) : State :=
  if s.cel.apertures = 0 ∨ hasBit s.cel.slots 18 then s
  else
    let taken := s.cel.slots
    let stale n (c : CellChan) : CellChan := if hasBit taken (n + 1) then c else { c with sStale := true }
    let staleT n (x : CellSensor) : CellSensor := if hasBit taken (n + 15) then x else { x with stale := true }
    let s := { s with cel := { s.cel with
      cell := Vector.ofFn (fun i : Fin 12 => stale i.val (vget s.cel.cell i.val))
      sensor := Vector.ofFn (fun i : Fin 4 => staleT i.val (vget s.cel.sensor i.val)) } }
    s.celShow (celSweepWords s)

/-- What each cell keeps of the ended epoch for the pairs of R404: its sweep result where it may form one. -/
def State.celKeepPairs (s : State) : State :=
  let f n (c : CellChan) : CellChan :=
    { c with sPrev := if hasBit s.cel.slots (n + 1) ∧ c.sValid ∧ ¬ c.sBal ∧ ¬ c.sStale then some c.sv else none }
  { s with cel := { s.cel with cell := Vector.ofFn (fun i : Fin 12 => f i.val (vget s.cel.cell i.val)) } }

/-- The time for which temperature has been lost grows by the epoch that ends, of length `t` (R401). -/
def State.celTimes (s : State) (t : Nat) : State :=
  { s with cel := { s.cel with
      tempLostTime := if s.cel.tempLost then s.cel.tempLostTime + t else s.cel.tempLostTime } }

/-- An aperture is taken `t` after the last (R389): the ended epoch closes, calibration advances, written
coefficients apply, and the balancing set of the new epoch is chosen. -/
def State.celAperture (s : State) (t : Nat) (left : Option (Nat × Int)) (sweep : Option Nat) : State :=
  let s := ((s.celCloseSweep).celKeepPairs).celTimes t
  let s := s.cellCalAperture
  let coef : List (Nat × Int) := s.cel.coefNext.foldl (fun m q => kset m q.1 q.2) s.cal.coef
  let s : State := { s with cal := { s.cal with coef := coef, dirty := s.cal.dirty || !s.cel.coefNext.isEmpty } }
  let first := decide (s.cel.apertures = 0)
  let n := wrapAdd 32 s.cel.apertures 1
  let thru := bitOf (s.reg Reg.CEL_BAL_CTL) 0
  let q := bitsOf 12 (balQualifies s)
  let sets := balanceSets thru q (decide (n % 2 = 1))
  { s with cel := { s.cel with
      apertures := n, len := if first then 0 else t, trigger := left, sweepOf := sweep, slots := 0,
      coefNext := [], thru := thru, bal := sets.1, defer := sets.2, guard := !thru } }

/-- `PRIMARY_APERTURE`: the instant `t`, in 10 ns after the last aperture or after VREGC became valid (R389). -/
def execPrimaryAperture (t : Nat) (s : State) : Out :=
  if !s.cel.running then .next s
  else match apertureAt s.cel t with
    | .notTaken => .next s
    | .freeRunning left => .next (s.celAperture t left none)
    | .triggered base =>
      let s := s.celAperture t none (some s.hb.sweep)
      let apt := (s.hb.chainTime : Int) + ((t : Int) - base) / 100
      .next { s with hb := { s.hb with apt := some (toTwos 32 apt) } }

/-- `BALANCE_GUARD_OPEN` (R399). -/
def execBalanceGuardOpen (s : State) : Out :=
  .next (s.onlyIf (s.cel.running && !s.cel.thru) (fun s => { s with cel := { s.cel with guard := true } }))

/-- `BALANCE_GUARD_CLOSE` (R399). -/
def execBalanceGuardClose (s : State) : Out :=
  .next (s.onlyIf (s.cel.running && !s.cel.thru) (fun s => { s with cel := { s.cel with guard := false } }))

/-! ## Cross-calibration (R404) -/

/-- The primary channel of cell `n` fails (R404). -/
def State.celChannelFail (s : State) (n : Nat) : State :=
  if (vget s.cel.cell n).fail then s
  else
    let s := s.modCell n (fun c => { c with fail := true, pv := none })
    (s.setCel 8).raise .afe Ev.CELL_CHANNEL_FAIL (n + 1) (vget s.cel.cell n).v s.cel.epoch

/-- The current channel fails in the same way (R404). -/
def State.celCurrentFail (s : State) : State :=
  if s.cel.iFail then s
  else
    let s : State := { s with cel := { s.cel with iFail := true, iValid := false } }
    (s.setCel 8).raise .afe Ev.CELL_CHANNEL_FAIL 0 (toTwos 32 s.cel.current) s.cel.epoch

/-- A completed window of cell `n` (R404): its mean is shown and acted on. -/
def State.celWindow (s : State) (n : Nat) (mean : Int) : State :=
  let c := vget s.cel.cell n
  let lim : Int := (s.rfld Reg.CEL_XCAL_CTL 16 8 : Int) * 100
  let s := s.modCell n (fun c => { c with xSum := 0, xCount := 0, xMean := mean,
                                          xWindows := wrapAdd 16 c.xWindows 1 })
  if decide (mean.natAbs ≤ lim.toNat) then
    let w := 0x9A + n
    let v := calValue s w + mean
    let s := s.modCell n (fun c => { c with xOver := false })
    if calInRange s w v then s.calAccept w v else s.calReject w v
  else if s.cel.refFault then s
  else if c.xOver then (s.modCell n (fun c => { c with xOver := false })).celChannelFail n
  else s.modCell n (fun c => { c with xOver := true })

/-- A pair of cell `n`: the sweep result of the ended epoch against the primary value interpolated between the
two apertures that bracket it, in 10 µV (R404). -/
def State.celPair (s : State) (n : Nat) (p1 : Nat) : State :=
  let c := vget s.cel.cell n
  match c.sPrev, c.pv with
  | some sw, some p0 =>
    let di : Int := (s.rfld Reg.CEL_XCAL_CTL 24 8 : Int) * 100
    if s.cel.iValid ∧ s.cel.len ≠ 0 ∧ (s.cel.current - s.cel.currentPrev).natAbs ≤ di.toNat then
      let tau : Int := 5000 * ((n : Int) + 2)
      let num : Int := 10 * (((sw : Int) - p0) * s.cel.len - ((p1 : Int) - p0) * tau)
      let d := openRound num s.cel.len
      let sum := c.xSum + d
      let cnt := c.xCount + 1
      if s.rfld Reg.CEL_XCAL_CTL 0 16 ≤ cnt then s.celWindow n (openRound sum cnt)
      else s.modCell n (fun c => { c with xSum := sum, xCount := cnt })
    else s
  | _, _ => s

/-! ## Primary results (R390 to R392, R397, R400) -/

/-- The shift of a tap in 100 µV when a cell of `v` balances: V × RF / (RB + RON) (R388, R400). -/
def balanceShift (s : State) (v : Nat) : Int :=
  let rf := s.rfld Reg.CEL_RES 0 8 * 10
  let r := s.rfld Reg.CEL_RES 8 8 * 10 + s.rfld Reg.CEL_RES 16 8
  openRound ((v * rf : Nat) : Int) r

/-- A raw code of cell `n` corrected under R400, from the corrected results of the epoch before; a shift of
more than 0.5 V leaves the reading undefined (R388), and it is then a free value. -/
def State.celCorrect (s : State) (prev : List Nat) (n raw : Nat) : Nat × State :=
  let own := s.cel.thru && hasBit s.cel.bal n && decide (0 < n)
  let up := s.cel.thru && hasBit s.cel.bal (n + 1) && decide (n < 11)
  let a := if own then balanceShift s (prev.getD n 0) else 0
  let b := if up then balanceShift s (prev.getD (n + 1) 0) else 0
  if 5000 < a.natAbs ∨ 5000 < b.natAbs then
    let (v, s) := s.fresh
    (v % 65536, s)
  else ((clampInt 0 65535 ((raw : Int) + a - b)).toNat, s)

/-- One code of cell `n` against the code before it (R404): 256 equal results while the sweep moves by more
than 0.5 mV fail the channel at once. -/
def State.celStuck (s : State) (n raw : Nat) : State :=
  let c := vget s.cel.cell n
  if c.run ≠ 0 ∧ c.code = raw then
    let s := s.modCell n (fun c => { c with run := c.run + 1 })
    if 256 ≤ c.run + 1 ∧ c.svLo + 5 < c.svHi then s.celChannelFail n else s
  else s.modCell n (fun c => { c with code := raw, run := 1, svLo := c.sv, svHi := c.sv })

/-- The primary result of cell `n`: the corrected code, or the sweep result while the channel counts as failed
(R390, R400, R404, R503). -/
def State.celPrimary (s : State) (prev : List Nat) (n raw : Nat) : State :=
  let c := vget s.cel.cell n
  if celFailed s n then
    s.modCell n (fun c => { c with v := c.sv, valid := c.sValid && !c.sStale, balact := c.sBal, pv := none })
  else
    let (v, s) := s.celCorrect prev n raw
    let ba := s.cel.thru && orNeighbours n (hasBit s.cel.bal)
    let s := s.modCell n (fun c => { c with v := v, valid := true, balact := ba })
    let s := if ba then s else s.celPair n v
    let s := s.modCell n (fun c => { c with pv := if ba then none else some v })
    let s := s.celCheck n true v
    let _ := c
    s.celStuck n raw

/-- The current result and the coulomb counters (R390, R397): I × t in 1 µC, the remainder carried. -/
def State.celCurrent (s : State) (i : Int) : State :=
  let cal := decide (calConv s = some 12)
  let i' := if cal then s.cel.current else clampInt (-8388608) 8388607 i
  let run := if s.cel.iRun ≠ 0 ∧ s.cel.iCode = i then s.cel.iRun + 1 else 1
  let s := { s with cel := { s.cel with currentPrev := s.cel.current, current := i',
                                        iValid := !s.cel.iFail } }
  let s := if cal then s else { s with cel := { s.cel with iCode := i, iRun := run } }
  let s := if !cal ∧ 256 ≤ run then s.celCurrentFail else s
  if s.cel.iFail then s
  else
    let a := s.cel.coulRem + i' * s.cel.len
    let d := s.cel.dchgRem + (if 0 < i' then i'.toNat else 0) * s.cel.len
    { s with cel := { s.cel with coul := s.cel.coul + a / 100000, coulRem := a % 100000,
                                 dchg := s.cel.dchg + d / 100000, dchgRem := d % 100000 } }

/-- The segment sum in 1 mV (R391). -/
def State.celSum (s : State) : State :=
  let vs := s.cel.cell.toList.map (fun c => c.v)
  let sw := (List.range 12).any (fun n => (vget s.cel.cell n).fail)
  { s with cel := { s.cel with vsum := (clampInt 0 65535 (openRound (lsum vs) 10)).toNat, vsumSweep := sw } }

/-- The conversion of a calibration epoch (R502). -/
def State.celCalConvert (s : State) (m : Int) : State :=
  match s.cel.calRun with
  | none => s
  | some k =>
    if k % 2 = 0 then { s with cel := { s.cel with calOffset := some m } }
    else { s with cel := { s.cel with calGain := some m } }

/-- The twelve cells in order. -/
def State.celPrimaries (s : State) (prev : List Nat) : Nat → List Nat → State
  | _, [] => s
  | n, c :: cs => (s.celPrimary prev n c).celPrimaries prev (n + 1) cs

/-- The results of the aperture of a sweep are kept for the response, which may come after later apertures (R420). -/
def State.celSample (s : State) : State :=
  match s.cel.sweepOf with
  | none => s
  | some n =>
    let cells := s.cel.cell.toList.flatMap (fun c => bytesBE 2 (if c.valid then c.v else 0xFFFF))
    let allV := s.cel.cell.toList.all (fun c => c.valid)
    { s with hb := { s.hb with sample := some {
        sweep := n, apt := s.hb.apt.getD 0, cells := cells
        current := bytesBE 4 (if s.cel.iValid then toTwos 32 s.cel.current else 0x80000000)
        vsum := bytesBE 2 (if allV then s.cel.vsum else 0xFFFF) } } }

/-- `PRIMARY_RESULT`: twelve codes, LSB 100 µV, the current in mA, and in a calibration epoch the conversion of
the converter under calibration, in 10 µV (R390). -/
def execPrimaryResult (cells : List Nat) (current cal : Int) (s : State) : Out :=
  if cells.length ≠ 12 ∨ cells.any (fun v => decide (65535 < v)) then .fault (.illFormed "PRIMARY_RESULT")
  else if s.cel.running ∧ s.cel.apertures ≠ s.cel.epoch then
    let prev := s.cel.cell.toList.map (fun c => c.v)
    let s : State := { s with cel := { s.cel with epoch := s.cel.apertures } }
    let s := (s.celCurrent current).celCalConvert cal
    let s := ((s.celPrimaries prev 0 cells).celSum).celSample
    .next (s.celShow (celPrimWords s))
  else .next s

/-! ## Sweep results (R393 to R396) -/

/-- The references of one epoch (R394). -/
def State.celRefs (s : State) : State :=
  let bad := decide (20 < ((s.cel.refA : Int) - 12500).natAbs) || decide (20 < ((s.cel.refB : Int) - 33000).natAbs)
  if bad then
    let n := s.cel.refBad + 1
    let s : State := { s with cel := { s.cel with refBad := n, refGood := 0 } }
    if 8 ≤ n ∧ ¬ s.cel.refFault then
      let s : State := { s with cel := { s.cel with refFault := true } }
      (s.setCel 16).raise .afe Ev.CELL_REF_FAULT 0 (s.cel.refA + s.cel.refB * 65536) s.cel.epoch
    else s
  else
    let n := s.cel.refGood + 1
    { s with cel := { s.cel with refBad := 0, refGood := n, refFault := s.cel.refFault && decide (n < 8) } }

/-- Cell `n` conducts through its balance switch or a neighbour does (R400). -/
def celConducts (s : State) (n : Nat) : Bool := s.cel.running && !s.cel.guard && orNeighbours n (hasBit s.cel.bal)

/-- The sweep result of cell `n`, `raw` in 10 µV before the cross-calibration offset (R393, R400, R404). -/
def State.celSweepCell (s : State) (n raw : Nat) : State :=
  let v := (clampInt 0 65535 (openRound ((raw : Int) - calValue s (0x9A + n)) 10)).toNat
  let ba := celConducts s n
  let ok := !s.cel.refFault
  let s := s.modCell n (fun c => { c with sv := v, sValid := ok, sBal := ba, sStale := false,
                                          svLo := min c.svLo v, svHi := max c.svHi v })
  if ok && !ba then s.celCheck n false v else s

/-- The stack voltage, `raw` in 1 mV, against the segment sum (R395), during a reference fault too (log entry 99). -/
def State.celStack (s : State) (raw : Nat) : State :=
  let mv := min raw 65535
  let s : State := { s with cel := { s.cel with stack := mv } }
  if 250 < ((mv : Int) - s.cel.vsum).natAbs then
    let n := s.cel.stackRun + 1
    let s : State := { s with cel := { s.cel with stackRun := n } }
    if 100 ≤ n ∧ ¬ s.cel.stackBad then
      let s : State := { s with cel := { s.cel with stackBad := true } }
      (s.setCel 32).raise .afe Ev.STACK_MISMATCH 0 (mv + s.cel.vsum % 65536 * 65536) s.cel.epoch
    else s
  else { s with cel := { s.cel with stackRun := 0, stackBad := false } }

/-- OPEN or SHORT of thermistor `i` over the epochs (R396). -/
def State.celSensorHealth (s : State) (i : Nat) (bad : Bool) : State :=
  let x := vget s.cel.sensor i
  if bad then
    let s := s.modSensor i (fun x => { x with bad := x.bad + 1, good := 0 })
    if 10 ≤ x.bad + 1 ∧ ¬ x.failed then
      let s := s.modSensor i (fun x => { x with failed := true, otTime := none, ot := false })
      (s.setCel 4).raise .afe Ev.CELL_TSENSOR_FAIL (i + 1) (toTwos 16 x.t) s.cel.epoch
    else s
  else s.modSensor i (fun x => { x with bad := 0, good := x.good + 1,
                                        failed := x.failed && decide (x.good + 1 < 1000) })

/-- Over-temperature of thermistor `i` (R401), by a valid result: neither failed nor taken in a reference fault
(R394, R396). The time at or above OT runs from one such result to the next: a skipped slot, like a result with
VALID = 0, does not advance the filter (log entry 100). -/
def State.celOverTemp (s : State) (i : Nat) (t : Int) : State :=
  let x := vget s.cel.sensor i
  if x.failed || s.cel.refFault then s
  else if x.ot then
    (if t < celOt s - 80 then s.modSensor i (fun x => { x with ot := false, otTime := none }) else s)
  else if celOt s ≤ t then
    let run := match x.otTime with
      | none => 0
      | some r => r + s.cel.len
    let s := s.modSensor i (fun x => { x with otTime := some run })
    if celTflt s ≤ run then
      (s.modSensor i (fun x => { x with ot := true })).celTrip Ev.CELL_OT (i + 1) (toTwos 16 t)
    else s
  else s.modSensor i (fun x => { x with otTime := none })

/-- Every enabled thermistor has failed (R396). -/
def celAllFailed (s : State) : Bool :=
  decide (s.rfld Reg.CEL_CTL 0 4 ≠ 0) &&
    (List.range 4).all (fun i => !celCtEn s i || (vget s.cel.sensor i).failed)

/-- `CELL_TEMP_LOST`, and temperature lost as a protection condition after 1 s (R396, R401). -/
def State.celTempLost (s : State) : State :=
  if celAllFailed s then
    let s := if s.cel.tempLost then s else ({ s with cel := { s.cel with tempLost := true, tempLostTime := 0 } }).raise .afe
        Ev.CELL_TEMP_LOST 0 0 s.cel.epoch
    if celTfailTrip s && !s.cel.tlost && decide (100000000 ≤ s.cel.tempLostTime) then
      ({ s with cel := { s.cel with tlost := true } }).celTrip Ev.CELL_OT 0 0
    else s
  else { s with cel := { s.cel with tempLost := false, tempLostTime := 0, tlost := false } }

/-- The sample of thermistor `i`: `ratio` in 1/100,000, converted with an error of `dev` (R396). An OPEN or SHORT
reading of a sensor that has not failed yet is a valid result like any other (R401). -/
def State.celThermistor (s : State) (i ratio : Nat) (dev : Int) : State :=
  if celCtEn s i then
    let t := cellTemp ratio dev
    let op := decide (98500 < ratio)
    let sh := decide (ratio < 1500)
    let s := s.modSensor i (fun x => { x with t := t, isOpen := op, short := sh, stale := false, seen := true })
    let s := s.celSensorHealth i (op || sh)
    s.celOverTemp i t
  else s.modSensor i (fun x => { x with isOpen := false, short := false, stale := false, seen := false,
                                        otTime := none, ot := false, bad := 0, good := 0, failed := false })

/-- One slot (R393). -/
def State.celSlot (s : State) (slot raw : Nat) (dev : Int) : State :=
  if slot = 0 then { s with cel := { s.cel with refA := min raw 65535 } }
  else if slot ≤ 12 then s.celSweepCell (slot - 1) raw
  else if slot = 13 then s.celStack raw
  else if slot = 14 then ({ s with cel := { s.cel with refB := min raw 65535 } }).celRefs
  else (s.celThermistor (slot - 15) raw dev).onlyIf (slot == 18) State.celTempLost

/-- `SWEEP_SLOT`: slot 0 to 18 is sampled (R393). `raw` is in 100 µV for the references, 10 µV for a cell, 1 mV
for the stack and 1/100,000 of TREF for a thermistor, whose conversion error is `dev` in 1/16 °C. -/
def execSweepSlot (slot raw : Nat) (dev : Int) (s : State) : Out :=
  if 18 < slot then .fault (.illFormed "SWEEP_SLOT")
  else if s.cel.running ∧ s.cel.apertures ≠ 0 ∧ ¬ hasBit s.cel.slots slot then
    let s : State := { s with cel := { s.cel with slots := setBit s.cel.slots slot } }
    let s := s.celSlot slot raw dev
    .next (if slot = 18 then s.celShow (celSweepWords s) else s)
  else .next s

/-! ## Commands to the cell side -/

/-- `CEL_PROT_CLEAR`: a CLEAR lands. Written while a condition is present it changes nothing (R402). -/
def execCelProtClear (s : State) : Out :=
  .next (s.onlyIf (s.cel.running && !celAny s && (s.cel.demand || s.hb.orphanDemand))
    (fun s => { s with cel := { s.cel with clearPend := true } }))

/-- The release of the demand (R402, R425): an orphan's demand ends only after it has rejoined. -/
def State.celRelease (s : State) : State :=
  let orphan := s.hb.orphanDemand && decide (s.hb.role = .orphan)
  let s := ({ s with cel := { s.cel with demand := false },
                     hb := { s.hb with orphanDemand := orphan } }).celLines
  if s.cel.lines then (s.setCel 2).raise .afe Ev.CELL_PROT_CLEARED 0 0 s.cel.epoch else s

/-- `PROT_CLEAR_EVAL` (R402). -/
def execProtClearEval (s : State) : Out :=
  if s.cel.running && s.cel.clearPend then
    let s : State := { s with cel := { s.cel with clearPend := false } }
    .next (if celAny s then s else s.celRelease)
  else .next s

/-- `COUL_ZERO` (R397). -/
def execCoulZero (s : State) : Out :=
  .next (s.onlyIf s.cel.running (fun s => { s with cel := { s.cel with coul := 0, coulRem := 0 } }))

/-- `BAL_REQ_WRITE` (R398). -/
def execBalReqWrite (data : Word) (s : State) : Out :=
  .next (s.onlyIf s.cel.running (fun s => s.setReg Reg.CEL_BAL_REQ (data &&& 0xFFF)))

/-- `BAL_EXPIRED` (R398). -/
def execBalExpired (s : State) : Out :=
  .next (s.onlyIf s.cel.running (fun s =>
    ((s.setReg Reg.CEL_BAL_REQ 0).setCel 64).raise .afe Ev.BAL_EXPIRED 0 0 s.cel.epoch))

/-- `PROT_LOCK_WRITE`: the first write of `CEL_PROT_LOCK` lands (R107, R403). -/
def execProtLockWrite (data : Word) (s : State) : Out :=
  .next (s.onlyIf (s.cel.running && !s.acc.written.contains Reg.CEL_PROT_LOCK) (fun s =>
    { (s.setReg Reg.CEL_PROT_LOCK (data &&& 1)) with
      acc := { s.acc with written := s.acc.written ++ [Reg.CEL_PROT_LOCK] } }))

/-! ## Start and stop of the cell side (R65) -/

/-- Addresses of the CEL and HBD windows, which no logic-side reset reaches (R78). -/
def isCellAddr (a : Nat) : Bool := decide (0xF0000 ≤ a) && decide (a < 0x110000)

/-- A cell-side power-on: the AFE die and the HBL domain take their reset state, their registers their reset
values, write-once registers are writable again, and a calibration run is due (R65, R502, R505). Where the archived
values fail their check the factory values apply, which the logic side reports while it runs. -/
def State.cellPowerOn (s : State) : State :=
  let arc := match calCopy s.arc.cal with
    | some m => m.filter (fun q => decide (0x80 ≤ q.1))
    | none => []
  let bad := s.arc.cal.isSome && (calCopy s.arc.cal).isNone
  let s : State := { s with
    cel := { logicLost := s.cel.logicLost, frozen := s.cel.frozen, shown := if s.pwr.barrierOk then [] else s.cel.shown }
    hb := {}
    cal := { s.cal with coef := s.cal.coef.filter (fun q => decide (q.1 < 0x80)) ++ arc }
    regs := s.regs.filter (fun q => !isCellAddr q.1)
    acc := { s.acc with written := s.acc.written.filter (fun a => !isCellAddr a) } }
  s.onlyIf (bad && s.awake) (fun s => s.calRestoreFail ((List.range 38).map (· + 0x80)))

/-- `CELL_SIDE_START`: VSTK rises through 8.0 V (R65). -/
def execCellSideStart (s : State) : Out := .next (s.onlyIf (!s.cel.running) State.cellPowerOn)

/-- `CELL_SIDE_STOP`: VSTK falls through 7.5 V (R65). The balance switches open and the Hatband ports send nothing
(R56). -/
def execCellSideStop (s : State) : Out :=
  .next { s with
    cel := { s.cel with running := false, lines := false, bal := 0, defer := 0 }, hb := { s.hb with echoDue := none } }

/-! ## Views -/

/-- Primary channels that have failed, as a mask. -/
def celPrimFail (s : State) : Nat := bitsOf 12 (fun n => (vget s.cel.cell n).fail)

/-- `CEL_PROT_STAT`. -/
def viewProtStat (s : State) : Word :=
  mkWord [(31, b2n s.cel.demand), (28, b2n s.cel.tlost),
    (24, bitsOf 4 (fun n => (vget s.cel.sensor n).ot)),
    (12, bitsOf 12 (fun n => (vget s.cel.cell n).uv.on)), (0, bitsOf 12 (fun n => (vget s.cel.cell n).ov.on))]

/-- `CEL_STAT`. -/
def viewCelStat (s : State) : Word :=
  mkWord [(16, bitsOf 4 (fun n => (vget s.cel.sensor n).failed)), (4, celPrimFail s), (3, b2n s.cel.iValid),
    (2, b2n (bitOf (s.reg Reg.CEL_PROT_LOCK) 0)), (1, b2n (!s.cel.lines)), (0, b2n (s.cel.running && s.pwr.barrierOk))]

/-- The CEL registers that are computed from the cell side's state. -/
def viewCelLive (s : State) (addr : Nat) : Option Word :=
  if addr = Reg.CEL_STAT then some (viewCelStat s)
  else if addr = Reg.CEL_COUL_LO then some (BitVec.ofNat 32 (toTwos 64 s.cel.coul))
  else if addr = Reg.CEL_COUL_HI then some (BitVec.ofNat 32 (toTwos 64 s.cel.coul / 2 ^ 32))
  else if addr = Reg.CEL_DCHG_LO then some (BitVec.ofNat 32 s.cel.dchg)
  else if addr = Reg.CEL_DCHG_HI then some (BitVec.ofNat 32 (s.cel.dchg / 2 ^ 32))
  else if addr = Reg.CEL_BAL_ACT then
    some (mkWord [(31, s.cel.apertures % 2), (16, s.cel.defer), (0, s.cel.bal)])
  else if addr = Reg.CEL_PROT_STAT then some (viewProtStat s)
  else if addr = Reg.CEL_PROT_CMD then some 0
  else if Reg.CEL_XCAL_D1 ≤ addr ∧ addr ≤ Reg.CEL_XCAL_D12 then
    let c := vget s.cel.cell ((addr - Reg.CEL_XCAL_D1) / 4)
    some (mkWord [(16, c.xWindows), (0, toTwos 16 c.xMean)])
  else none

/-- Result registers, which the mirror holds by epoch (R392, R393). -/
def isCelResult (addr : Nat) : Bool :=
  (decide (Reg.CEL_EPOCH ≤ addr) && decide (addr ≤ Reg.CEL_T4))

/-- The mirror of the CEL and HBD windows follows the cell side: not while the barrier channel is lost, and not in
stand-by (R81, R90, R564). -/
def mirrorLive (s : State) : Bool := s.pwr.barrierOk && !s.pwr.standby

/-- What the mirror shows of a CEL or HBD register that is `live` in the cell side. -/
def mirrored (s : State) (addr : Nat) (live : Word) : Word :=
  if mirrorLive s then live else kget 0 s.cel.frozen addr

/-- Cell results become unavailable on the logic side: VALID of every result and of `CEL_STAT` reads 0 (R38, R392). -/
def State.celUnavailable (s : State) : State :=
  let plain := fun (a : Nat) =>
    a == Reg.CEL_EPOCH || a == Reg.CEL_I || a == Reg.CEL_SSTK || a == Reg.CEL_SREF
  { s with cel := { s.cel with
      shown := (s.cel.shown.map (fun q => if plain q.1 then q else (q.1, q.2 &&& ~~~ (0x10000 : Word)))).filter
        (fun q => decide (q.2 ≠ 0))
      frozen := kput 0 s.cel.frozen Reg.CEL_STAT (kget 0 s.cel.frozen Reg.CEL_STAT &&& ~~~ (9 : Word)) } }

/-- The CEL registers as the mirror shows them (R90, R392, R564). -/
def viewCel (s : State) (addr : Nat) : Option Word :=
  if isCelResult addr then some (kget 0 s.cel.shown addr)
  else (viewCelLive s addr).map (mirrored s addr)

/-- `CEL_CTL`, `CEL_PROT_V` and `CEL_PROT_T` are frozen by `CEL_PROT_LOCK.LOCK` (R403). -/
def celFrozen (s : State) (addr : Nat) : Bool :=
  bitOf (s.reg Reg.CEL_PROT_LOCK) 0 &&
    (addr == Reg.CEL_CTL || addr == Reg.CEL_PROT_V || addr == Reg.CEL_PROT_T)

end Sys2Proof.Machine
end

