-- ==== Sys2Proof/Machine/Hatband.lean ====
section
/-! DEFINITION. The Hatband chain (R84, R407 to R431): frames, enumeration, delays, sweeps, breaks, string
decisions, transfer planning. A Boolean port is true for HB_UP and false for HB_DN. Delays are in 10 ns,
chain times in µs. -/

namespace Sys2Proof.Machine

/-! ## Frames (R408 to R411) -/

/-- The device takes part in the chain: it runs and has latched an address (R84). -/
def hbOn (s : State) : Bool := s.cel.running && s.hb.addr.isSome

/-- Its latched address. -/
def hbAddr (s : State) : Nat := s.hb.addr.getD 0

/-- It acts as a member: enumerated, its address right or not. -/
def hbMember (s : State) : Bool := hbOn s && (decide (s.hb.role = .member) || decide (s.hb.role = .addrFault))

/-- It acts as the head. -/
def hbHead (s : State) : Bool := hbOn s && decide (s.hb.role = .head)

/-- Header and payload of a frame as bytes (R409). -/
def hbBody (f : HbFrame) : List Nat :=
  [f.typ % 16 * 16 + f.alive % 16, b2n f.bcast * 128 + f.dst % 32, b2n f.dir * 128 + f.src % 32,
    f.payload.length % 256] ++ f.payload.map (· % 256)

/-- The bytes from the start delimiter on, the CRC-16 last (R408). -/
def hbBytes (f : HbFrame) : List Nat := [0xAB] ++ hbBody f ++ bytesBE 2 (crc16 (hbBody f))

/-- The level of the line in each half bit: Manchester coded, a 0 high then low and a 1 low then high (R408). -/
def manchester (bits : List Bool) : List Bool := bits.flatMap (fun b => [!b, b])

/-- The line in each half bit of a frame: 16 preamble bits 1010…10, then the bytes, most significant bit first
(R408). -/
def hbLine (f : HbFrame) : List Bool :=
  manchester ((0xAA :: 0xAA :: hbBytes f).flatMap (fun b => (List.range 8).map (fun i => b.testBit (7 - i))))

/-- What leaves for a frame of its own (R409, R410). -/
def State.hbOut (s : State) (up : Bool) (typ alive : Nat) (bcast : Bool) (dst : Nat) (payload : List Nat) : Output :=
  let f : HbFrame := { typ := typ, alive := alive, bcast := bcast, dst := dst, dir := !up, src := hbAddr s,
                       payload := payload }
  .hatband up false f (hbLine f)

/-- What leaves for a frame received on a port and repeated on the other (R411). -/
def hbAgain (up : Bool) (f : HbFrame) : Output := .hatband (!up) true f (hbLine f)

/-- A frame of its own, with the next ALIVE (R410). -/
def State.hbSend (s : State) (up : Bool) (typ : Nat) (bcast : Bool) (dst : Nat) (payload : List Nat) : State :=
  let a := wrapAdd 4 s.hb.alive 1
  ({ s with hb := { s.hb with alive := a } }).emit (s.hbOut up typ a bcast dst payload)

/-- A frame repeated onto the other port, unchanged (R411). -/
def State.hbRepeat (s : State) (up : Bool) (f : HbFrame) : State := s.emit (hbAgain up f)

/-- A frame whose SRC is 0 counts as hearing from the head, one that only passes through too (R424). -/
def State.hbHear (s : State) (f : HbFrame) : State :=
  if f.src = 0 then { s with hb := { s.hb with silentMs := 0 } } else s

/-- A millisecond without a frame of the head (R425). -/
def State.hbTick (s : State) : State :=
  if s.cel.running then { s with hb := { s.hb with silentMs := min 2000 (s.hb.silentMs + 1) } } else s

/-- ALIVE of a frame that the device acts on (R410): none where the frame is a repeat and is discarded. -/
def State.hbAccept (s : State) (f : HbFrame) : Bool × State :=
  let ok (s : State) : State := { s with hb := { s.hb with aliveOf := kset s.hb.aliveOf f.src f.alive } }
  match kfind s.hb.aliveOf f.src with
  | none => (true, ok s)
  | some a =>
    if f.alive = a then
      let s := s.setHbd 64
      if s.hb.aliveAt = some s.opsec then (false, s)
      else
        let s := s.raise .afe Ev.HBD_ALIVE f.src s.hb.sweep
        (false, { s with hb := { s.hb with aliveAt := some s.opsec } })
    else if f.alive = wrapAdd 4 a 1 then (true, ok s)
    else (true, (ok s).setHbd 128)

/-- The frame is for this device alone (R411). -/
def hbMine (s : State) (f : HbFrame) : Bool := !f.bcast && decide (f.dst = hbAddr s)

/-- A frame to a member (R411): for it alone, acted on; broadcast, repeated and acted on; else repeated. -/
def State.hbToMember (s : State) (up : Bool) (f : HbFrame) (act : State → State) : State :=
  if !hbMember s then s
  else if hbMine s f || f.bcast then
    let (ok, s) := (s.hbHear f).hbAccept f
    let s := if f.bcast then s.hbRepeat up f else s
    if ok then act s else s
  else (s.hbHear f).hbRepeat up f

/-- A frame that a member sends to the head; the head repeats no frame, a member between repeats what is not for
it alone (R411). -/
def State.hbToHead (s : State) (up : Bool) (f : HbFrame) (act : State → State) : State :=
  if hbHead s then
    (if hbMine s f || f.bcast then
      let (ok, s) := s.hbAccept f
      if ok then act s else s
    else s)
  else if hbMember s then (s.hbHear f).onlyIf (!hbMine s f) (fun s => s.hbRepeat up f)
  else s

/-- Byte `i` of a payload. -/
def pay (f : HbFrame) (i : Nat) : Nat := f.payload.getD i 0 % 256

/-- `n` bytes of a payload from byte `i`, most significant first (R408). -/
def payBE (f : HbFrame) (i n : Nat) : Nat := ((f.payload.drop i).take n).foldl (fun a b => a * 256 + b % 256) 0

/-- DIGEST of the chain-relevant configuration (R418). -/
def hbDigest (s : State) : Nat :=
  crc32c (([s.reg Reg.HBD_SWEEP, s.reg Reg.HBD_STRING &&& 0x1F, s.reg Reg.HBD_UNMON_TMO, s.reg Reg.CEL_PROT_V,
    s.reg Reg.CEL_PROT_T, s.reg Reg.CEL_CTL].map (fun w => bytesLE 4 w.toNat)).flatten)

/-! ## Address straps (R84) -/

/-- `HA_STRAP_SAMPLE`: four samples; agreeing ones are latched (R84). Address 0 then listens (R412). -/
def execHaStrapSample (samples : List Nat) (s : State) : Out :=
  match samples with
  | [a, b, c, d] =>
    if 31 < a ∨ 31 < b ∨ 31 < c ∨ 31 < d then .fault (.illFormed "HA_STRAP_SAMPLE")
    else if s.cel.running ∧ s.hb.addr = none ∧ a = b ∧ b = c ∧ c = d then
      .next { s with hb := { s.hb with addr := some a, listening := decide (a = 0) } }
    else .next s
  | _ => .fault (.illFormed "HA_STRAP_SAMPLE")

/-- `HA_STRAP_CHECK`: the straps against the latched address (R84). The event comes at every check that finds a
difference (log entry 82). -/
def execHaStrapCheck (strap : Nat) (s : State) : Out :=
  if 31 < strap then .fault (.illFormed "HA_STRAP_CHECK")
  else if hbOn s then
    (if strap = hbAddr s then .next { s with hb := { s.hb with addrMismatch := false } }
     else .next (({ s with hb := { s.hb with addrMismatch := true } }).raise .afe Ev.HBD_ADDR_CHANGED
        s.hb.pos s.hb.sweep))
  else .next s

/-! ## Enumeration (R412 to R414, R417) -/

/-- The record of a position, an empty one where there is none. -/
def memberAt (s : State) (p : Nat) : HbMember := (s.hb.members.find? (fun m => m.pos == p)).getD { pos := p }

/-- The record of a position replaced; records stand in position order. -/
def putMember (ms : List HbMember) (m : HbMember) : List HbMember :=
  ms.filter (fun x => decide (x.pos < m.pos)) ++ [m] ++ ms.filter (fun x => decide (m.pos < x.pos))

/-- A member record changed. -/
def State.modMember (s : State) (p : Nat) (f : HbMember → HbMember) : State :=
  { s with hb := { s.hb with members := putMember s.hb.members (f (memberAt s p)) } }

/-- The head begins an enumeration: ENUM on HB_UP with HOP 0 (R413); positions are re-learned (R430). -/
def State.hbEnumerate (s : State) : State :=
  let s := s.hbSend true 1 true 0 [0, 2]
  let ring := bitOf (s.reg Reg.HBD_CTL) 1
  let fresh : List HbMember := s.hb.members.map (fun m => { m with enumerated := m.pos == 0 })
  let s : State := { s with hb := { s.hb with
    enumDue := false, enumAlive := s.hb.alive, enumSent := true, aliveOf := [], members := fresh
    phase := if ring then .ringEnum else .ident 1 false } }
  if ring then s else s.hbSend true 2 false 1 [1]

/-- IDENT to a position through a port (R413). -/
def State.hbIdent (s : State) (p : Nat) (down : Bool) : State :=
  ({ s with hb := { s.hb with phase := .ident p down } }).hbSend (!down) 2 false p [p]

/-- Positions enumerated, in order, the head's own excepted. -/
def hbMembers (s : State) : List HbMember := s.hb.members.filter (fun m => m.enumerated && m.pos != 0)

/-- Delays are measured next, or SETUP follows where no position is left (R413 to R417). -/
def hbNextPing (s : State) (after : Option (Nat × Bool)) : Option (Nat × Bool) :=
  let ring := bitOf (s.reg Reg.HBD_CTL) 1 && !s.hb.ringBroken
  let want := (hbMembers s).flatMap (fun m => if ring then [(m.pos, false), (m.pos, true)] else [(m.pos, m.viaDn)])
  match after with
  | none => want.head?
  | some q => ((want.dropWhile (fun x => x != q)).drop 1).head?

/-- SETUP to a member (R415 to R417). -/
def State.hbSetup (s : State) (v : Nat) (m : HbMember) : State :=
  s.hbSend (!m.viaDn) 6 false m.addr
    ([m.pos] ++ bytesBE 2 m.delayUp ++ bytesBE 2 m.delayDn ++ [v, s.rfld Reg.HBD_STRING 0 5])

/-- The enumeration ends: the version in force, SETUP to every member, the count (R413, R417). -/
def State.hbEnumDone (s : State) : State :=
  let ms := hbMembers s
  let v := ms.foldl (fun a m => min a m.version) 2
  let fell := decide (v < s.hb.version)
  let n := ms.length + 1
  let s : State := { s with hb := { s.hb with
    version := v, phase := .idle, count := n, enumSent := false
    firstCount := if s.hb.firstCount = 0 then n else s.hb.firstCount } }
  let s := ms.foldl (fun s m => s.hbSetup v m) s
  let s := if fell then s.raise .afe Ev.CHAIN_VERSION 0 s.hb.sweep else s
  s.raise .afe Ev.CHAIN_ENUMERATED 0 s.hb.sweep

/-- The next PING, or the end of the enumeration. -/
def State.hbPings (s : State) (after : Option (Nat × Bool)) : State :=
  match hbNextPing s after with
  | none => s.hbEnumDone
  | some (p, down) =>
    ({ s with hb := { s.hb with phase := .ping p down [] } }).hbSend (!down) 4 false (memberAt s p).addr [p]

/-- The highest position that a search from the top of a ring begins at (R413): the device count less one. -/
def hbTop (s : State) : Nat :=
  let e := s.rfld Reg.HBD_CTL 24 8
  if e ≠ 0 then min e 32 - 1 else if s.hb.firstCount ≠ 0 then s.hb.firstCount - 1 else 31

/-- The identification of the next position: upward until one gives no reply, in a ring then downward from the
top to it (R413). -/
def State.hbIdentNext (s : State) (p : Nat) (down replied : Bool) : State :=
  let ring := bitOf (s.reg Reg.HBD_CTL) 1
  if !down then
    (if replied then (if p < 31 ∧ (s.hb.ringBroken ∨ ¬ ring ∨ p + 1 < s.hb.count) then s.hbIdent (p + 1) false
                      else s.hbPings none)
     else if ring && decide (p ≤ hbTop s) then s.hbIdent (hbTop s) true
     else s.hbPings none)
  else if replied && !(memberAt s (p - 1)).enumerated && decide (1 < p) then s.hbIdent (p - 1) true
  else s.hbPings none

/-- The device becomes a member at a position, or an address fault where its address is another (R413, R414);
an orphan rejoins (R425), and a head stops every head function (R412). -/
def State.hbJoin (s : State) (p : Nat) : State :=
  let bad := decide (hbAddr s ≠ p)
  let s : State := { s with hb := { s.hb with
    role := if bad then .addrFault else .member, pos := p, listening := false, phase := .idle
    aliveOf := [], members := [], count := 0, enumDue := false, enumSent := false, resweepDue := false } }
  if bad then (s.setHbd 2).raise .afe Ev.CHAIN_ADDR_FAULT p s.hb.sweep else s

/-- The device would take position 32 or more: it stays unenumerated (R413), and a head stops every head function
(R412). -/
def State.hbUnjoin (s : State) : State :=
  { s with hb := { s.hb with
    role := .unenumerated, listening := false, phase := .idle, aliveOf := [], members := [], count := 0
    enumDue := false, enumSent := false, resweepDue := false } }

/-- An ENUM on HB_DN is the return of the head's own (R412). -/
def hbOwnEnum (s : State) (f : HbFrame) (us : Nat) : Bool :=
  hbHead s && decide (us ≤ 2000) && s.hb.enumSent && decide (f.src = 0) && decide (f.alive = s.hb.enumAlive)

/-- `ENUM`: received on a port, `us` after the head's own last ENUM (R412, R413). -/
def execEnum (up : Bool) (f : HbFrame) (us : Nat) (s : State) : Out :=
  if f.payload.length ≠ 2 then .fault (.illFormed "ENUM")
  else if ¬ hbOn s then .next s
  else if up then .next (s.onlyIf (hbMember s) (fun s => s.hbHear f))
  else
    let hop := pay f 0
    if hbOwnEnum s f us then
      (match s.hb.phase with
       | .ringEnum =>
         .next (({ s with hb := { s.hb with count := hop + 1, ringBroken := false } }).hbIdent 1 false)
       | _ => .next s)
    else
      let (ok, s) := (s.hbHear f).hbAccept f
      if ok = false then .next s
      else if 32 ≤ hop + 1 then .next s.hbUnjoin
      else .next ((s.hbJoin (hop + 1)).hbRepeat up { f with payload := [hop + 1, pay f 1] })

/-- `IDENT`: the reply gives the position, the address, the highest version and DIGEST (R411, R413). -/
def execIdent (up : Bool) (f : HbFrame) (s : State) : Out :=
  if f.payload.length ≠ 1 then .fault (.illFormed "IDENT")
  else .next (s.hbToMember up f (fun s =>
    s.hbSend up 3 false 0 ([s.hb.pos, hbAddr s, 2] ++ bytesBE 4 (hbDigest s))))

/-- A member's digest against the head's own (R418): the event once for each change of it. -/
def State.hbDigestCheck (s : State) (p d : Nat) : State :=
  let m := memberAt s p
  let mis := decide (d ≠ hbDigest s)
  let changed := decide (d ≠ m.digest)
  let s := s.modMember p (fun m => { m with digest := d, cfgMis := mis })
  if mis && (changed || !m.cfgMis) then (s.setHbd 4).raise .afe Ev.CHAIN_CFG_MISMATCH p s.hb.sweep else s

/-- `IDENT_REPLY` (R413, R414, R418). -/
def execIdentReply (up : Bool) (f : HbFrame) (s : State) : Out :=
  if f.payload.length ≠ 7 then .fault (.illFormed "IDENT_REPLY")
  else .next (s.hbToHead up f (fun s =>
    match s.hb.phase with
    | .ident p down =>
      if pay f 0 = p ∧ up = !down then
        let bad := decide (pay f 1 ≠ p)
        let s := s.modMember p (fun m => { m with
          addr := pay f 1, enumerated := true, viaDn := down, out := bad, version := pay f 2 })
        let s := s.hbDigestCheck p (payBE f 3 4)
        let s := if bad then (s.setHbd 2).raise .afe Ev.CHAIN_ADDR_FAULT p s.hb.sweep else s
        s.hbIdentNext p down true
      else s
    | _ => s))

/-- `IDENT_TIMEOUT` (R413). -/
def execIdentTimeout (s : State) : Out :=
  match s.hb.phase with
  | .ident p down => .next (s.onlyIf (hbHead s) (fun s => s.hbIdentNext p down false))
  | _ => .next s

/-- `RING_ENUM_TIMEOUT` (R413). -/
def execRingEnumTimeout (s : State) : Out :=
  .next (s.onlyIf (hbHead s && decide (s.hb.phase = .ringEnum)) (fun s =>
    ({ s with hb := { s.hb with ringBroken := true, enumSent := false } }).hbIdent 1 false))

/-- `HEAD_LISTEN_END`: without an ENUM the device becomes the head and enumerates (R412). -/
def execHeadListenEnd (s : State) : Out :=
  .next (s.onlyIf (hbOn s && s.hb.listening) (fun s =>
    ({ s with hb := { s.hb with role := .head, pos := 0, listening := false
                                members := [{ pos := 0, enumerated := true }] } }).hbEnumerate))

/-- `REENUMERATE`: the interval ends (R412); the enumeration takes the place of the next sweep. -/
def execReenumerate (s : State) : Out :=
  .next (s.onlyIf (hbHead s && s.rfld Reg.HBD_CTL 16 8 != 0) (fun s => { s with hb := { s.hb with enumDue := true } }))

/-- `HBD_REENUM_CMD` (R412). -/
def execHbdReenumCmd (s : State) : Out :=
  .next (s.onlyIf (hbHead s) (fun s => { s with hb := { s.hb with enumDue := true } }))

/-! ## Delays (R415) -/

/-- `PING` (R415). -/
def execPing (up : Bool) (f : HbFrame) (s : State) : Out :=
  if f.payload.length ≠ 1 then .fault (.illFormed "PING")
  else .next (s.hbToMember up f (fun s => { s with hb := { s.hb with echoDue := some up } }))

/-- `ECHO_SEND`: 10.00 µs after the PING, on the port it came from (R411, R415). -/
def execEchoSend (s : State) : Out :=
  match s.hb.echoDue with
  | some up =>
    .next (s.onlyIf s.cel.running (fun s =>
      ({ s with hb := { s.hb with echoDue := none } }).hbSend up 5 false 0 [s.hb.pos]))
  | none => .next s

/-- The middle of four measured delays. -/
def median4 (l : List Nat) : Nat :=
  let m := l.mergeSort (fun a b => decide (a ≤ b))
  (roundNear ((m.getD 1 0 + m.getD 2 0 : Nat) : Int) 2).toNat

/-- `ECHO`: `rt` is the measured time in 10 ns (R415). -/
def execEcho (up : Bool) (f : HbFrame) (rt : Nat) (s : State) : Out :=
  if f.payload.length ≠ 1 then .fault (.illFormed "ECHO")
  else .next (s.hbToHead up f (fun s =>
    match s.hb.phase with
    | .ping p down got =>
      if pay f 0 = p ∧ up = !down then
        let got := got ++ [(openRound ((rt : Int) - 3000) 2).toNat]
        if got.length < 4 then
          ({ s with hb := { s.hb with phase := .ping p down got } }).hbSend up 4 false (memberAt s p).addr [p]
        else
          let d := median4 got
          let s := s.modMember p (fun m => if down then { m with delayDn := d } else { m with delayUp := d })
          s.hbPings (some (p, down))
      else s
    | _ => s))

/-- `SETUP` (R415, R417). -/
def execSetup (up : Bool) (f : HbFrame) (s : State) : Out :=
  if f.payload.length ≠ 7 then .fault (.illFormed "SETUP")
  else .next (s.hbToMember up f (fun s =>
    let v := pay f 5
    let fell := decide (v < s.hb.version)
    let s : State := { s with hb := { s.hb with
      delayUp := payBE f 1 2, delayDn := payBE f 3 2, version := v, split := pay f 6 } }
    if fell then s.raise .afe Ev.CHAIN_VERSION s.hb.pos s.hb.sweep else s))

/-! ## Sweeps (R416, R419 to R423) -/

/-- Positions to read, each with its port (R421, R422): ascending, those beyond a break through HB_DN. -/
def hbReadList (s : State) : List (Nat × Bool) :=
  let ms := (hbMembers s).filter (fun m => !m.out)
  (ms.filter (fun m => !m.viaDn)).map (fun m => (m.pos, false)) ++
  ((ms.filter (fun m => m.viaDn)).reverse).map (fun m => (m.pos, true))

/-- READ to a position (R421, R428), and what is left to read. -/
def State.hbRead (s : State) (l : List (Nat × Bool)) : State :=
  match l with
  | [] => { s with hb := { s.hb with phase := .reading none [] } }
  | (p, down) :: rest =>
    let m := memberAt s p
    let xv := m.x.isSome
    let s : State := { s with hb := { s.hb with phase := .reading (some (p, down)) rest } }
    let s := s.modMember p (fun m => { m with x := none })
    s.hbSend (!down) 8 false m.addr
      (bytesBE 4 s.hb.sweep ++ [p, toTwos 8 (m.x.getD 0), b2n xv, 0])

/-- Byte pairs of a member's last response. -/
def respBE (m : HbMember) (i n : Nat) : Nat := ((m.resp.drop i).take n).foldl (fun a b => a * 256 + b) 0

/-- A response reports a bit of bytes 8 and 9. -/
def respFlag (m : HbMember) (i : Nat) : Bool := hasBit (respBE m 8 2) i

/-- The string of a position (R427). -/
def hbStringOf (s : State) (p : Nat) : Nat :=
  let sp := s.rfld Reg.HBD_STRING 0 5
  if sp = 0 ∨ p < sp then 0 else 1

/-- A protective request of a string is active (R427). -/
def hbRequest (s : State) (n : Nat) : Bool :=
  (decide (n = 0) && s.cel.demand) ||
  s.hb.members.any (fun m => decide (hbStringOf s m.pos = n) &&
    (m.unmon || (m.resp != [] && (respFlag m 1 || respFlag m 2))))

/-- The decision of one string: latched, raised, and at the head its own lines (R427). -/
def State.hbDecide (s : State) (n : Nat) : State :=
  if hbRequest s n ∧ ¬ hasBit s.hb.strOpen n then
    let lead := if n = 0 then 0 else s.rfld Reg.HBD_STRING 0 5
    let s : State := { s with hb := { s.hb with
      strOpen := setBit s.hb.strOpen n, leadOpen := s.hb.leadOpen || decide (n = 0) } }
    (s.celLines).raise .afe Ev.STRING_OPEN lead s.hb.sweep
  else s

/-- `SWEEP_START`: the head's chain time `now` at the end of the TRIGGER and `phase`, the time since its last
aperture in 10 ns (R416, R421). An enumeration that is due takes the sweep's place (R412).
The string decisions are evaluated before the TRIGGER that carries them, and at the sweep's end (R427; log entry 101). -/
def execSweepStart (now phase : Nat) (s : State) : Out :=
  .next (s.onlyIf (hbHead s && decide (s.hb.phase = .idle)) (fun s =>
    if s.hb.enumDue then s.hbEnumerate
    else if !bitOf (s.reg Reg.HBD_CTL) 0 then s
    else
      let s := (s.hbDecide 0).hbDecide 1
      let lead := s.rfld Reg.HBD_SWEEP 16 10
      let n := wrapAdd 32 s.hb.sweep 1
      let again := s.hb.resweepDue
      let s : State := { s with
        hb := { s.hb with
          sweep := n, chainTime := now % 2 ^ 32, tap := wrapAdd 32 now lead, missRun := 0, breakUp := none, ownRead := false
          resweep := again, resweepDue := false
          resweeps := if again then satAdd 8 s.hb.resweeps 1 else s.hb.resweeps
          members := s.hb.members.map (fun m => { m with answered := false, split := false }) }
        cel := { s.cel with trigger := some (phase + lead * 100, phase) } }
      let pl := bytesBE 4 n ++ bytesBE 4 (now % 2 ^ 32) ++ bytesBE 2 lead ++ [s.hb.strOpen]
      let s := s.hbSend true 7 true 0 pl
      let s := if bitOf (s.reg Reg.HBD_CTL) 1 && s.hb.ringBroken then
        s.emit (s.hbOut false 7 s.hb.alive true 0 pl) else s
      s.hbRead (hbReadList s)))

/-- A string lead whose STR bit reads open stops its lines (R427). -/
def State.hbString (s : State) (bits : Nat) (lead1 : Bool) : State :=
  ({ s with hb := { s.hb with strOpen := bits % 4, leadOpen := lead1 && hasBit bits 1 } }).celLines

/-- A correction of the sweep number or of the chain time is counted and raised at most once per 10 s (R419). -/
def State.hbCorrected (s : State) : State :=
  let s : State := { s with hb := { s.hb with tcorr := true } }
  let due := match s.hb.corrAt with
    | none => true
    | some t => decide (t + 10 ≤ s.opsec)
  if due then
    ({ s with hb := { s.hb with corrAt := some s.opsec } }).raise .afe Ev.CHAIN_CORRECTION s.hb.pos s.hb.sweep
  else s

/-- `TRIGGER` at a member: `own` is its free-running chain time at the end of the frame and `phase` the time
since its last aperture in 10 ns (R416, R419, R427). -/
def execTrigger (up : Bool) (f : HbFrame) (own phase : Nat) (s : State) : Out :=
  if f.payload.length ≠ 11 then .fault (.illFormed "TRIGGER")
  else if ¬ hbMember s then .next s
  else if ¬ (hbMine s f || f.bcast) then .next ((s.hbHear f).hbRepeat up f)
  else
    let rep (s : State) := if f.bcast then s.hbRepeat up f else s
    let (ok, s) := (s.hbHear f).hbAccept f
    if ok = false then .next (rep s)
    else
      let d := if up then s.hb.delayDn else s.hb.delayUp
      let sweep := payBE f 0 4
      let set := payBE f 4 4 + d / 100
      let lead := payBE f 8 2
      let since := toTwos 32 ((own : Int) - s.hb.chainTime)
      let diff : Int := sext 32 (toTwos 32 ((set : Int) - own))
      let badSweep := s.hb.swept && decide (sweep ≠ wrapAdd 32 s.hb.sweep 1)
      let badTime := s.hb.swept && decide (1000 + since < diff.natAbs * 100)
      let s : State := { s with
        hb := { s.hb with
          sweep := sweep, chainTime := set % 2 ^ 32, swept := true, tcorr := false
          corrSweeps := if badSweep then satAdd 8 s.hb.corrSweeps 1 else s.hb.corrSweeps
          corrTimes := if badTime then satAdd 8 s.hb.corrTimes 1 else s.hb.corrTimes
          corrLast := if badTime then clampInt (-32768) 32767 diff else s.hb.corrLast }
        cel := { s.cel with trigger := some (phase + lead * 100 - d, phase) } }
      let s := if badSweep || badTime then s.hbCorrected else s
      let lead1 := decide (s.hb.split ≠ 0) && decide (s.hb.pos = s.hb.split)
      .next (rep (s.hbString (pay f 10) lead1))

/-- The flags of a response, bytes 8 and 9 (R420). -/
def hbFlags (s : State) (sampled : Bool) : Nat :=
  bitsOf 9 (fun i => match i with
    | 0 => !sampled
    | 1 => s.cel.demand
    | 2 => s.hb.orphanDemand
    | 3 => s.cel.logicLost
    | 4 => decide (celPrimFail s ≠ 0)
    | 5 => s.cel.refFault
    | 6 => s.cel.tlost
    | 7 => s.hb.docent.any (·.1) && !s.cel.logicLost
    | _ => s.hb.tcorr)

/-- Bytes 52 to 61 of a response: the Docent's, invalid while the barrier channel is down (R420). -/
def hbDocentBytes (s : State) : List Nat :=
  match s.cel.logicLost, s.hb.docent with
  | false, some b => padTo 0xFF 10 b.2
  | _, _ => List.replicate 10 0xFF

/-- The device has the results of the aperture of a sweep (R420). -/
def hbTook (s : State) (sweep : Nat) : Bool := s.hb.sample.any (fun r => decide (r.sweep = sweep))

/-- The invalid values (R420). -/
def hbNoSample : HbSample :=
  { sweep := 0, apt := 0xFFFFFFFF, cells := List.replicate 24 0xFF, current := bytesBE 4 0x80000000, vsum := [0xFF, 0xFF] }

/-- A response for a sweep (R420): 62 bytes, of which version 1 sends 54. -/
def hbResponse (s : State) (sweep : Nat) : List Nat :=
  let took := hbTook s sweep
  let r : HbSample := if took then s.hb.sample.getD hbNoSample else hbNoSample
  let temps := (List.range 4).flatMap (fun n =>
    bytesBE 2 (if took && celSensorValid s n then toTwos 16 (vget s.cel.sensor n).t else 0x8000))
  bytesBE 4 sweep ++ bytesBE 4 r.apt ++ bytesBE 2 (hbFlags s took) ++ bytesBE 4 (hbDigest s) ++ padTo 0xFF 24 r.cells ++
    padTo 0 4 r.current ++ temps ++ padTo 0xFF 2 r.vsum ++ (if took then hbDocentBytes s else List.replicate 10 0xFF)

/-- `READ`: the response, and X where it carries one (R420, R421, R429). -/
def execRead (up : Bool) (f : HbFrame) (s : State) : Out :=
  if f.payload.length ≠ 8 then .fault (.illFormed "READ")
  else .next (s.hbToMember up f (fun s =>
    let s : State := if hasBit (pay f 6) 0 then { s with hb := { s.hb with x := sext 8 (pay f 5), xHeld := true } } else s
    let s := s.takeReport
    let r := hbResponse s (payBE f 0 4)
    s.hbSend up 9 false 0 (if s.hb.version = 1 then r.take 54 else r)))

/-- The head reads its own results (R421 step 2). -/
def State.hbReadOwn (s : State) : State :=
  let s := s.takeReport
  let r := hbResponse s s.hb.sweep
  s.modMember 0 (fun m => { m with resp := r, answered := true, enumerated := true, digest := hbDigest s })

/-- The same once in a sweep, before any answer counts (log entry 101). -/
def State.hbOwnOnce (s : State) : State :=
  if s.hb.ownRead then s else ({ s with hb := { s.hb with ownRead := true } }).hbReadOwn

/-- `RESPONSE` at the head (R421, R423). A position that had been missing and answers again makes an
enumeration due (R412). -/
def execResponse (up : Bool) (f : HbFrame) (s : State) : Out :=
  if f.payload.length ≠ 62 ∧ f.payload.length ≠ 54 then .fault (.illFormed "RESPONSE")
  else .next (s.hbToHead up f (fun s =>
    match s.hb.phase with
    | .reading (some (p, down)) rest =>
      let s := s.hbOwnOnce
      let m := memberAt s p
      if f.src = m.addr ∧ up = !down then
        let r := padTo 0xFF 62 (f.payload.map (· % 256))
        let apt : Int := sext 32 (toTwos 32 (((respBE { m with resp := r } 4 4 : Nat) : Int) - s.hb.tap))
        let noSample := hasBit (respBE { m with resp := r } 8 2) 0
        let s := if m.missing then { s with hb := { s.hb with enumDue := true } } else s
        let s := s.modMember p (fun m => { m with
          resp := r, answered := true, missing := false, viaDn := down
          split := noSample || decide (2 < apt.natAbs) })
        let s := s.hbDigestCheck p (respBE { m with resp := r } 10 4)
        ({ s with hb := { s.hb with missRun := 0 } }).hbRead rest
      else s
    | _ => s))

/-- `RESPONSE_MISSING` (R422). In a ring the remaining positions are read through HB_DN from the top, then the
missing one again, and a later sweep reads them there; without a ring two in a row end the reading. -/
def execResponseMissing (s : State) : Out :=
  match s.hb.phase with
  | .reading (some (p, down)) rest =>
    .next (s.onlyIf (hbHead s) (fun s =>
      let s := s.hbOwnOnce
      let ring := bitOf (s.reg Reg.HBD_CTL) 1
      let s := s.setHbd 8
      let s := if ring && !down then s else s.modMember p (fun m => { m with missing := true })
      if ring && !down then
        let up := rest.filter (fun q => !q.2)
        let dn := rest.filter (fun q => q.2)
        let s : State := { s with hb := { s.hb with
          ringBroken := true, breakUp := some (s.hb.breakUp.getD (p - 1)) } }
        s.hbRead (dn ++ up.reverse.map (fun q => (q.1, true)) ++ [(p, true)])
      else if !ring && decide (1 ≤ s.hb.missRun) then
        let s := rest.foldl (fun s q => s.modMember q.1 (fun m => { m with missing := true })) s
        s.hbRead []
      else ({ s with hb := { s.hb with missRun := s.hb.missRun + 1 } }).hbRead rest))
  | _ => .next s

/-! ## String decisions (R426, R427) -/

/-- Devices in the string decision (R426). -/
def hbExpected (s : State) : Nat :=
  let e := s.rfld Reg.HBD_CTL 24 8
  if e ≠ 0 then min e 32 else s.hb.firstCount

/-- A position is silent in this sweep (R426). -/
def hbSilent (m : HbMember) : Bool :=
  !m.enumerated || !m.answered || m.out || respFlag m 0 || respFlag m 3 ||
    (List.range 12).all (fun i => respBE m (14 + 2 * i) 2 == 0xFFFF)

/-- Silence counts of one position (R426). -/
def State.hbSilence (s : State) (p : Nat) : State :=
  let m := memberAt s p
  if hbSilent m then
    let t := m.silence + s.rfld Reg.HBD_SWEEP 0 10
    let hit := decide (s.rfld Reg.HBD_UNMON_TMO 0 8 * 1000 ≤ t)
    let s := s.modMember p (fun m => { m with silent := true, silence := t, unmon := hit })
    if hit && !m.unmon then s.raise .afe Ev.SEGMENT_UNMONITORED p s.hb.sweep else s
  else s.modMember p (fun m => { m with silent := false, silence := 0, unmon := false })

/-! ## Transfer planning (R428) -/

/-- A position may take part in the plan. -/
def hbEligible (s : State) (m : HbMember) : Bool :=
  !m.silent && respFlag m 7 && !respFlag m 1 && !respFlag m 2 && respBE m 52 2 != 0xFFFF &&
    !hasBit s.hb.strOpen (hbStringOf s m.pos)

/-- The plan of one string: position and set-point (R428). `T` is scaled by 100 times the number of eligible
positions, so that the means are exact. -/
def hbPlan (s : State) (n : Nat) : List (Nat × Int) :=
  let ms := s.hb.members.filter (fun m => decide (hbStringOf s m.pos = n))
  let el := ms.filter (hbEligible s)
  let k : Int := el.length
  let inext (m : HbMember) : Int := sext 24 (respBE m 58 4)
  let soc (m : HbMember) : Int := respBE m 52 2
  let si := isum (el.map inext)
  let ss := isum (el.map soc)
  let ksoc : Int := s.rfld Reg.HBD_XFER_CTL 16 16
  let imax : Int := (s.rfld Reg.HBD_XFER_CTL 0 16 : Int) * 100 * k
  let t (m : HbMember) : Int := 100 * (k * inext m - si) + ksoc * (ss - k * soc m)
  let top : Int := el.foldl (fun a m => max a ((t m).natAbs : Int)) 0
  let x (m : HbMember) : Int :=
    if hbEligible s m then roundNear (127 * t m) (if top ≤ imax then imax else top) else 0
  ms.map (fun m => (m.pos, x m))

/-- The Docent of the head plans after a merged sweep (R428); its own set-point applies at once. -/
def State.hbPlanAll (s : State) : State :=
  if bitOf (s.reg Reg.HBD_CTL) 2 ∧ s.hb.version = 2 ∧ s.docentRuns ∧ s.pwr.barrierOk then
    (hbPlan s 0 ++ hbPlan s 1).foldl (fun s q =>
      if q.1 = 0 then { s with hb := { s.hb with x := q.2, xHeld := true } }
      else s.modMember q.1 (fun m => { m with x := some q.2 })) s
  else s

/-- The Docent copies the sweep's results into the HBD window, a head duty that pauses with it (R20, R420). -/
def State.hbCopy (s : State) : State :=
  if s.docentRuns ∧ s.pwr.barrierOk then { s with hb := { s.hb with window := s.hb.members } } else s

/-- `SWEEP_END` (R422, R423, R426 to R428). -/
def execSweepEnd (s : State) : Out :=
  match s.hb.phase with
  | .reading none [] =>
    .next (s.onlyIf (hbHead s) (fun s =>
      let s : State := s.hbOwnOnce
      let split : Bool := s.hb.members.any (fun m => m.answered && m.split)
      let miss := ((hbMembers s).filter (fun m => !m.answered && !m.out)).length
      let s : State := match s.hb.breakUp with
        | none => s
        | some u =>
          let dn := (s.hb.members.filter (fun (m : HbMember) => m.answered && decide (u < m.pos))).map (fun (m : HbMember) => m.pos)
          s.raise .afe Ev.CHAIN_BREAK u s.hb.sweep (u + (if dn.isEmpty then 0 else dn.foldl min 31) * 256)
      let s : State := { s with hb := { s.hb with
        phase := .idle, missing := miss, result := if split then 2 else 1
        resweepDue := split && !s.hb.resweep } }
      let s := if split then (s.setHbd 16).raise .afe Ev.SWEEP_SPLIT 0 s.hb.sweep else s
      let s := (List.range (hbExpected s)).foldl (fun s p => s.hbSilence p) s
      let s := (s.hbDecide 0).hbDecide 1
      (if split then s else s.hbPlanAll).hbCopy))
  | _ => .next s

/-- One string released: only while no request of it is active (R427). -/
def State.hbReleaseString (s : State) (n : Nat) : State :=
  if hasBit s.hb.strOpen n ∧ ¬ hbRequest s n then
    let lead := if n = 0 then 0 else s.rfld Reg.HBD_STRING 0 5
    let s : State := { s with hb := { s.hb with
      strOpen := clearBit s.hb.strOpen n, leadOpen := s.hb.leadOpen && decide (n ≠ 0) } }
    (s.celLines).raise .afe Ev.STRING_RELEASED lead s.hb.sweep
  else s

/-- `STRING_RELEASE`: a write of `HBD_STR_CMD` with RELEASE0 or RELEASE1 lands (R427). -/
def execStringRelease (data : Word) (s : State) : Out :=
  .next (s.onlyIf (hbHead s) (fun s =>
    let s := if acts data 0 then s.hbReleaseString 0 else s
    if acts data 1 then s.hbReleaseString 1 else s))

/-! ## Orphans, transfers, discarded and repeated frames -/

/-- `HBD_ORPHAN`: 2 s without hearing the head (R424, R425). -/
def execHbdOrphan (s : State) : Out :=
  .next (s.onlyIf (hbMember s && decide (2000 ≤ s.hb.silentMs)) (fun s =>
    let s := ({ s with hb := { s.hb with role := .orphan, orphanDemand := true, x := 0, xHeld := false }
                       cel := { s.cel with clearPend := false } }).celLines
    (s.setHbd 1).raise .afe Ev.HBD_ORPHAN s.hb.pos s.hb.sweep))

/-- No transfer takes place (R429). -/
def State.hbXferOff (s : State) : State := { s with hb := { s.hb with x := 0, xHeld := false } }

/-- `XFER_HOLD_EXPIRE` (R429). -/
def execXferHoldExpire (s : State) : Out := .next s.hbXferOff

/-- `HB_FRAME_DISCARD` (R408). -/
def execHbFrameDiscard (x : HbRaw) (s : State) : Out :=
  if hbGood x.bytes then .fault (.illFormed "HB_FRAME_DISCARD") else .next (s.onlyIf (hbOn s) (fun s => s.setHbd 32))

/-- The TYPE is one of the table (R411). -/
def hbKnown (f : HbFrame) : Bool := decide (1 ≤ f.typ) && decide (f.typ ≤ 9)

/-- `HB_FRAME_REPEAT` (R411): a member repeats what is not for it alone, and a frame of an unknown TYPE always. -/
def execHbFrameRepeat (up : Bool) (f : HbFrame) (s : State) : Out :=
  if 64 < f.payload.length then .fault (.illFormed "HB_FRAME_REPEAT")
  else .next (s.onlyIf (hbMember s) (fun s => (s.hbHear f).onlyIf (!hbMine s f || !hbKnown f) (fun s => s.hbRepeat up f)))

/-! ## Views -/

/-- Word `w` of the member record at a position (`HBD_MEM_DATA`). -/
def memWord (m : HbMember) (w : Nat) : Word :=
  if w = 0 then
    mkWord [(16, respBE m 8 2), (15, b2n m.cfgMis), (14, b2n m.silent), (13, b2n m.unmon), (8, m.addr % 32),
      (0, m.pos % 32)]
  else if w ≤ 15 then BitVec.ofNat 32 (ofBytesLE ((m.resp.drop (4 * (w - 1))).take 4))
  else if w = 16 then
    mkWord [(0, ofBytesLE ((m.resp.drop 60).take 2)), (24, min (m.silence / 1000) 255)]
  else 0

/-- The word that `HBD_MEM_INDEX` points at. -/
def memPortWord (s : State) : Word :=
  let i := s.rfld Reg.HBD_MEM_INDEX 0 10
  match s.hb.window.find? (fun m => m.pos == i / 32) with
  | none => 0
  | some m => memWord m (i % 32)

/-- A read of `HBD_MEM_DATA`: the word, and the index advanced (R93). -/
def memPort (s : State) : Word × State :=
  (memPortWord s, s.setRfld Reg.HBD_MEM_INDEX 0 10 (s.rfld Reg.HBD_MEM_INDEX 0 10 + 1))

/-- `HBD_MEM_DATA_ACCESS` (R420, R93). -/
def execHbdMemDataAccess (_r : Reader) (s : State) : Out := .next (memPort s).2

/-- Code of a role. -/
def roleCode : HbRole → Nat
  | .unenumerated => 0
  | .member => 1
  | .head => 2
  | .orphan => 3
  | .addrFault => 4

/-- High time of XFER in steps of 10 ns, 0 for constantly low (R429): low in a reset of the logic side (R50) and
without the barrier channel. -/
def xferHigh (s : State) : Nat :=
  if s.hb.x = 0 ∨ s.pwr.inReset ∨ ¬ s.pwr.barrierOk then 0 else (500 + roundNear (400 * s.hb.x) 127).toNat

/-- The HBD registers that are computed from the chain's state. -/
def viewHbdLive (s : State) (addr : Nat) : Option Word :=
  if addr = Reg.HBD_ADDR then
    some (mkWord [(9, b2n s.hb.addrMismatch), (8, b2n s.hb.addr.isSome), (0, hbAddr s)])
  else if addr = Reg.HBD_STAT then
    some (mkWord [(24, s.hb.strOpen), (22, b2n s.hb.ringBroken),
      (16, if s.hb.role = .head then s.hb.count else 0), (12, s.hb.version), (5, s.hb.pos % 32),
      (0, roleCode s.hb.role)])
  else if addr = Reg.HBD_STRING then
    some ((s.reg addr &&& 0x1F) ||| (if hbHead s then
      mkWord [(16, b2n (hbRequest s 0)), (17, b2n (hbRequest s 1))] else 0))
  else if addr = Reg.HBD_STR_CMD then some 0
  else if addr = Reg.HBD_SWEEPNO then some (BitVec.ofNat 32 s.hb.sweep)
  else if addr = Reg.HBD_SWP_RES then
    some (mkWord [(24, s.hb.resweeps), (16, s.hb.missing % 32), (0, s.hb.result)])
  else if addr = Reg.HBD_TCORR then
    some (mkWord [(24, s.hb.corrSweeps), (16, s.hb.corrTimes), (0, toTwos 16 s.hb.corrLast)])
  else if addr = Reg.HBD_DIGEST then some (BitVec.ofNat 32 (hbDigest s))
  else if addr = Reg.HBD_XFER then some (mkWord [(8, b2n s.hb.xHeld), (0, toTwos 8 s.hb.x)])
  else if addr = Reg.HBD_MEM_DATA then some (memPortWord s)
  else none

/-- The HBD registers as the mirror shows them (R90, R562). -/
def viewHbd (s : State) (addr : Nat) : Option Word := (viewHbdLive s addr).map (mirrored s addr)

/-- The registers of the CEL and HBD windows as the cell side holds them now, but for results and class C status. -/
def mirrorNow (s : State) : RegFile :=
  let part := fun (base : Nat) (rows : List RegRow) (live : Nat → Option Word) =>
    rows.filterMap (fun r =>
      let a := base + r.off
      let w := (live a).getD (s.reg a)
      if r.cls = .c ∨ isCelResult a ∨ w = 0 then none else some (a, w))
  part 0xF0000 rowsCEL (viewCelLive s) ++ part 0x100000 rowsHBD (viewHbdLive s)

end Sys2Proof.Machine
end

