-- ==== Sys2Proof/Machine/Power.lean ====
section
/-! DEFINITION. Supplies, clocks and reset (R60 to R84), the hard cut (R466), and the always-on counters (R66 to
R68). A reset is asserted by its source and released by `RESET_RELEASE`; while it is asserted the logic side holds
its reset state. -/

namespace Sys2Proof.Machine

/-! ## Always-on counters (R66 to R68) -/

/-- The counter slot that is written next. -/
def aonNext (s : State) : Nat := 1 - s.arc.aonLast % 2

/-- AON writes the slot not written last (R67). -/
def State.aonSave (s : State) : State :=
  let n := aonNext s
  { s with arc := { s.arc with aon := vset s.arc.aon n (some ⟨s.aon.opsec, s.aon.pwrcyc⟩), aonLast := n } }

/-- The slot that AON loads: the valid one of higher operating seconds, and of higher power-cycle count where both
are equal (R67, R68). -/
def aonBest (s : State) : Option AonSlot :=
  match vget s.arc.aon 0, vget s.arc.aon 1 with
  | some a, some b =>
    some (if b.opsec < a.opsec ∨ (a.opsec = b.opsec ∧ b.pwrcyc ≤ a.pwrcyc) then a else b)
  | some a, none => some a
  | none, b => b

/-- `AON_SLOT_WRITE`: 60 s of operating time have passed (R67). -/
def execAonSlotWrite (s : State) : Out := .next (s.onlyIf s.aon.running State.aonSave)

/-- `POWER_FAIL_SAVE`: a save that VIN does not carry through leaves its slot invalid (R68). -/
def execPowerFailSave (completes : Bool) (s : State) : Out :=
  .next (s.onlyIf s.aon.running (fun s =>
    if completes then s.aonSave
    else { s with arc := { s.arc with aon := vset s.arc.aon (aonNext s) none } }))

/-- A millisecond of operating time (R66). -/
def State.aonTick (s : State) : State :=
  if !s.aon.running then s
  else if s.aon.ms + 1 < 1000 then { s with aon := { s.aon with ms := s.aon.ms + 1 } }
  else { s with aon := { s.aon with ms := 0, opsec := satAdd 32 s.aon.opsec 1 } }

/-- A millisecond passes: what the empty queue's step does (log entry 5). -/
def State.tick (s : State) : State := s.aonTick.hbTick.closeTick

/-! ## What a logic-side reset leaves (R75, R77, R78) -/

/-- Addresses of the SAF window. -/
def isSafAddr (a : Nat) : Bool := decide (0x110000 ≤ a) && decide (a < 0x120000)

/-- Registers that the reset does not reach (R75, R78). -/
def keptRegs (s : State) (soft : Bool) : RegFile :=
  let kept := s.regs.filter (fun q => isCellAddr q.1 || (soft && isSafAddr q.1))
  if soft then kput 0 kept Reg.RAC_LOCK (s.reg Reg.RAC_LOCK &&& 0x80000) else kept

/-- Class C copies that the reset does not reach: `GLB_RST_CAUSE`, and the management port's at a soft reset. -/
def keptCopies (s : State) (soft : Bool) : RegFile :=
  s.cbits.filter (fun q => decide (q.1 / 8 = Reg.GLB_RST_CAUSE) || (soft && decide (q.1 % 8 = 4)))

/-- Events whose sources the reset does not reach keep waiting (R563). -/
def keptSource (soft : Bool) (src : Source) : Bool :=
  decide (src = .afe) || decide (src = .aon) ||
    (soft && (decide (src = .sfa) || decide (src = .sfb) || decide (src = .mgmt)))

/-- The supplies, clocks and holds while the reset is asserted. -/
def PowerState.reset (p : PowerState) (soft : Bool) (cause : Nat) : PowerState :=
  { p with
    inReset := true, soft := soft, legacyWindows := 0, viocHold := false, refOk := false, refBad := 0, refGood := 0
    refLost := false, scanLost := false, standby := false, docent := .off
    coreLock := soft && p.coreLock, memLock := soft && p.memLock, scanLock := soft && p.scanLock
    sfaLock := soft && p.sfaLock, cause := if p.inReset then p.cause ||| cause else cause }

/-- A blow that the reset cuts short leaves what it took open (R541; log entry 55). -/
def State.fuseAbort (s : State) : State :=
  match s.fuse.busy with
  | none => s
  | some (w, bits) =>
    let q := s.fresh
    { q.2 with fuse := { q.2.fuse with
        busy := none, blown := kput 0 s.fuse.blown w (kget 0 s.fuse.blown w ||| (bits &&& BitVec.ofNat 32 q.1)) } }

/-- A logic-side reset is asserted, soft or hard, with its cause bit (R75, R78). -/
def State.logicReset (s : State) (soft : Bool) (cause : Nat) : State :=
  let s := s.fuseAbort.snapCut
  let t : State := {
    pending := s.pending, out := s.out, free := s.free
    regs := keptRegs s soft, cbits := keptCopies s soft
    evt := { waiting := s.evt.waiting.filter (fun e => keptSource soft e.1) }
    aon := s.aon, pwr := s.pwr.reset soft cause
    acc := { written := s.acc.written.filter (fun a => isCellAddr a || (soft && isSafAddr a))
             qRdy := soft && s.acc.qRdy, qData := if soft then s.acc.qData else 0 }
    cel := s.cel, hb := s.hb
    saf := if soft then s.saf else {}
    cal := { coef := s.cal.coef.filter (fun q => decide (0x80 ≤ q.1)) }
    pat := { lfsr := s.scn.frame % 2 ^ 32 }
    fw := { running := s.arc.boot, boot := s.arc.boot }
    fuse := { blown := s.fuse.blown, sensed := s.fuse.sensed, eccBad := s.fuse.eccBad }
    dbg := s.dbg, arc := s.arc }
  t.setC Reg.GLB_RST_CAUSE cause

/-! ## Reset sources (R62, R64, R71, R75, R76) -/

/-- `POWER_ON_RESET`: AON loads its counters, counts the power cycle and writes a slot (R67, R75). Its own events
wait on, as those of the cell side do (R563). -/
def execPowerOnReset (s : State) : Out :=
  .next (s.onlyIf (!s.aon.running) (fun s =>
    let best := aonBest s
    let slot := best.getD ⟨0, 0⟩
    let s : State := { s with
      aon := { running := true, opsec := slot.opsec, pwrcyc := satAdd 32 slot.pwrcyc 1 }
      cbits := s.cbits.filter (fun q => decide (q.1 / 8 ≠ Reg.GLB_RST_CAUSE))
      pwr := { s.pwr with inReset := false, regulatorHold := false, xiOk := true, xiHold := false } }
    let s := (s.logicReset false 1).aonSave
    if best.isNone then s.raise .aon Ev.AON_RECORD_LOST else s))

/-- `SUPPLY_RESET`. -/
def execSupplyReset (s : State) : Out := .next (s.onlyIf s.aon.running (fun s => s.logicReset false 2))

/-- `AON_STOP`: below 3.00 V nothing of the logic side runs (R62). -/
def execAonStop (s : State) : Out :=
  .next (s.onlyIf s.aon.running (fun s =>
    let s := if s.pwr.inReset && !s.pwr.soft then s else s.logicReset false 2
    { s with aon := { s.aon with running := false } }))

/-- `REGULATOR_FAULT_RESET`: it holds until the regulators are back (R64). -/
def execRegulatorFaultReset (_r : Regulator) (s : State) : Out :=
  .next (s.onlyIf s.aon.running (fun s =>
    let s := s.logicReset false 4
    { s with pwr := { s.pwr with regulatorHold := true } }))

/-- `REGULATOR_FAULT_RELEASE`. -/
def execRegulatorFaultRelease (s : State) : Out := .next { s with pwr := { s.pwr with regulatorHold := false } }

/-- `XI_LOSS` (R71). -/
def execXiLoss (s : State) : Out :=
  .next (s.onlyIf s.aon.running (fun s =>
    let s := s.logicReset false 8
    { s with pwr := { s.pwr with xiOk := false, xiHold := true } }))

/-- `XI_LOSS_RELEASE`: XI has run within ±1 % for 10 ms. -/
def execXiLossRelease (s : State) : Out := .next { s with pwr := { s.pwr with xiOk := true, xiHold := false } }

/-- What is under way on the display side ends: the upload, the swap, the status read and the round of diagnostics
(R52, R62, R466; log entry 56). -/
def State.holdOutputs (s : State) : State :=
  let lost := decide (s.dia.phase ≠ .idle)
  let s := s.rowRest
  let s : State := { s with
    scn := { s.scn with
      upload := none, swapSent := false, gateLine := 0
      skipped := if s.scn.upload.isSome then (s.scn.frame + 1) :: s.scn.skipped else s.scn.skipped }
    cch := { s.cch with lastLineValid := false, statBusy := false } }
  s.onlyIf lost State.discardRound

/-- Stand-by ends: the domains resume with a reload of the drivers, the readers see WAKE, and what the cell side has
to report crosses (R75, R81, R534, R562). -/
def State.wake (s : State) : State :=
  let s : State := { s with pwr := { s.pwr with standby := false }, cmt := { s.cmt with reload := true } }
  let s : State := if s.pwr.barrierOk then { s with cel := { s.cel with frozen := [] } } else s.celUnavailable
  (s.setC Reg.GLB_RST_CAUSE 64).flushErr

/-- `STANDBY_EXIT`: by a management frame, which is itself dropped, or by RST_N (R81). -/
def execStandbyExit (byPin : Bool) (s : State) : Out :=
  .next (s.onlyIf (s.pwr.standby && !s.pwr.inReset) (fun s =>
    let s := s.wake
    if byPin then s else s.setC1 Reg.RAC_STATUS 4 1))

/-- What an access of the management port meets while CORE does not take it: in a soft reset, and until the CORE PLL
has locked, it is dropped; in stand-by it ends stand-by and is dropped; in any other reset MGMT is reset too (R70, R78,
R81; log entry 60). -/
def State.mgmtDropped (s : State) : State :=
  if s.pwr.inReset && !s.pwr.soft then s
  else (if s.pwr.standby && !s.pwr.inReset then s.wake else s).setC1 Reg.RAC_STATUS 4 1

/-- An access of the management port that CORE carries out. -/
def State.byMgmt (s : State) (f : State → State) : State := if s.awake then f s else s.mgmtDropped

/-- `PIN_RESET`: RST_N low for `ns`; between 100 ns and 1 µs the pulse acts or not, and one that acts in stand-by
only ends it (R76, R81). -/
def execPinReset (ns : Nat) (act : Bool) (s : State) : Out :=
  .next (s.onlyIf (s.aon.running && (decide (1000 ≤ ns) || (act && decide (100 ≤ ns)))) (fun s =>
    if ns < 1000 ∧ s.pwr.standby ∧ ¬ s.pwr.inReset then s.wake else s.logicReset false 16))

/-! ## `GLB_RST_CTL` (R80, R81) -/

/-- Stand-by begins; the mirrors of the cell side stand still (R81). -/
def State.standbyEnter (s : State) : State :=
  let s := s.holdOutputs
  let s : State := { s with
    cel := if s.pwr.barrierOk then { s.cel with frozen := mirrorNow s } else s.cel
    pix := { s.pix with composing := none, composed := [] }
    cur := { s.cur with reading := [] }
    pwr := { s.pwr with standby := true, coreLock := false, memLock := false, scanLock := false, scanLost := false } }
  (List.range 4).foldl (fun (s : State) p =>
    if (vget s.port p).st = .disabled then s else s.portDown p .disabled) s

/-- A write of `GLB_RST_CTL` by the management port (R80). -/
def State.rstCtlWrite (s : State) (data : Word) : State :=
  if !keyed data 0x5A then s
  else if acts data 0 then s.logicReset true 32
  else if acts data 1 then s.standbyEnter
  else s

/-- `SOFT_RESET` (R80). -/
def execSoftReset (data : Word) (s : State) : Out := .next (s.byMgmt (fun s => s.rstCtlWrite data))

/-- `STANDBY_ENTER` (R80, R81). -/
def execStandbyEnter (data : Word) (s : State) : Out := .next (s.byMgmt (fun s => s.rstCtlWrite data))

/-! ## Release (R79, R82, R83) -/

/-- The VIOC class of a voltage in millivolts (R60, R83). -/
def viocClassOf (mv : Nat) : Nat :=
  if 1710 ≤ mv ∧ mv ≤ 1890 then 0
  else if 2375 ≤ mv ∧ mv ≤ 2625 then 1
  else if 3135 ≤ mv ∧ mv ≤ 3465 then 2
  else 3

/-- Ports whose `YZL_PORT_CTL` lets them leave DISABLED start (R70, R124). -/
def State.startPorts (s : State) : State := (List.range 4).foldl (fun (s : State) p => s.portStart p) s

/-- The release of the logic side with its mode and class settled: fuses are sensed, calibration is restored, the
arbiter's first event is raised, and a VIOC outside the class window or an absent VDDA_L is reported (R62, R79, R82, R83,
R483, R505, R539). A soft reset latches no class and samples no mode; a class or a rail that it finds bad is reported
again (log entry 76). -/
def State.release (s : State) (viocMv : Nat) (eccBad : List Nat) : State :=
  let sampled := !s.pwr.soft
  let cls := if s.pwr.soft then s.pwr.viocClass else viocClassOf viocMv
  let viocOk := decide (cls < 3) && decide (viocClassOf viocMv = cls)
  let s : State := { s with
    pwr := { s.pwr with
      inReset := false, soft := false, legacyWindows := 0, viocClass := cls
      viocOk := viocOk, viocHold := decide (cls < 3) && !viocOk }
    port := Vector.ofFn (fun _ : Fin 4 => { rate := !s.pwr.legacy }) }
  let s := s.raise .core Ev.SYSTEM_START 0 s.pwr.cause s.aon.pwrcyc (s.glbMode % 256)
  let s := if sampled && s.pwr.legacyUnst then s.raise .core Ev.LEGACY_UNSTABLE else s
  let s := if viocOk then s else s.raise .core Ev.VIOC_FAULT
  let s := if s.pwr.vddaOk then s else s.raise .core Ev.VDDA_FAULT
  let s := ((s.fuseSense eccBad).calRestore).flushErr
  s.startPorts

/-- Nothing holds the reset any more (R64, R71). -/
def mayRelease (s : State) : Bool := s.pwr.inReset && s.aon.running && !s.pwr.regulatorHold && !s.pwr.xiHold

/-- All ten samples of LEGACY agree (R82). -/
def samplesAgree (samples : List Bool) : Bool := samples.all id || samples.all (fun b => !b)

/-- Operands of a sampling window: ten samples, and fuse words of the array. -/
def samplesBad (samples : List Bool) (eccBad : List Nat) : Bool :=
  samples.length != 10 || eccBad.any (fun w => decide (98 < w))

/-- `RESET_RELEASE`: a release that does not sample LEGACY keeps the mode; disagreeing samples delay it (R79, R82). -/
def execResetRelease (samples : List Bool) (viocMv : Nat) (eccBad : List Nat) (s : State) : Out :=
  if samplesBad samples eccBad then .fault (.illFormed "RESET_RELEASE")
  else .next (s.onlyIf (mayRelease s && decide (s.pwr.legacyWindows = 0)) (fun s =>
    if s.pwr.soft then s.release viocMv eccBad
    else if samplesAgree samples then
      ({ s with pwr := { s.pwr with legacy := samples.all id, legacyUnst := false } } : State).release viocMv eccBad
    else { s with pwr := { s.pwr with legacyWindows := 1 } }))

/-- `LEGACY_RESAMPLE`: the next window; the 16th without agreement starts native mode (R82). -/
def execLegacyResample (samples : List Bool) (viocMv : Nat) (eccBad : List Nat) (s : State) : Out :=
  if samplesBad samples eccBad then .fault (.illFormed "LEGACY_RESAMPLE")
  else .next (s.onlyIf (mayRelease s && decide (1 ≤ s.pwr.legacyWindows)) (fun s =>
    if samplesAgree samples then
      ({ s with pwr := { s.pwr with legacy := samples.all id, legacyUnst := false } } : State).release viocMv eccBad
    else if 16 ≤ s.pwr.legacyWindows + 1 then
      ({ s with pwr := { s.pwr with legacy := false, legacyUnst := true } } : State).release viocMv eccBad
    else { s with pwr := { s.pwr with legacyWindows := s.pwr.legacyWindows + 1 } }))

/-- `PLL_LOCK`: the domain leaves its reset (R70). -/
def execPllLock (d : Pll) (s : State) : Out :=
  .next (s.onlyIf s.released (fun s =>
    match d with
    | .core =>
      let s : State := { s with pwr := { s.pwr with coreLock := true } }
      s.startPorts
    | .mem => { s with pwr := { s.pwr with memLock := true } }
    | .scan => { s with pwr := { s.pwr with scanLock := true, scanLost := false } }
    | .sfa => { s with pwr := { s.pwr with sfaLock := true } }))

/-! ## Rails and REFCLK (R62, R72) -/

/-- `VIOC_FAULT`: the R52 hold drives the VIOC bank low (R62). -/
def execViocFault (s : State) : Out :=
  .next (s.onlyIf (s.released && s.pwr.viocOk) (fun s =>
    let s : State := { s with pwr := { s.pwr with viocOk := false, viocHold := true } }
    s.holdOutputs.raise .core Ev.VIOC_FAULT))

/-- `VIOC_RESUME`: operation resumes at this boundary with two dark frames and a reload (R62, R333). -/
def execViocResume (s : State) : Out :=
  .next (s.onlyIf (s.released && s.pwr.viocHold && decide (s.pwr.viocClass < 3)) (fun s =>
    { s with pwr := { s.pwr with viocOk := true, viocHold := false }, cmt := { s.cmt with reload := true } }))

/-- `VDDA_FAULT`: every port goes down (R62). -/
def execVddaFault (s : State) : Out :=
  .next (s.onlyIf (s.released && s.pwr.vddaOk) (fun s =>
    let s : State := { s with pwr := { s.pwr with vddaOk := false } }
    ((List.range 4).foldl (fun (s : State) p => s.portIdle p) s).raise .core Ev.VDDA_FAULT))

/-- Ports that wait for REFCLK or VDDA_L begin their bring-up again. -/
def State.idleTrain (s : State) : State :=
  (List.range 4).foldl (fun (s : State) p =>
    s.onlyIf (decide ((vget s.port p).st = .idleWait)) (fun s => s.portTrain p)) s

/-- `VDDA_RESTORE`: 1 ms after the rail returns. -/
def execVddaRestore (s : State) : Out :=
  .next (s.onlyIf (s.released && !s.pwr.vddaOk) (fun s =>
    ({ s with pwr := { s.pwr with vddaOk := true } } : State).idleTrain))

/-- The window is within −0.515 % to +0.015 % of nominal; one without edges is not (R72). -/
def refGood (ppm : Option Int) : Bool := ppm.any (fun p => decide (-5150 ≤ p) && decide (p ≤ 150))

/-- `REFCLK_WINDOW`: a window of 100 µs (R72). -/
def execRefclkWindow (ppm : Option Int) (s : State) : Out :=
  .next (s.onlyIf s.released (fun s =>
    if refGood ppm then
      let n := s.pwr.refGood + 1
      if s.pwr.refLost ∧ 3 ≤ n then
        ({ s with pwr := { s.pwr with refOk := true, refBad := 0, refGood := 0, refLost := false } } : State).idleTrain
      else { s with pwr := { s.pwr with refOk := true, refBad := 0, refGood := min 3 n } }
    else
      let n := s.pwr.refBad + 1
      let s : State := { s with pwr := { s.pwr with refOk := false, refBad := min 3 n, refGood := 0 } }
      if !s.pwr.refLost && decide (3 ≤ n) then
        let s : State := { s with pwr := { s.pwr with refLost := true } }
        ((List.range 4).foldl (fun (s : State) p => s.portIdle p) s).raise .core Ev.REFCLK_LOST
      else s))

/-! ## Hard cut (R466) -/

/-- `THERMAL_HARD_CUT`: a die reaches 125 °C; the event carries that value (log entry 57). -/
def execThermalHardCut (die : Fin 4) (s : State) : Out :=
  .next (s.onlyIf (s.released && !s.thm.hardCut) (fun s =>
    let s : State := { s with thm := { s.thm with hardCut := true } }
    let s := s.holdOutputs.setC Reg.THM_ERR 8
    s.raise .core Ev.THERMAL_HARD_CUT (8 + die.val) (thmData s 2000 0)))

/-- The conditions of R464 hold at this moment. -/
def stopHolds (s : State) : Bool :=
  (lampsOn s).any (fun n => decide (stopLamp s ≤ (vget s.thm.lamp n).eff)) ||
    s.thm.die.toList.any (fun t => decide (stopDie s ≤ t))

/-- `HARD_CUT_RELEASE`: the tile starts at level 4, in the orderly stop where its conditions hold (R466). -/
def execHardCutRelease (s : State) : Out :=
  .next (s.onlyIf (s.released && s.thm.hardCut) (fun s =>
    let s : State := { s with thm := { s.thm with hardCut := false }, cmt := { s.cmt with reload := true } }
    let s := if s.thm.level = 4 then s else s.thmSetLevel 4 (stopZone s)
    s.onlyIf (decide (s.thm.stop = .none) && stopHolds s) State.thmStop))

/-! ## Registers -/

/-- `GLB_CLK_STAT`: its bits hold their reset value 0 until CORE has left its reset, `XI_OK` until the logic side has
(R70, R74; log entry 71). -/
def viewClkStat (s : State) : Word :=
  let on := !s.pwr.inReset && s.pwr.coreLock
  mkWord [(5, b2n (on && s.pwr.viocOk)), (4, b2n (on && s.pwr.vddaOk)), (3, b2n (decide (s.scn.genlock = .track))),
    (2, b2n s.pwr.scanLock), (1, b2n (on && s.pwr.refOk)), (0, b2n (!s.pwr.inReset && s.pwr.xiOk))]

/-- A standby context drives its pair (R198). -/
def failoverActive (s : State) : Bool :=
  (List.range 4).any (fun c => decide (hcxRole s c = 2) && (pairOf s c).isSome && ctxActive s c)

/-- `GLB_DEGRADED`: the degraded modes in force (R514). -/
def viewDegraded (s : State) : Word :=
  let ports := s.port.toList
  BitVec.ofNat 32 (flagsWord [s.cur.retired != 0,
    ports.any (fun q => decide (q.st = .up) && q.active != 3), ports.any (fun q => q.down), s.cur.shrunk,
    s.cch.lane.toList.any (fun c => c.broken), s.scn.glkLost,
    s.thm.level != 0 || decide (s.thm.stop ≠ .none) || s.thm.hardCut, s.dia.concealHigh, failoverActive s,
    s.fw.previous])

/-- The registers of the GLB window that this file shows. -/
def viewPower (s : State) (addr : Nat) : Option Word :=
  if addr = Reg.GLB_RST_CTL then some 0
  else if addr = Reg.GLB_MODE then some (BitVec.ofNat 32 s.glbMode)
  else if addr = Reg.GLB_CLK_STAT then some (viewClkStat s)
  else if addr = Reg.GLB_OPSEC then some (BitVec.ofNat 32 s.aon.opsec)
  else if addr = Reg.GLB_PWRCYC then some (BitVec.ofNat 32 s.aon.pwrcyc)
  else if addr = Reg.GLB_DEGRADED then some (viewDegraded s)
  else none

end Sys2Proof.Machine
end

