-- ==== Sys2Proof/Machine/Query.lean ====
section
/-! DEFINITION. QUERY (R184, R354, R385): results, their writes to host memory, and the completion that follows when the
host has acknowledged them. -/

namespace Sys2Proof.Machine

/-! ## Results -/

/-- Item 0x00: the context. -/
def queryContext (s : State) (c : Nat) : List Nat :=
  let q := vget s.ctx c
  bytesLE 2 q.sqHead ++ bytesLE 2 q.cqTail ++ bytesLE 2 q.eqTail ++ bytesLE 2 (pendingCount s c) ++
    bytesLE 4 (divCeil (ctxPages s c) 128) ++ bytesLE 4 (ctxHandles s c) ++ bytesLE 6 s.scn.frame ++
    [b2n (ctxActive s c)] ++ List.replicate 9 0

/-- A load of a handle that is in steps 2 to 4 of R204. -/
def ingestOf (s : State) (c h : Nat) : Option Ingest :=
  (vget s.ctx c).ingests.find? (fun g => g.handle == h && !g.queued)

/-- State and size of a handle: 1 with the size of the load while one is past its admission (R204), 2 with the size of the
content, or 0. The size of an absent handle is a free value, for the spec states none. -/
def State.handleState (s : State) (c h : Nat) : Nat × Nat × State :=
  match ingestOf s c h, findSurface s c h with
  | some g, _ => (1, g.size, s)
  | none, some x => (2, surfaceBytes x.fmt x.width x.height, s)
  | none, none => (0, s.fresh)

/-- Item 0x01: a handle. The last frame of one that no frame has shown is a free value, for the spec states none. -/
def State.queryHandle (s : State) (c h : Nat) : List Nat × State :=
  let x := s.handleState c h
  let last := match findSurface s c h with
    | some y => if y.seen then (y.shown, x.2.2) else x.2.2.fresh
    | none => x.2.2.fresh
  (bytesLE 4 x.1 ++ bytesLE 4 x.2.1 ++ bytesLE 4 last.1 ++ [0, 0, 0, 0], last.2)

/-- Item 0x02: the frame. GENLOCK reads 1 in TRACK. -/
def queryFrame (s : State) : List Nat :=
  bytesLE 6 s.scn.frame ++ [0, 0] ++ bytesLE 4 (openRound ((5 * framePeriod s : Nat) : Int) 2).toNat ++
    [b2n (decide (s.scn.genlock = .track)), 0, 0, 0]

/-- The result of a QUERY, truncated to its LENGTH. -/
def State.queryResult (s : State) (c : Nat) (d : Desc) : List Nat × State :=
  let r :=
    match d.bits 4 0 8 with
    | 0 => (queryContext s c, s)
    | 1 => s.queryHandle c (d.word 5)
    | 2 => (queryFrame s, s)
    | 3 => (queryFaults s (d.word 5), s)
    | _ => (queryEnergy s, s)
  (r.1.take (d.word 8), r.2)

/-! ## Writing -/

/-- Posted packets of a port that the host has not acknowledged. -/
def postedOut (s : State) (p : Nat) : Nat :=
  let q := vget s.port p
  (q.replay.filter (fun x => x.2.pool == 0)).length + (q.txWait.filter (fun k => k.pool == 0)).length

/-- The result of a QUERY taken and written; it waits for its acknowledgement. -/
def State.queryWrite (s : State) (c : Nat) (d : Desc) : Nat × State :=
  let r := s.queryResult c d
  let s := r.2.hostWrite c (d.long 6) r.1
  (postedOut s c, s)

/-- A QUERY of the context is accepted. Region 0 of the fault map is there in every geometry (R351, R354; log entry 34). -/
def State.query (s : State) (c : Nat) (d : Desc) : State :=
  if d.bits 4 0 8 = 3 ∧ d.word 5 ≠ 0 ∧ emitterCount s ≤ 8192 * d.word 5 then s.refuse c d stBadField
  else if portUp s c then
    let r := s.queryWrite c d
    r.2.modCtx c (fun q => { q with queries := q.queries ++ [(d, some r.1)] })
  else s.modCtx c (fun q => { q with queries := q.queries ++ [(d, none)] })

/-- `QUERY`. -/
def execQuery (c : Fin 4) (s : State) : Out :=
  .next (s.onlyIf s.awake (fun s => s.descriptor c (fun op => op == 8) (fun d s => s.query c d)))

/-- The first QUERY of a list that waits gets a mark. -/
def markFirst (n : Nat) : List (Desc × Option Nat) → List (Desc × Option Nat)
  | [] => []
  | (d, none) :: l => (d, some n) :: l
  | (d, some k) :: l => (d, some k) :: markFirst n l

/-- `QUERY_RESUME`: the first QUERY that waits is taken afresh once its port is UP. -/
def execQueryResume (c : Fin 4) (s : State) : Out :=
  .next (s.onlyIf (s.awake && portUp s c) (fun s =>
    match (vget s.ctx c).queries.find? (fun x => x.2.isNone) with
    | none => s
    | some x =>
      let r := s.queryWrite c x.1
      r.2.modCtx c (fun q => { q with queries := markFirst r.1 q.queries })))

/-- The host has acknowledged `n` posted packets of a port: a QUERY whose last one is among them completes, with the
words written in DETAIL (R189, R190). -/
def State.queriesAcked (s : State) (p n : Nat) : State :=
  let size := fun (d : Desc) =>
    let full := match d.bits 4 0 8 with
      | 0 => 32
      | 1 => 16
      | 2 => 16
      | 3 => 2064
      | _ => 32
    min full (d.word 8)
  let step := fun (x : Desc × Option Nat) => (x.1, x.2.map (fun k => k - n))
  let all := (vget s.ctx p).queries.map step
  let done := all.filter (fun x => x.2 == some 0)
  let s := s.modCtx p (fun q => { q with queries := all.filter (fun x => x.2 != some 0) })
  done.foldl (fun (s : State) x => s.complete p x.1 stOk 0 false false (size x.1 / 4)) s

end Sys2Proof.Machine
end

