-- ==== Sys2Proof/Machine/RegView.lean ====
section
/-! DEFINITION. What a read of a register returns, for every window of R109, and what a write of a register does once it
has passed the checks of R95. -/

namespace Sys2Proof.Machine

/-! ## Native addresses (R110) -/

/-- The native address behind an alias; none where the alias window has nothing (R110). -/
def aliasTarget (addr : Nat) : Option Nat :=
  let off := addr % 0x1000
  match (addr - 0x800000) / 0x1000 with
  | 0 => some off
  | 1 => some (0x10000 + off)
  | 2 => if off < 0x400 then some (0x20000 + off) else none
  | 3 => if off < 0x800 then some (0x40000 + off) else none
  | 4 => some (0x50000 + off)
  | 5 => some (0x60000 + off)
  | 6 => some (0x70000 + off)
  | 7 => some (0xF0000 + off)
  | 8 => some (0x110000 + off)
  | 9 => some (0xC0000 + off)
  | _ => none

/-- The native address of an access; the alias window exists in legacy mode only. -/
def nativeAddr (s : State) (addr : Nat) : Option Nat :=
  if 0x800000 ≤ addr ∧ addr < 0x810000 then (if s.pwr.legacy then aliasTarget addr else none) else some addr

/-- The register that holds a byte address, with its native word address (R95, check 1). -/
def regOf (s : State) (addr : Nat) : Option (Nat × Nat × Nat × RegRow) :=
  match nativeAddr s addr with
  | none => none
  | some a =>
    match rowAt (a - a % 4) with
    | none => none
    | some (w, n, r) => some (a - a % 4, w, n, r)

/-- The slow domain that holds a register (R96, R97). -/
def slowOf (win addr : Nat) : Option Slow :=
  if win = 8 ∨ win = 9 then some .scan
  else if win = 5 ∧ 0x38000 ≤ addr then some .mem
  else if win = 17 then some .afe
  else if win = 18 then some .hbl
  else if win = 19 then some .sfa
  else none

/-! ## Registers that show state -/

/-- Writes between CORE and a slow domain. -/
def AccessState.q (a : AccessState) : Slow → List Posted
  | .scan => a.scanQ
  | .mem => a.memQ
  | .afe => a.afeQ
  | .hbl => a.hblQ
  | .sfa => a.sfaQ

/-- The writes of one domain replaced. -/
def AccessState.putQ (a : AccessState) (d : Slow) (l : List Posted) : AccessState :=
  match d with
  | .scan => { a with scanQ := l }
  | .mem => { a with memQ := l }
  | .afe => { a with afeQ := l }
  | .hbl => { a with hblQ := l }
  | .sfa => { a with sfaQ := l }

/-- The holding register of a domain is occupied (R96). -/
def slowBusy (s : State) (d : Slow) : Bool := (s.acc.q d).any (fun w => decide (w.reader = .mgmt))

/-- `RAC_PBUSY`. -/
def viewPbusy (s : State) : Word :=
  mkWord [(4, b2n (slowBusy s .sfa)), (3, b2n (slowBusy s .hbl)), (2, b2n (slowBusy s .afe)),
    (1, b2n (slowBusy s .mem)), (0, b2n (slowBusy s .scan))]

/-- Registers of GLB and RAC that are not plain storage (R92, R96, R510, R538). -/
def viewGlb (s : State) (addr : Nat) : Option Word :=
  if addr = Reg.GLB_ID then some 0x24120B01
  else if addr = Reg.GLB_REV then some (BitVec.ofNat 32 Config.dieRevision)
  else if addr = Reg.GLB_SERIAL0 then some (fuseWord s 0)
  else if addr = Reg.GLB_SERIAL1 then some (fuseWord s 1)
  else if addr = Reg.GLB_HANDLE_STAT then some (viewHandle s)
  else if addr = Reg.GLB_PEND_LO then
    some (mkWord ((List.range 4).map (fun v => (8 * v, min 255 (pendCount s v)))))
  else if addr = Reg.GLB_PEND_HI then some (mkWord [(0, min 255 (pendCount s 4))])
  else if addr = Reg.GLB_FW_STAT then some (viewFwStat s)
  else if addr = Reg.GLB_FW_CMD ∨ addr = Reg.GLB_SVC_CMD then some 0
  else if addr = Reg.GLB_CMT_STAT then some (viewCmtStat s)
  else if addr = Reg.RAC_PBUSY then some (viewPbusy s)
  else if addr = Reg.RAC_QDATA then some s.acc.qData
  else if addr = Reg.RAC_QCTL then some (mkWord [(1, b2n s.acc.qPend.isSome), (0, b2n s.acc.qRdy)])
  else viewPower s addr

/-- The lower words of the registered 64-bit counters (R105). -/
def isCounterLow (addr : Nat) : Bool :=
  addr == Reg.SCN_FRAME_LO || addr == Reg.CEL_COUL_LO || addr == Reg.CEL_DCHG_LO

/-- A register of window `win`, instance `n`, that shows state. -/
def viewWindow (s : State) (win n addr : Nat) (r : RegRow) : Option Word :=
  match win with
  | 0 | 2 => viewGlb s addr
  | 3 => viewYzl s addr
  | 4 => viewHcx s n r.off
  | 5 => viewCur s addr
  | 6 => viewLay s n r.off
  | 7 => viewPix s addr
  | 8 => viewScn s addr
  | 9 => viewCch s addr
  | 10 => viewDia s addr
  | 11 => viewPat s addr
  | 12 => viewFen s addr
  | 13 => viewCvu s addr
  | 14 | 15 => viewEvt s addr
  | 16 => viewThm s addr
  | 17 => viewCel s addr
  | 18 => viewHbd s addr
  | 19 => viewSaf s addr
  | 20 => viewCal s addr
  | 21 => viewSec s addr
  | _ => none

/-- What a register holds for a read that has no effect: class C and upper counter words are each reader's own, and the
mirror of the cell side keeps its last values while it does not follow (R81, R90, R100, R105, R564). -/
def viewReg (s : State) (rd addr win n : Nat) (r : RegRow) : Word :=
  if r.cls = .c then s.cCopy addr rd
  else if isCounterLow (addr - 4) then kget 0 s.acc.latch (copyKey (addr - 4) rd)
  else match viewWindow s win n addr r with
    | some w => w
    | none =>
      if win = 17 ∨ win = 18 then mirrored s addr (s.reg addr)
      else if win = 8 ∧ 0x200 ≤ r.off then s.actReg (addr - 0x100)
      else s.reg addr

/-! ## Reads (R92, R93, R100, R105) -/

/-- A completed access to a T-class data port: the word and the state after it (R93). -/
def dataPort (s : State) (r : Reader) (addr : Nat) (write : Option Word) : Word × State :=
  if addr = Reg.GLB_FW_DATA then
    match write with
    | some w => (0, s.fwData w)
    | none => (0, s.fwAdvance)
  else if addr = Reg.PIX_TBL_DATA then tblPort s write
  else if addr = Reg.CCH_CFG_DATA then cfgPort s write
  else if addr = Reg.CCH_DST_DATA then (if write.isSome then (0, s) else dstPort s)
  else if addr = Reg.DIA_MAP_DATA then (if write.isSome then (0, s) else diaMapPort s)
  else if addr = Reg.DIA_FLT_DATA then (if write.isSome then (0, s) else diaFltPort s)
  else if addr = Reg.PAT_DOSE_DATA then dosePort s write
  else if addr = Reg.PAT_CURVE_DATA then curvePort s write
  else if addr = Reg.RGS_RD_DATA then (if write.isSome then (0, s) else rgsPort s)
  else if addr = Reg.CAL_COEF_DATA then calPort s r write
  else if addr = Reg.HBD_MEM_DATA then
    (if write.isSome then (0, s) else (mirrored s addr (memPortWord s), (memPort s).2))
  else (0, s)

/-- A reader's latch takes the upper word of a counter (R105). -/
def State.latchUpper (s : State) (rd addr : Nat) : State :=
  let upper := match rowAt (addr + 4) with
    | none => 0
    | some (win, n, r) => (viewWindow s win n (addr + 4) r).getD 0
  { s with acc := { s.acc with latch := kput 0 s.acc.latch (copyKey addr rd) upper } }

/-- Bits read as 1 are cleared in the reader's own copy, in native mode (R100, R111). -/
def State.clearRead (s : State) (rd addr : Nat) (mask : Word) : State :=
  if s.pwr.legacy then s else s.clearC1 addr rd (s.cCopy addr rd &&& mask)

/-- A read that passes its checks, of the bits in `mask`: the word and what the read does. -/
def State.readReg (s : State) (r : Reader) (addr win n : Nat) (row : RegRow) (mask : Word) : Word × State :=
  let rd := readerNo r
  let w := viewReg s rd addr win n row
  if row.cls = .t then dataPort s r addr none
  else if row.cls = .c then (w, s.clearRead rd addr mask)
  else if isCounterLow addr then (w, s.latchUpper rd addr)
  else (w, s)

/-! ## Effects of writes -/

/-- The state that a meaning answers. -/
def State.via (s : State) (f : State → Out) : State :=
  match f s with
  | .next t => t
  | _ => s

/-- A write of `YZL_PORT_CTL`: LANES, RATE and FREEZE are stored, EN acts (R124, R127, R131, R524). In legacy mode
RATE of P[0] stays 0 (R137). -/
def State.portCtlWrite (s : State) (p : Nat) (data : Word) : State :=
  let a := yzlReg Reg.YZL_PORT_CTL p
  let rate := if s.pwr.legacy ∧ p = 0 then fld (s.reg a) 1 1 else fld data 1 1
  let s := s.setReg a (mkWord [(5, fld data 5 1), (2, fld data 2 2), (1, rate), (0, fld (s.reg a) 0 1)])
  if bitOf data 0 then s.portEnable p else s.portDisable p

/-- A write of `YZL_PORT_CMD` (R127, R134). -/
def State.portCmdWrite (s : State) (p : Nat) (data : Word) : State :=
  let s := if acts data 0 then s.retrainRequest p 0 else s
  let s := if acts data 1 then s.retrainRequest p 1 else s
  if acts data 2 then s.portRestart p else s

/-- What other YZL registers hold of a word written. -/
def yzlStored (off : Nat) (w : Word) : Word :=
  if off = 0x60 then mkWord [(16, max 1 (fld w 16 8)), (8, max 4 (fld w 8 8)), (0, fld w 0 1)] else w

/-- A write of a GLB or RAC register. -/
def State.glbWrite (s : State) (addr : Nat) (data : Word) : State :=
  if addr = Reg.GLB_RST_CTL then s.rstCtlWrite data
  else if addr = Reg.GLB_FW_CTL then s.setReg addr (mkWord [(0, max 1 (fld data 0 8))])
  else if addr = Reg.GLB_FW_CMD then
    let s := if acts data 0 then s.fwErase else s
    let s := if acts data 1 then s.fwVerify else s
    let s := if acts data 2 then s.fwSwitch else s
    if acts data 3 && s.docentRuns then s.fwConfirm else s
  else if addr = Reg.GLB_FW_INDEX then s.setReg addr (mkWord [(0, fld data 0 22)])
  else if addr = Reg.GLB_SVC_CMD then (if acts data 0 then s.serviceReload else s)
  else if addr = Reg.GLB_CMT_CTL then s.setReg addr (mkWord [(0, min 4 (fld data 0 3))])
  else if addr = Reg.RAC_LOCK then s.setReg addr (s.reg addr ||| (data &&& 0x3FFFFB))
  else if addr = Reg.RAC_OWNER then s.setReg addr (mkWord [(0, min 4 (fld data 0 3))])
  else s

/-- A write of a YZL register. -/
def State.yzlWrite (s : State) (p off addr : Nat) (row : RegRow) (data : Word) : State :=
  if off = 0x0 then s.portCtlWrite p data
  else if off = 0xC then s.portCmdWrite p data
  else if off = 0x10 ∨ off = 0x14 then s.txeqWrite p ((off - 0x10) / 4) data
  else if off = 0x50 then s.testWrite p data
  else if row.stored = 0 then s
  else s.setReg addr (yzlStored off (data &&& BitVec.ofNat 32 row.stored))

/-- A write of an HCX register. -/
def State.hcxWrite (s : State) (c off addr : Nat) (row : RegRow) (data : Word) : State :=
  let w := data &&& BitVec.ofNat 32 row.stored
  if off = 0x0 then s.hcxCtlWrite c data
  else if off ≤ 0x28 then (if row.stored = 0 then s else s.ringCfgWrite c addr w)
  else if off = 0x30 then s.layersWrite c data
  else if off = 0x34 then s.quotaWrite c data
  else if off = 0x40 then s.foCmdWrite c data
  else if row.stored = 0 then s
  else s.setReg addr (hcxStored off w)

/-- A write of a CVU register; `bytes` is the mask of bytes written (R103, R470, R472 to R475). -/
def State.cvuWrite (s : State) (u off addr : Nat) (data : Word) (bytes : Nat) : State :=
  if off = 0x0 then s.cvuSetCtl u data
  else if off = 0x4 ∨ off = 0x8 ∨ off = 0xC then s.setReg addr (cvuStoredLow s addr u data)
  else if off = 0x10 then
    s.cvuFeed u (((List.range 4).filter (fun i => hasBit bytes i)).map (fun i => fld data (8 * i) 8))
  else if off = 0x14 then s.cvuSetRun u data
  else if off = 0x1C then s.cvuExpect u data
  else if off = 0x20 then
    let s := if acts data 0 then s.cvuRestart u else s
    let s := if acts data 1 then s.cvuCompare u else s
    if acts data 2 then s.cvuAliveReset u else s
  else if off = 0x24 then s.cvuAlive u data
  else s

/-- A write of an EVT or RGS register. -/
def State.evtWrite (s : State) (addr : Nat) (row : RegRow) (data : Word) : State :=
  if addr = Reg.EVT_MQ_CMD then (if acts data 0 then s.mqPop else s)
  else if addr = Reg.EVT_FAULT_CMD then (if acts data 0 then s.faultAck else s)
  else if addr = Reg.RGS_CMD then s.via (execFactoryClear data)
  else if row.stored = 0 then s
  else s.setReg addr (evtStored addr (data &&& BitVec.ofNat 32 row.stored))

/-- What a CEL or HBD register holds of a word written. -/
def cellStored (addr : Nat) (w : Word) : Word :=
  if addr = Reg.CEL_SHUNT then mkWord [(0, max 1 (fld w 0 16))]
  else if addr = Reg.CEL_RES then mkWord [(8, fld w 8 16), (0, min 100 (max 10 (fld w 0 8)))]
  else if addr = Reg.CEL_BAL_CTL then mkWord [(16, fld w 16 16), (8, max 1 (fld w 8 8)), (0, fld w 0 1)]
  else if addr = Reg.CEL_PROT_T then
    mkWord [(24, max 1 (fld w 24 8)), (16, max 1 (fld w 16 8)), (0, fld w 0 16)]
  else if addr = Reg.CEL_XCAL_CTL then
    mkWord [(24, fld w 24 8), (16, max 1 (fld w 16 8)), (0, max 256 (fld w 0 16))]
  else if addr = Reg.HBD_SWEEP then
    mkWord [(16, min 1000 (max 100 (fld w 16 10))), (0, min 1000 (max 10 (fld w 0 10)))]
  else if addr = Reg.HBD_UNMON_TMO then mkWord [(0, max 1 (fld w 0 8))]
  else if addr = Reg.HBD_XFER_CTL then mkWord [(16, fld w 16 16), (0, max 1 (fld w 0 16))]
  else w

/-- A write of a CEL or HBD register lands in the cell side. -/
def State.cellWrite (s : State) (addr : Nat) (row : RegRow) (data : Word) : State :=
  if addr = Reg.CEL_PROT_CMD then
    let s := if acts data 0 then s.via execCelProtClear else s
    if acts data 1 then s.via execCoulZero else s
  else if addr = Reg.CEL_BAL_REQ then s.via (execBalReqWrite data)
  else if addr = Reg.CEL_PROT_LOCK then s.setReg addr (data &&& 1)
  else if addr = Reg.HBD_STR_CMD then
    let s := s.via (execStringRelease data)
    if acts data 2 then s.via execHbdReenumCmd else s
  else if row.stored = 0 then s
  else s.setReg addr (cellStored addr (data &&& BitVec.ofNat 32 row.stored))

/-- A write of a SAF register lands in SFA. -/
def State.safWrite (s : State) (off : Nat) (data : Word) : State :=
  if off ≤ 0xC then s.safConfig (off / 4) data
  else if off = 0x18 then s.safLock data
  else if off = 0x1C then s.via (execSafResetRequest data)
  else s

/-- A write of a CAL register. -/
def State.calWrite (s : State) (addr : Nat) (row : RegRow) (data : Word) : State :=
  if addr = Reg.CAL_CMD then
    let s := if acts data 0 then s.via execCalCellRunCmd else s
    let s := if acts data 1 then s.via execCalLaneRunCmd else s
    if acts data 2 then s.via execCalAccessClose else s
  else if addr = Reg.CAL_ACCESS then s.via (execCalAccessOpen data)
  else if row.stored = 0 then s
  else s.setReg addr (data &&& BitVec.ofNat 32 row.stored)

/-- A write of a SEC register. Whether VIOM then is within its range is a free value (log entry 58). -/
def State.secWrite (s : State) (addr : Nat) (row : RegRow) (data : Word) : State :=
  if addr = Reg.SEC_FUSE_CMD then
    if acts data 0 && keyed data 0x69 then
      let q := s.fresh
      q.2.fuseBlow (q.1 % 2 == 1)
    else s
  else if row.stored = 0 then s
  else s.setReg addr (data &&& BitVec.ofNat 32 row.stored)

/-- A write of a DIA register. -/
def State.diaWrite (s : State) (addr : Nat) (row : RegRow) (data : Word) : State :=
  if addr = Reg.DIA_CMD then
    let s := if acts data 0 then s.diaClear else s
    if acts data 1 then s.restartCycle else s
  else if row.stored = 0 then s
  else s.setReg addr (diaStored addr (data &&& BitVec.ofNat 32 row.stored))

/-- The word `w` stored in a register that stores bits. -/
def State.plainWrite (s : State) (addr : Nat) (row : RegRow) (w : Word) : State :=
  if row.stored = 0 then s else s.setReg addr w

/-- A write of a PAT register: a change of MODE to 2 begins the following of R368. -/
def State.patWrite (s : State) (addr : Nat) (row : RegRow) (data : Word) : State :=
  let t := s.plainWrite addr row (patStored addr data)
  if patMode t = 2 ∧ patMode s ≠ 2 then { t with pat := { t.pat with followBegun := false } } else t

/-- A write that has passed the checks of R95 takes effect in its domain. Class C registers take none here (R101). -/
def State.store (s : State) (r : Reader) (addr win n : Nat) (row : RegRow) (data : Word) (bytes : Nat) : State :=
  let w := data &&& BitVec.ofNat 32 row.stored
  if row.cls = .c then s
  else if row.cls = .t then (dataPort s r addr (some data)).2
  else match win with
    | 0 | 2 => s.glbWrite addr data
    | 3 => s.yzlWrite n row.off addr row data
    | 4 => s.hcxWrite n row.off addr row data
    | 5 =>
      if addr = Reg.CUR_BE_CMD then s.retireCommand data else s.plainWrite addr row (curStored addr w)
    | 6 => s.plainWrite addr row (layStored s n row.off w)
    | 7 =>
      if addr = Reg.PIX_TBL_CMD then s.tableSwapCommand data else s.plainWrite addr row (pixStored addr w)
    | 8 => if addr = Reg.SCN_COMMIT then s.commitWrite data else s.plainWrite addr row (scnStored addr w)
    | 9 => s.plainWrite addr row (cchStored addr w)
    | 10 => s.diaWrite addr row data
    | 11 => if addr = Reg.PAT_CMD then s.patCommand data else s.patWrite addr row w
    | 12 => s.plainWrite addr row (fenStored addr w)
    | 13 => s.cvuWrite n row.off addr data bytes
    | 14 | 15 => s.evtWrite addr row data
    | 16 =>
      if addr = Reg.THM_CMD then (if acts data 0 then s.via execThmResume else s)
      else s.plainWrite addr row (thmStored addr w)
    | 17 | 18 => s.cellWrite addr row data
    | 19 => s.safWrite row.off data
    | 20 => s.calWrite addr row data
    | 21 => s.secWrite addr row data
    | _ => s

end Sys2Proof.Machine
end

