-- ==== Sys2Proof/Machine/Access.lean ====
section
/-! DEFINITION. Register access from the management port and from the links: the checks of R95, writes into slow
domains, clear-on-read status, locks, legacy clears and QREAD (R85 to R111), and the barrier channel (R38, R564). -/

namespace Sys2Proof.Machine

/-! ## Status and events of accesses (R95, R106) -/

/-- A bit of `RAC_STATUS` in the copy of the reader that made the access. -/
def State.racStatus (s : State) (r : Reader) (bit : Nat) : State :=
  s.setC1 Reg.RAC_STATUS (readerNo r) (2 ^ bit)

/-- A register-access event: address, reader and value written (R481). It counts as one of CORE, where the checks are made,
for the management port too (log entry 81). -/
def State.accessEvent (s : State) (k : EvKind) (r : Reader) (addr : Nat) (data : Word) : State :=
  s.raise .core k 0 addr (readerNo r + fld data 0 24 * 256) (fld data 24 8)

/-- The `RAC_STATUS` bit of a refusal. -/
def refusalBit : AccStatus → Option Nat
  | .unmapped => some 3
  | .align => some 4
  | .width => some 5
  | .denied => some 2
  | .locked => some 1
  | _ => none

/-- A refused access has no other effect than its report (R94, R95, R106). -/
def State.refuseAccess (s : State) (r : Reader) (st : AccStatus) (addr : Nat) (data : Word) : State :=
  let s := match refusalBit st with
    | some b => s.racStatus r b
    | none => s
  match st with
  | .denied => s.accessEvent Ev.REG_WRITE_DENIED r addr data
  | .locked => s.accessEvent Ev.REG_WRITE_LOCKED r addr data
  | _ => s

/-- A write that reaches no slow domain is dropped (R96, R564). -/
def State.dropWrite (s : State) (r : Reader) (addr : Nat) (data : Word) : State :=
  (s.racStatus r 0).accessEvent Ev.REG_WRITE_DROPPED r addr data

/-! ## The checks of R95 -/

/-- The owner host, 4 for none (R94). -/
def ownerHost (s : State) : Nat := s.rfld Reg.RAC_OWNER 0 3

/-- The write rights of a reader on instance `n` of a window (R94). -/
def hasRights (s : State) (r : Reader) (win n : Nat) : Bool :=
  match r with
  | .mgmt => true
  | .host h =>
    let owner := ownerHost s == h.val
    if win ≤ 2 ∨ (16 ≤ win ∧ win ≤ 21) then false
    else if win = 3 ∨ win = 4 then owner || n == h.val
    else if win = 6 then owner || (ctxEnabled s h && hasBit (layerRights s h) n)
    else owner

/-- A word written to an HCX register would change the stored ROLE, PARTNER, `HCX_LAYERS`, `HCX_QUOTA` or `HCX_FO_CTL`
(R164). -/
def changesOwned (s : State) (addr off : Nat) (data : Word) : Bool :=
  let old := s.reg addr
  if off = 0x0 then storedRole s data != fld old 2 2 || fld data 4 2 != fld old 4 2
  else if off = 0x30 then fld data 0 16 != fld old 0 16
  else if off = 0x34 then quotaStored data != old
  else if off = 0x3C then hcxStored off (data &&& 0x30F) != old
  else false

/-- Check 4 for a word: the rights of the reader, and the HCX fields that only the management port and the owner host
change (R94, R164). -/
def mayWrite (s : State) (r : Reader) (addr win n : Nat) (row : RegRow) (data : Word) : Bool :=
  hasRights s r win n &&
    (match r with
     | .mgmt => true
     | .host h => win != 4 || ownerHost s == h.val || !changesOwned s addr row.off data)

/-- A write meets a lock, a write-once register that has been written, or a register that only the management port
writes (R95, R106 to R108, R403, R451, R506). -/
def isLocked (s : State) (r : Reader) (addr win : Nat) (row : RegRow) : Bool :=
  (win != 2 && hasBit (s.reg Reg.RAC_LOCK).toNat win) ||
    (decide (row.cls = .w1) && s.acc.written.contains addr) ||
    (decide (r ≠ .mgmt) && (addr == Reg.EVT_FAULT_CMD || addr == Reg.RGS_CMD)) ||
    celFrozen s addr ||
    (s.saf.locked && win == 19 && (decide (row.off ≤ 0xC) || row.off == 0x18)) ||
    (addr == Reg.CAL_COEF_DATA && s.cal.access.isNone)

/-- Checks 4 and 5 for a write; a write to a class C register in legacy mode skips them, one of all zeros too (R95, R111;
log entry 79). -/
def writeCheck (s : State) (r : Reader) (addr win n : Nat) (row : RegRow) (data : Word) : AccStatus :=
  if s.pwr.legacy ∧ row.cls = .c then .ok
  else if !mayWrite s r addr win n row data then .denied
  else if isLocked s r addr win row then .locked
  else .ok

/-! ## Writes that pass (R96 to R99, R107, R111) -/

/-- A write-once register has taken its write (R107). -/
def State.consume (s : State) (addr : Nat) (row : RegRow) : State :=
  if row.cls = .w1 ∧ ¬ s.acc.written.contains addr then
    { s with acc := { s.acc with written := s.acc.written ++ [addr] } }
  else s

/-- A write to a class C register: in legacy mode ones clear bits of the writer's copy, in native mode nothing
changes (R101, R111). -/
def State.clearWrite (s : State) (r : Reader) (addr : Nat) (data : Word) : State :=
  if s.pwr.legacy then s.clearC1 addr (readerNo r) data else s

/-- The barrier channel keeps the domain from being reached (R564). -/
def unreachable (s : State) (d : Slow) : Bool := !s.pwr.barrierOk && (decide (d = .afe) || decide (d = .hbl))

/-- A write posted to a domain. -/
def State.post (s : State) (d : Slow) (w : Posted) : State :=
  { s with acc := s.acc.putQ d (s.acc.q d ++ [w]) }

/-- A word written by the management port (R88, R95, R96). -/
def State.mgmtStore (s : State) (addr : Nat) (data : Word) : State :=
  match regOf s addr with
  | none => s.refuseAccess .mgmt .unmapped addr data
  | some (a, win, n, row) =>
    match writeCheck s .mgmt a win n row data with
    | .ok =>
      if row.cls = .c then s.clearWrite .mgmt a data
      else match slowOf win a with
        | none => (s.consume a row).store .mgmt a win n row data 15
        | some d =>
          if unreachable s d || slowBusy s d then s.dropWrite .mgmt a data
          else (s.consume a row).post d { reader := .mgmt, addr := a, data := data, bytes := 15, reply := none }
    | st => s.refuseAccess .mgmt st a data

/-! ## Replies over the link (R104, R145, R146) -/

/-- Bytes of an access of a SIZE code. -/
def sizeBytes (size : Nat) : Nat := 2 ^ (size % 4)

/-- The earlier failure of two halves, in address order (R104). -/
def firstFail (a b : AccStatus) : AccStatus := if a = .ok then b else a

/-- The RCPL of a write. -/
def State.answerWrite (s : State) (rep : Reply) (st : AccStatus) : State :=
  s.sendPackets rep.port [.rcpl rep.tag (firstFail (firstFail rep.earlier st) rep.after) rep.addr rep.size []]

/-- A posted write is answered where it ends its request. -/
def State.answerPosted (s : State) (w : Posted) (st : AccStatus) : State :=
  match w.reply with
  | some rep => if rep.last then s.answerWrite rep st else s
  | none => s

/-- Link writes in the queue of a domain (R98). -/
def linkCount (s : State) (d : Slow) : Nat := ((s.acc.q d).filter (fun w => decide (w.reader ≠ .mgmt))).length

/-- A link write enters its domain's queue, or waits in its receive buffer where the queue is full and then holds its
credits (R98). -/
def State.linkPost (s : State) (d : Slow) (w : Posted) : State :=
  if 16 ≤ linkCount s d ∨ s.acc.held.any (fun h => decide (h.1 = d)) then
    let s : State := { s with acc := { s.acc with held := s.acc.held ++ [(d, w)] } }
    match w.reply with
    | some rep =>
      if rep.last then s.modPort rep.port (fun q => { q with nearPH := q.nearPH + 1, nearPD := q.nearPD + 1 }) else s
    | none => s
  else s.post d w

/-- Writes that wait for room enter the queue in order, and give their credits back (R98, R146). -/
def State.letIn (s : State) (d : Slow) : Nat → State
  | 0 => s
  | fuel + 1 =>
    match s.acc.held.find? (fun h => decide (h.1 = d)) with
    | none => s
    | some h =>
      if 16 ≤ linkCount s d then s
      else
        let s : State := { s with acc := { s.acc with held := s.acc.held.erase h } }
        let s := s.post d h.2
        let s := match h.2.reply with
          | some rep =>
            if rep.last then
              (s.modPort rep.port (fun q => { q with nearPH := q.nearPH - 1, nearPD := q.nearPD - 1 })).sendCredit
                rep.port 0
            else s
          | none => s
        s.letIn d fuel

/-! ## Link writes (R94, R95, R98, R103, R104, R146) -/

/-- One access of a link write: its status where it needs no landing, none where it has been posted. -/
def State.linkAccess (s : State) (h : Fin 4) (addr : Nat) (data : Word) (bytes : Nat) (reply : Option Reply) :
    Option AccStatus × State :=
  let r := Reader.host h
  match regOf s addr with
  | none => (some .unmapped, s.refuseAccess r .unmapped addr data)
  | some (a, win, n, row) =>
    if bytes ≠ 15 ∧ ¬ row.narrow then (some .width, s.refuseAccess r .width a data)
    else match writeCheck s r a win n row data with
      | .ok =>
        if row.cls = .c then (some .ok, s.clearWrite r a data)
        else match slowOf win a with
          | none => (some .ok, (s.consume a row).store r a win n row data bytes)
          | some d =>
            if unreachable s d then (some .unavail, s.dropWrite r a data)
            else
              (none, (s.consume a row).linkPost d
                { reader := r, addr := a, data := data, bytes := bytes, reply := reply })
      | st => (some st, s.refuseAccess r st a data)

/-- The status of an access whose address is not a multiple of its width (R95, R103). -/
def misaligned (s : State) (addr : Nat) : AccStatus := if (regOf s addr).isNone then .unmapped else .align

/-- Both halves of a 64-bit write, in ascending order (R104). The status of a half that needs no landing travels with
the half that is posted. -/
def State.linkWrite64 (s : State) (h : Fin 4) (rep : Reply) (data : Nat) : State :=
  let lo := BitVec.ofNat 32 data
  let hi := BitVec.ofNat 32 (data / 2 ^ 32)
  let q := s.linkAccess h rep.addr lo 15 (some { rep with last := false })
  match q.1 with
  | some st =>
    let t := q.2.linkAccess h (rep.addr + 4) hi 15 (some { rep with earlier := st })
    match t.1 with
    | some st2 => t.2.answerWrite rep (firstFail st st2)
    | none => t.2
  | none =>
    match (q.2.linkAccess h (rep.addr + 4) hi 15 (some rep)).1 with
    | none => (q.2.linkAccess h (rep.addr + 4) hi 15 (some rep)).2
    | some st2 =>
      let p := s.linkAccess h rep.addr lo 15 (some { rep with after := st2 })
      (p.2.linkAccess h (rep.addr + 4) hi 15 none).2

/-- A register write request of a host (R146): `data` has its low byte at the addressed byte. -/
def State.linkWrite (s : State) (p : Fin 4) (tag addr size data : Nat) : State :=
  let rep : Reply := { port := p, tag := tag, addr := addr, size := size, earlier := .ok, last := true }
  if addr % sizeBytes size ≠ 0 then
    let st := misaligned s addr
    (s.refuseAccess (.host p) st addr (BitVec.ofNat 32 data)).answerWrite rep st
  else if size = 3 then s.linkWrite64 p rep data
  else
    let lane := addr % 4
    let bytes := (2 ^ sizeBytes size - 1) * 2 ^ lane
    let q := s.linkAccess p addr (BitVec.ofNat 32 (data % 2 ^ (8 * sizeBytes size) * 2 ^ (8 * lane))) bytes (some rep)
    match q.1 with
    | some st => q.2.answerWrite rep st
    | none => q.2

/-! ## Link reads (R95, R103, R105, R146, R157) -/

/-- One access of a link read: the status, and the word where it passes. -/
def State.linkGet (s : State) (h : Fin 4) (addr : Nat) (mask : Word) : AccStatus × Word × State :=
  match regOf s addr with
  | none => (.unmapped, 0, s.refuseAccess (.host h) .unmapped addr 0)
  | some (a, win, n, row) =>
    let q := s.readReg (.host h) a win n row mask
    (.ok, q.1, q.2)

/-- A register read is carried out: its status and its data (R103 to R105, R146). -/
def State.readFor (s : State) (p : Fin 4) (addr size : Nat) : AccStatus × Nat × State :=
  let width := sizeBytes size
  if addr % width ≠ 0 then
    let st := misaligned s addr
    (st, 0, s.refuseAccess (.host p) st addr 0)
  else if size = 3 then
    let a := s.linkGet p addr 0xFFFFFFFF
    let b := a.2.2.linkGet p (addr + 4) 0xFFFFFFFF
    (firstFail a.1 b.1, a.2.1.toNat + b.2.1.toNat * 2 ^ 32, b.2.2)
  else
    let lane := addr % 4
    let mask := BitVec.ofNat 32 ((2 ^ (8 * width) - 1) * 2 ^ (8 * lane))
    let a := s.linkGet p addr mask
    (a.1, fld a.2.1 (8 * lane) (8 * width), a.2.2)

/-- A register read is carried out and answered (R146). -/
def State.serveRead (s : State) (p : Fin 4) (tag addr size : Nat) : State :=
  let r := s.readFor p addr size
  r.2.2.sendPackets p [.rcpl tag r.1 addr size (bytesLE (sizeBytes size) r.2.1)]

/-- The slow domain that an access reaches. -/
def domainOf (s : State) (addr : Nat) : Option Slow :=
  match regOf s addr with
  | none => none
  | some (a, win, _, _) => slowOf win a

/-- Writes of a port that have not yet landed in a domain. -/
def writesAhead (s : State) (p : Fin 4) (d : Slow) : Nat :=
  ((s.acc.q d).filter (fun w => decide (w.reader = .host p))).length +
    (s.acc.held.filter (fun h => decide (h.1 = d) && decide (h.2.reader = .host p))).length

/-- A register read request of a host: it waits for the earlier writes of its port to the same domain (R157). -/
def State.linkRead (s : State) (p : Fin 4) (tag addr size : Nat) : State :=
  match domainOf s addr with
  | none => s.serveRead p tag addr size
  | some d =>
    let n := writesAhead s p d
    if n = 0 then s.serveRead p tag addr size
    else
      let rep : Reply := { port := p, tag := tag, addr := addr, size := size, earlier := .ok, last := true, wait := n }
      let s : State := { s with acc := { s.acc with rrds := s.acc.rrds ++ [(d, rep)] } }
      s.modPort p (fun q => { q with nearNH := q.nearNH + 1 })

/-- A write of a port has landed or has been discarded: the reads that waited for it alone are served (R157). -/
def State.writeGone (s : State) (d : Slow) (r : Reader) : State :=
  match r with
  | .mgmt => s
  | .host h =>
    let mine := fun (x : Slow × Reply) => decide (x.1 = d) && x.2.port == h.val
    let rrds := s.acc.rrds.map (fun x => if mine x then (x.1, { x.2 with wait := x.2.wait - 1 }) else x)
    let due := rrds.filter (fun x => mine x && x.2.wait == 0)
    let s : State := { s with acc := { s.acc with rrds := rrds.filter (fun x => !(mine x && x.2.wait == 0)) } }
    due.foldl (fun (s : State) x =>
      if x.2.mute then (s.readFor h x.2.addr x.2.size).2.2
      else
        let s := s.modPort h (fun q => { q with nearNH := q.nearNH - 1 })
        (s.serveRead h x.2.tag x.2.addr x.2.size).sendCredit h 1) s

/-! ## Landing (R97, R99) -/

/-- The domain takes writes: it is clocked and can be reached. -/
def slowRuns (s : State) (d : Slow) : Bool :=
  match d with
  | .scan => s.awake && s.pwr.scanLock
  | .mem => s.awake && s.pwr.memLock
  | .afe | .hbl => s.pwr.barrierOk && s.cel.running && s.awake
  | .sfa => safRuns s

/-- A posted write takes effect. -/
def State.land (s : State) (w : Posted) : State :=
  match rowAt w.addr with
  | none => s
  | some (win, n, row) => s.store w.reader w.addr win n row w.data w.bytes

/-- The oldest write of a domain lands; the busy flag clears or the link write is answered. -/
def State.slowLand (s : State) (d : Slow) : State :=
  s.onlyIf (slowRuns s d) (fun s =>
    match s.acc.q d with
    | [] => s
    | w :: rest =>
      let s : State := { s with acc := s.acc.putQ d rest }
      let s := (s.land w).answerPosted w .ok
      (s.writeGone d w.reader).letIn d 16)

/-- `SLOW_WRITE_LAND`. -/
def execSlowWriteLand (d : Slow) (s : State) : Out := .next (s.slowLand d)

/-! ## The management port (R85 to R93) -/

/-- The management port runs: no reset reaches MGMT (R75, R78). -/
def mgmtRuns (s : State) : Bool := !s.pwr.inReset || s.pwr.soft

/-- Addresses lie within one window of the address map (R88). A burst that begins outside every window has no word after
the first in one (log entry 80). -/
def sameWindow (s : State) (a b : Nat) : Bool :=
  let win := fun (x : Nat) => ((nativeAddr s x).bind windowAt).map (·.1)
  (win a).isSome && win a == win b

/-- A frame whose address is not a multiple of 4 has no effect; an address that is not mapped is reported as that (R87,
R95; log entry 78). -/
def State.frameBad (s : State) (addr : Nat) : State := s.refuseAccess .mgmt (misaligned s addr) addr 0

/-- What READ returns for one word, from MGMT-domain storage (R90). During a soft reset only class F is answered
(R78). -/
def State.mgmtGet (s : State) (first addr : Nat) : Word × State :=
  match (if addr = first ∨ sameWindow s first addr then regOf s addr else none) with
  | none => (0, s.racStatus .mgmt 3)
  | some (a, win, n, row) =>
    if s.pwr.inReset ∧ row.cls ≠ .f then (0, s.racStatus .mgmt 0)
    else if row.cls = .t then (0, s.racStatus .mgmt 8)
    else s.readReg .mgmt a win n row 0xFFFFFFFF

/-- The words of a READ burst. -/
def State.mgmtGets (s : State) (first addr : Nat) : Nat → State
  | 0 => s
  | n + 1 =>
    let q := s.mgmtGet first addr
    (q.2.emit (.mio q.1)).mgmtGets first (addr + 4) n

/-- `MGMT_READ`: a READ frame of `count` whole words; `cut` where MCS_N cuts a further one short (R86 to R90). -/
def execMgmtRead (addr count : Nat) (cut : Bool) (s : State) : Out :=
  if 2 ^ 32 ≤ addr then .fault (.illFormed "MGMT_READ")
  else .next (s.onlyIf (mgmtRuns s) (fun s =>
    if addr % 4 ≠ 0 then (s.frameBad addr).emits (List.replicate count (.mio 0))
    else (s.mgmtGets addr addr count).onlyIf cut (fun s => s.racStatus .mgmt 6)))

/-- One word of a WRITE burst (R81, R88). -/
def State.mgmtPut (s : State) (first addr : Nat) (w : Word) : State :=
  if !s.awake then s.mgmtDropped
  else if addr = first ∨ sameWindow s first addr then s.mgmtStore addr w
  else s.refuseAccess .mgmt .unmapped addr w

/-- The words of a WRITE burst, each after the writes that land before it (R97). -/
def State.mgmtPuts (s : State) (first addr : Nat) : List (Word × List Slow) → State
  | [] => s
  | w :: ws =>
    let s := w.2.foldl (fun (s : State) d => s.slowLand d) s
    (s.mgmtPut first addr w.1).mgmtPuts first (addr + 4) ws

/-- `MGMT_WRITE`: a WRITE frame; with each word stand the domains whose oldest write lands before it is taken, and `cut` says that the last word is cut short. In stand-by the frame ends stand-by and is dropped (R81, R86 to R88, R97). -/
def execMgmtWrite (addr : Nat) (words : List (Word × List Slow)) (cut : Bool) (s : State) : Out :=
  if 2 ^ 32 ≤ addr then .fault (.illFormed "MGMT_WRITE")
  else .next (s.onlyIf (mgmtRuns s) (fun s =>
    if s.pwr.standby then s.mgmtDropped
    else if addr % 4 ≠ 0 then s.frameBad addr
    else (s.mgmtPuts addr addr words).onlyIf cut (fun s => s.racStatus .mgmt 6)))

/-- `MGMT_BAD_OPCODE` (R87). -/
def execMgmtBadOpcode (opcode : Nat) (s : State) : Out :=
  if 256 ≤ opcode ∨ opcode = 0x0B ∨ opcode = 0x02 ∨ opcode = 0x0C then .fault (.illFormed "MGMT_BAD_OPCODE")
  else .next (s.onlyIf (mgmtRuns s) (fun s => s.racStatus .mgmt 7))

/-- `QREAD` (R81, R87, R92). One with a bad address has no effect at all: `RAC_QDATA` and `QRDY` stay (log entry 78). -/
def execQread (addr : Nat) (s : State) : Out :=
  if 2 ^ 32 ≤ addr then .fault (.illFormed "QREAD")
  else .next (s.byMgmt (fun s =>
    if addr % 4 ≠ 0 then s.frameBad addr
    else if s.acc.qPend.isSome then s.racStatus .mgmt 7
    else { s with acc := { s.acc with qPend := some addr, qRdy := false } }))

/-- `QREAD_DONE`: the read takes place and its result is there; 0 where it set a status bit (R92). -/
def execQreadDone (s : State) : Out :=
  .next (s.onlyIf s.awake (fun s =>
    match s.acc.qPend with
    | none => s
    | some addr =>
      let q := match regOf s addr with
        | none => ((0 : Word), s.racStatus .mgmt 3)
        | some (a, win, n, row) => s.readReg .mgmt a win n row 0xFFFFFFFF
      { q.2 with acc := { q.2.acc with qPend := none, qRdy := true, qData := q.1 } }))

/-! ## Single accesses (R94, R95, R100, R105, R108, R111) -/

/-- An access of a reader that CORE carries out (R78, R81). -/
def State.byReader (s : State) (r : Reader) (f : State → State) : State :=
  match r with
  | .mgmt => s.byMgmt f
  | .host _ => s.onlyIf s.awake f

/-- `REGISTER_WRITE`: a 32-bit write by a reader, checked in order (R95). -/
def execRegisterWrite (r : Reader) (addr : Nat) (data : Word) (s : State) : Out :=
  .next (s.byReader r (fun s =>
    if addr % 4 ≠ 0 then s.refuseAccess r (misaligned s addr) addr data
    else match r with
      | .mgmt => s.mgmtStore addr data
      | .host h => (s.linkAccess h addr data 15 none).2))

/-- `CLEAR_ON_READ`: a read of a class C register (R100). The management port's copies lie in MGMT and are read in
stand-by too (R81); in a soft reset its read is dropped (R78). -/
def execClearOnRead (r : Reader) (addr : Nat) (s : State) : Out :=
  .next (s.onlyIf (if r = .mgmt then mgmtRuns s else s.awake) (fun s =>
    match regOf s addr with
    | none => s
    | some (a, win, n, row) =>
      if row.cls = .c ∧ addr % 4 = 0 then
        let q := if s.pwr.inReset then (0, s.mgmtDropped) else s.readReg r a win n row 0xFFFFFFFF
        if r = .mgmt then q.2.emit (.mio q.1) else q.2
      else s))

/-- `LEGACY_WRITE_ONE_CLEAR`: a 32-bit write to a class C register (R101, R111). -/
def execLegacyWriteOneClear (r : Reader) (addr : Nat) (data : Word) (s : State) : Out :=
  .next (s.byReader r (fun s =>
    match regOf s addr with
    | none => s
    | some (a, _, _, row) => if row.cls = .c ∧ addr % 4 = 0 then s.clearWrite r a data else s))

/-- `COUNTER_LOW_READ`: the lower word of a 64-bit counter is read (R105). -/
def execCounterLowRead (r : Reader) (addr : Nat) (s : State) : Out :=
  .next (s.onlyIf s.awake (fun s =>
    match nativeAddr s addr with
    | none => s
    | some a => if isCounterLow a then s.latchUpper (readerNo r) a else s))

/-- `RAC_LOCK_WRITE`: a write of `RAC_LOCK` by the management port, the first after reset (R106 to R108). -/
def execRacLockWrite (data : Word) (s : State) : Out :=
  .next (s.byMgmt (fun s => s.mgmtStore Reg.RAC_LOCK data))

/-- `RAC_OWNER_WRITE` (R94). -/
def execRacOwnerWrite (data : Word) (s : State) : Out :=
  .next (s.byMgmt (fun s => s.mgmtStore Reg.RAC_OWNER data))

/-! ## The barrier channel (R38, R564) -/

/-- A write in flight is discarded: the reader is told and a write-once register is free again (R564). -/
def State.discard (s : State) (d : Slow) (w : Posted) : State :=
  let s : State := { s with acc := { s.acc with written := s.acc.written.filter (· != w.addr) } }
  let s := (s.dropWrite w.reader w.addr w.data).answerPosted w .unavail
  s.writeGone d w.reader

/-- Credits of a write that leaves its receive buffer without entering a queue. -/
def State.freeHeld (s : State) (w : Posted) : State :=
  match w.reply with
  | some rep =>
    if rep.last then
      (s.modPort rep.port (fun q => { q with nearPH := q.nearPH - 1, nearPD := q.nearPD - 1 })).sendCredit rep.port 0
    else s
  | none => s

/-- Everything on its way into a domain is discarded (R564). -/
def State.discardAll (s : State) (d : Slow) : State :=
  let queued := s.acc.q d
  let waits := s.acc.held.filter (fun h => decide (h.1 = d))
  let s : State := { s with acc := { s.acc.putQ d [] with held := s.acc.held.filter (fun h => decide (h.1 ≠ d)) } }
  let s := queued.foldl (fun (s : State) w => s.discard d w) s
  waits.foldl (fun (s : State) h => (s.freeHeld h.2).discard d h.2) s

/-- `AFE_LINK_LOST`: no valid barrier frame for 10 ms (R38, R564). XFER falls
(R429). -/
def execAfeLinkLost (s : State) : Out :=
  .next (s.onlyIf (s.pwr.barrierOk && !s.pwr.inReset) (fun s =>
    let s : State := if s.pwr.standby then s
      else ({ s with cel := { s.cel with frozen := mirrorNow s } } : State).celUnavailable
    let s : State := { s with pwr := { s.pwr with barrierOk := false }, hb := { s.hb with x := 0, xHeld := false } }
    let s := s.raise .core Ev.AFE_LINK_LOST
    (s.discardAll .afe).discardAll .hbl))

/-- `AFE_LINK_RESTORED`: valid frames again; what the cell side has to report crosses (R38, R564). -/
def execAfeLinkRestored (s : State) : Out :=
  .next (s.onlyIf (!s.pwr.barrierOk) (fun s =>
    let s : State := { s with
      pwr := { s.pwr with barrierOk := true }
      cel := { s.cel with frozen := if s.pwr.standby then s.cel.frozen else [], logicLost := false } }
    s.flushErr))

/-- `LOGIC_LOST`: the cell side sees no valid barrier frame for 10 ms (R38, R429). -/
def execLogicLost (s : State) : Out :=
  .next (s.onlyIf s.cel.running (fun s =>
    { s with cel := { s.cel with logicLost := true }, hb := { s.hb with x := 0, xHeld := false } }))

end Sys2Proof.Machine
end

