-- ==== Sys2Proof/Machine/Link.lean ====
section
/-! DEFINITION. Received packets of the Yuzar Link transaction layer (R139 to R162): sequence and credit
checks, acknowledgement and replay, credits, memory completions, nudges and register requests. -/

namespace Sys2Proof.Machine

/-! ## Acknowledgement (R153 to R155) -/

/-- A bit of `YZL_TL_ERR`. -/
def State.tlErr (s : State) (p bit : Nat) : State := s.setC (yzlReg Reg.YZL_TL_ERR p) (2 ^ bit)

/-- The receiver sends an ACK of the last accepted packet. -/
def State.sendAck (s : State) (p : Nat) : State :=
  let n := ((vget s.port p).next + 4095) % 4096
  (s.modPort p (fun q => { q with sinceAck := 0 })).controlSend p (.ack p n) kindAck n 0

/-- The receiver sends a NAK, unless it has sent one since it last accepted a packet (R153). -/
def State.sendNak (s : State) (p : Nat) : State :=
  let q := vget s.port p
  let s := s.tlErr p 0
  if q.nakSent then s
  else
    let n := (q.next + 4095) % 4096
    (s.modPort p (fun q => { q with nakSent := true, naks := satAdd 16 q.naks 1 })).controlSend p (.nak p n) kindNak n 0

/-- The sequence check of a good TRANS packet: accepted or not (R153). -/
def State.acceptSeq (s : State) (p seq : Nat) : Bool × State :=
  let q := vget s.port p
  if q.st ≠ .up then (false, s)
  else if seq % 4096 = q.next then
    let s := s.modPort p (fun q => { q with
      next := wrapAdd 12 q.next 1, nakSent := false, sinceAck := q.sinceAck + 1 })
    (true, s.onlyIf (decide (16 ≤ q.sinceAck + 1)) (fun s => s.sendAck p))
  else if later 12 q.next (seq % 4096) then
    (false, s.modPort p (fun q => { q with sinceAck := max 1 q.sinceAck }))
  else (false, s.sendNak p)

/-- `ACK_SEND`: within 1 µs of accepting a packet (R153). -/
def execAckSend (p : Fin 4) (s : State) : Out :=
  .next (s.onlyIf (decide ((vget s.port p).st = .up) && (vget s.port p).sinceAck != 0) (fun s => s.sendAck p))

/-- A packet that fails R141: a bad control packet has no further effect, any other is answered as a TRANS packet (R141,
R153; log entry 84). -/
def State.badPacket (s : State) (p : Nat) (bs : List Nat) : State :=
  let k := kindOf bs
  if k = kindAck ∨ k = kindNak ∨ k = kindCredit then s.tlErr p 0 else s.sendNak p

/-- A sequence number of the unacknowledged window frees every packet up to it; another is stale (R154). -/
def State.freeUpTo (s : State) (p seq : Nat) : Bool × State :=
  let q := vget s.port p
  match q.replay.findIdx? (fun x => x.1 == seq % 4096) with
  | none => (false, s)
  | some i =>
    let posted := ((q.replay.take (i + 1)).filter (fun x => x.2.pool == 0)).length
    let s := s.modPort p (fun q => { q with replay := q.replay.drop (i + 1), oldestReplays := 0 })
    (true, s.queriesAcked p posted)

/-- The millisecond of operating time. -/
def nowMs (s : State) : Nat := s.aon.opsec * 1000 + s.aon.ms

/-- `LINK_REPLAY`, at most once per millisecond (R154). -/
def State.replayEvent (s : State) (p : Nat) : State :=
  if (vget s.port p).lastReplay.any (fun t => decide (nowMs s < t + 1)) then s
  else
    (s.modPort p (fun q => { q with lastReplay := some (nowMs s) })).raise .refl Ev.LINK_REPLAY p (portData p 0)

/-- Every unacknowledged packet goes again in order (R154); after four replays of the same oldest packet the
port goes down instead (R155; log entry 24). -/
def State.replayAll (s : State) (p : Nat) : State :=
  let q := vget s.port p
  if q.replay.isEmpty then s
  else if 4 ≤ q.oldestReplays then
    ((s.tlErr p 2).raise .refl Ev.REPLAY_STALL p (portData p 0)).portDown p .idleWait
  else
    let s := s.modPort p (fun q => { q with
      oldestReplays := q.oldestReplays + 1, replays := satAdd 16 q.replays 1 })
    let s := (s.tlErr p 1).emits (q.replay.map (fun x => .packet p x.1 x.2))
    (s.txSend p (q.replay.flatMap (fun x => frameItems (x.2.bytes x.1)))).replayEvent p

/-- An ACK is received (R154). -/
def State.onAck (s : State) (p seq : Nat) : State := (s.freeUpTo p seq).2.pumpPort p

/-- A NAK is received: it frees, then the rest is replayed (R154). -/
def State.onNak (s : State) (p seq : Nat) : State :=
  match s.freeUpTo p seq with
  | (false, s) => s
  | (true, s) => (s.replayAll p).pumpPort p

/-- `REPLAY_TIMEOUT` (R154, R155). -/
def execReplayTimeout (p : Fin 4) (s : State) : Out :=
  .next (s.onlyIf (decide ((vget s.port p).st = .up)) (fun s => s.replayAll p))

/-! ## Credits (R150 to R152) -/

/-- A CREDIT is received: a grant of the far end for one pool; packets that waited for it leave (R151). -/
def State.onCredit (s : State) (p pool hdr data : Nat) (inf : Bool) : State :=
  (s.modPort p (fun q => q.putFar pool { q.far pool with got := true, inf := inf, hdr := hdr, data := data })).pumpPort p

/-- `CREDIT_REPEAT`: every 20 µs (R151). -/
def execCreditRepeat (p : Fin 4) (s : State) : Out :=
  .next (s.onlyIf (decide ((vget s.port p).st = .up)) (fun s => s.sendCredits p))

/-- A packet counted against the grants of its pool (R151). -/
def State.rxCount (s : State) (p pool credits : Nat) : State :=
  s.modPort p (fun q =>
    if pool = 0 then { q with rxPH := q.rxPH + 1, rxPD := q.rxPD + credits }
    else if pool = 1 then { q with rxNH := q.rxNH + 1 } else q)

/-- A packet of a pool arrives beyond the granted credits (R150, R152). -/
def overCredit (s : State) (p pool credits : Nat) : Bool :=
  let q := vget s.port p
  if pool = 0 then decide (32 < q.nearPH + 1) || decide (64 < q.nearPD + credits)
  else if pool = 1 then decide (16 < q.nearNH + 1) else false

/-- `CREDIT_OVERFLOW` (R152). -/
def State.creditOverflow (s : State) (p tag : Nat) : State :=
  (s.tlErr p 4).raise .refl Ev.CREDIT_OVERFLOW p (portData p tag)

/-- A completion with status UR; it has no payload (R145, R152; log entry 22). -/
def State.answerUr (s : State) (p tag addr size : Nat) : State :=
  s.sendPackets p [.rcpl tag .ur addr size []]

/-- A malformed packet: `PKT_MALFORMED`, and UR for a request (R158). -/
def State.malformed (s : State) (p tag : Nat) (req : Option (Nat × Nat × Nat)) : State :=
  let s := (s.tlErr p 3).raise .refl Ev.PKT_MALFORMED p (portData p tag)
  match req with
  | none => s
  | some (t, a, z) => s.answerUr p t a z

/-! ## Memory completions (R144, R145, R158, R159) -/

/-- An MRD taken off the outstanding ones. -/
def State.endMrd (s : State) (p tag : Nat) : State :=
  s.modPort p (fun q => { q with mrds := q.mrds.filter (fun m => m.tag != tag) })

/-- A completion for a tag that is not outstanding (R158). -/
def State.unexpected (s : State) (p tag : Nat) : State :=
  (s.tlErr p 7).raise .refl Ev.CPL_UNEXPECTED p (portData p tag)

/-- A completion continues its read: it follows what has come, counts what is left, and ends on a multiple of 64 unless it
is the last (R144). -/
def mcplFits (m : Mrd) (remaining offset len : Nat) : Bool :=
  let rest := m.count - m.data.length
  offset == m.data.length % 4096 && remaining == rest && decide (len ≤ rest) &&
    (len == rest || (m.addr + m.data.length + len) % 64 == 0)

/-- Data of a memory completion (R144). -/
def State.mrdData (s : State) (p : Nat) (m : Mrd) (data : List Nat) : State :=
  let got := m.data ++ data
  if got.length = m.count then ((s.endMrd p m.tag).readDone p m.use m.addr got).readPump p
  else s.modPort p (fun q => { q with
    mrds := q.mrds.map (fun x => if x.tag = m.tag then { x with data := got } else x) })

/-- An MRD that ends without its data: the read fails (R145, R159). -/
def State.mrdFail (s : State) (p : Nat) (m : Mrd) : State :=
  ((s.endMrd p m.tag).readFailed p m.use).readPump p

/-- A memory completion whose fields hold what R143 allows: one for a tag that is not outstanding is unexpected, an error
fails the read, and one that does not continue its read is malformed (R144, R145, R158; log entry 89). -/
def State.onMcpl (s : State) (p : Nat) (t : Trans) : State :=
  match (vget s.port p).mrds.find? (fun m => m.tag == t.tag) with
  | none => s.unexpected p t.tag
  | some m =>
    if t.status ≠ 0 then ((s.tlErr p 6).raise .refl Ev.HOST_READ_ERROR p (portData p t.tag)).mrdFail p m
    else if mcplFits m t.d1 t.d2 t.len then s.mrdData p m t.payload
    else s.malformed p t.tag none

/-- `MRD_TIMEOUT` (R159). -/
def execMrdTimeout (p : Fin 4) (tag : Nat) (s : State) : Out :=
  match (vget s.port p).mrds.find? (fun m => m.tag == tag) with
  | none => .next s
  | some m =>
    let s := (s.tlErr p 5).raise .refl Ev.HOST_READ_TIMEOUT p (portData p tag)
    let s := s.modPort p (fun q => { q with quarantine := q.quarantine ++ [tag] })
    .next (s.mrdFail p m)

/-- `TAG_QUARANTINE_END` (R159). -/
def execTagQuarantineEnd (p : Fin 4) (tag : Nat) (s : State) : Out :=
  .next ((s.modPort p (fun q => { q with quarantine := q.quarantine.filter (· != tag) })).readPump p)

/-! ## Received TRANS packets (R146 to R148, R152, R157, R158) -/

/-- What an accepted packet whose fields hold what R143 allows does. -/
def State.transact (s : State) (p : Fin 4) (t : Trans) : State :=
  if t.typ = 0x03 then s.onMcpl p t
  else if t.typ = 0x10 then s.ringNudge p (natBits t.d1 0 2) (natBits t.d1 16 16)
  else if t.typ = 0x20 then s.linkRead p t.tag t.d1 t.d3
  else s.linkWrite p t.tag t.d1 t.d3 (ofBytesLE t.payload)

/-- A good TRANS packet, in the order of R158: its sequence number, credits, fields, and then its effect. The credits of a
packet of pool P or N return when its buffer entry is free (R151). -/
def State.onTrans (s : State) (p : Fin 4) (t : Trans) : State :=
  match s.acceptSeq p t.seq with
  | (false, s) => s
  | (true, s) =>
    let credits := divCeil t.payload.length 16
    match typePool t.typ with
    | none => s.malformed p t.eventTag t.request
    | some pool =>
      let excess := overCredit s p pool credits
      let s := s.rxCount p pool credits
      let s :=
        if excess then
          let s := s.creditOverflow p t.eventTag
          if t.typ = 0x20 then s.answerUr p t.tag t.d1 (t.d3 % 4) else s
        else if t.fieldsOk (maxPayload s p) then s.transact p t
        else s.malformed p t.eventTag t.request
      s.onlyIf (pool != 2) (fun s => s.sendCredit p pool)

/-- A link control packet that is good: an acknowledgement or a CREDIT whose content word holds what R141 allows, else a
malformed packet (R140, R141, R158). -/
def State.onControl (s : State) (p : Nat) (bs : List Nat) : State :=
  let w := ofBytesLE ((bs.drop 4).take 4)
  let k := kindOf bs
  let head := natBits (ofBytesLE (bs.take 4)) 25 7 == 0 && bs.length == 12
  if head && k == kindAck && w == 0 then s.onAck p (seqOf bs)
  else if head && k == kindNak && w == 0 then s.onNak p (seqOf bs)
  else if head && k == kindCredit && seqOf bs == 0 && decide (natBits w 0 2 < 3) &&
      w == creditWord (natBits w 0 2) (hasBit w 2) (natBits w 4 8) (natBits w 16 12) then
    s.onCredit p (natBits w 0 2) (natBits w 4 8) (natBits w 16 12) (hasBit w 2)
  else s.malformed p 0 none

/-- A whole packet has come (R139 to R141, R158). -/
def State.onPacket (s : State) (p : Fin 4) (bs : List Nat) : State :=
  if (vget s.port p).st ≠ .up then s
  else if !packetGood bs then s.badPacket p bs
  else if kindOf bs = kindTrans then s.onTrans p (transOf bs)
  else s.onControl p bs

/-! ## What arrives on the lanes -/

/-- A LINK_MSG acts by its code; one of a code or a lane that R123 does not name has no effect (log entry 85). -/
def State.onMsg (s : State) (p code lane version : Nat) (rate : Bool) (arg : Nat) : State :=
  if code = 1 then s.onPortUp p (lane % 4) version rate
  else if code = 2 then s.onPortUpAck p (lane % 4) version
  else if code = 7 then s.onRefresh p lane arg
  else if 2 ≤ lane then s
  else if code = 3 then s.onLaneDrop p lane
  else if code = 4 then s.onLaneRestore p lane
  else if code = 5 then s.onRetrainReq p lane arg
  else if code = 6 then s.onRetrainDone p lane
  else s

/-- What the receiving side of a port hands on takes effect. -/
def State.lineItem (s : State) (p : Fin 4) (i : LineItem) : State :=
  match i with
  | .unlocked l => s.blockLost p l
  | .marker l errors => s.amGood p l errors
  | .badMarker l => s.amBad p l
  | .msg code lane version rate arg => s.onMsg p code lane version rate arg
  | .packet bs => s.onPacket p bs
  | .broken bs => s.onlyIf (decide ((vget s.port p).st = .up)) (fun s => s.badPacket p bs)

/-- The blocks of one period arrive. -/
def State.receiveSlot (s : State) (p : Fin 4) (x : RxSlot) : State :=
  let r := (vget s.port p).lineSlot p x
  r.2.foldl (fun (s : State) i => s.lineItem p i) (s.modPort p (fun _ => r.1))

/-- The blocks that have come on the lanes of a port since its last command of reception, in order. What they bring
decides what happens, whatever of it names the command (log entry 90). The lanes receive while the logic side runs. -/
def State.receive (s : State) (p : Fin 4) (rx : List RxSlot) : State :=
  s.onlyIf s.awake (fun s => rx.foldl (fun (s : State) x => s.receiveSlot p x) s)

/-- `AM_RECEIVE`: a marker comes (R120, R121, R125). -/
def execAmReceive (p : Fin 4) (rx am : List RxSlot) (s : State) : Out := .next (s.receive p (rx ++ am))

/-- `AM_MISSING`: no good marker at its place (R125). -/
def execAmMissing (p : Fin 4) (rx : List RxSlot) (s : State) : Out := .next (s.receive p rx)

/-- `BLOCK_LOCK_LOST`: invalid headers (R125, R132). -/
def execBlockLockLost (p : Fin 4) (rx : List RxSlot) (s : State) : Out := .next (s.receive p rx)

/-- `PORT_UP`: a PORT_UP (R126). -/
def execPortUp (p : Fin 4) (rx msg copy : List RxSlot) (s : State) : Out := .next (s.receive p (rx ++ msg ++ copy))

/-- `PORT_UP_ACK`: a PORT_UP_ACK (R126). -/
def execPortUpAck (p : Fin 4) (rx msg : List RxSlot) (s : State) : Out := .next (s.receive p (rx ++ msg))

/-- `LANE_DROP`: a LANE_DROP (R132). -/
def execLaneDrop (p : Fin 4) (rx : List RxSlot) (s : State) : Out := .next (s.receive p rx)

/-- `LANE_RESTORE`: a LANE_RESTORE (R133). -/
def execLaneRestore (p : Fin 4) (rx : List RxSlot) (s : State) : Out := .next (s.receive p rx)

/-- `RETRAIN_REQ`: a RETRAIN_REQ (R134). -/
def execRetrainReq (p : Fin 4) (rx : List RxSlot) (s : State) : Out := .next (s.receive p rx)

/-- `RETRAIN_DONE`: a RETRAIN_DONE (R134). -/
def execRetrainDone (p : Fin 4) (rx : List RxSlot) (s : State) : Out := .next (s.receive p rx)

/-- `REFRESH`: a REFRESH (R131). -/
def execRefresh (p : Fin 4) (rx : List RxSlot) (s : State) : Out := .next (s.receive p rx)

/-- `MCPL`: a memory completion (R144). -/
def execMcpl (p : Fin 4) (rx start data term : List RxSlot) (s : State) : Out :=
  .next (s.receive p (rx ++ start ++ data ++ term))

/-- `NUDGE`: a nudge (R148). -/
def execNudge (p : Fin 4) (rx start term : List RxSlot) (s : State) : Out :=
  .next (s.receive p (rx ++ start ++ term))

/-- `RRD`: a register read request (R146). -/
def execRrd (p : Fin 4) (rx start data term : List RxSlot) (s : State) : Out :=
  .next (s.receive p (rx ++ start ++ data ++ term))

/-- `RWR`: a register write request (R146). -/
def execRwr (p : Fin 4) (rx start data term after : List RxSlot) (s : State) : Out :=
  .next (s.receive p (rx ++ start ++ data ++ term ++ after))

/-- `ACK`: an ACK (R154). -/
def execAck (p : Fin 4) (rx : List RxSlot) (s : State) : Out := .next (s.receive p rx)

/-- `NAK`: a NAK (R154). -/
def execNak (p : Fin 4) (rx : List RxSlot) (s : State) : Out := .next (s.receive p rx)

/-- `CREDIT`: a CREDIT (R151). -/
def execCredit (p : Fin 4) (rx start data term : List RxSlot) (s : State) : Out :=
  .next (s.receive p (rx ++ start ++ data ++ term))

/-- `BAD_PACKET`: a packet that fails R141 (R153). -/
def execBadPacket (x : RxOn) (s : State) : Out := .next (s.receive x.port x.rx)

/-- `MALFORMED_PACKET`: a malformed packet (R158). -/
def execMalformedPacket (p : Fin 4) (rx start data term : List RxSlot) (s : State) : Out :=
  .next (s.receive p (rx ++ start ++ data ++ term))

end Sys2Proof.Machine
end

