-- ==== Sys2Proof/Machine/Dispatch.lean ====
section
/-! DEFINITION. One arm per command: its meaning, the commands in the table's order. -/

namespace Sys2Proof.Machine

/-- The effect of a command on everything but the queue. -/
def exec (i : Instr) (s : State) : Host.Outcome State Fault Refusal :=
  match i with
  | .powerOnReset => Sys2Proof.Machine.execPowerOnReset s
  | .powerFailSave completes => Sys2Proof.Machine.execPowerFailSave completes s
  | .supplyReset => Sys2Proof.Machine.execSupplyReset s
  | .aonStop => Sys2Proof.Machine.execAonStop s
  | .regulatorFaultReset r => Sys2Proof.Machine.execRegulatorFaultReset r s
  | .regulatorFaultRelease => Sys2Proof.Machine.execRegulatorFaultRelease s
  | .xiLoss => Sys2Proof.Machine.execXiLoss s
  | .xiLossRelease => Sys2Proof.Machine.execXiLossRelease s
  | .pinReset ns acts => Sys2Proof.Machine.execPinReset ns acts s
  | .resetRelease samples viocMv eccBad => Sys2Proof.Machine.execResetRelease samples viocMv eccBad s
  | .legacyResample samples viocMv eccBad => Sys2Proof.Machine.execLegacyResample samples viocMv eccBad s
  | .pllLock d => Sys2Proof.Machine.execPllLock d s
  | .docentStart => Sys2Proof.Machine.execDocentStart s
  | .softReset data => Sys2Proof.Machine.execSoftReset data s
  | .standbyEnter data => Sys2Proof.Machine.execStandbyEnter data s
  | .standbyExit byPin => Sys2Proof.Machine.execStandbyExit byPin s
  | .aonSlotWrite => Sys2Proof.Machine.execAonSlotWrite s
  | .viocFault => Sys2Proof.Machine.execViocFault s
  | .viocResume => Sys2Proof.Machine.execViocResume s
  | .vddaFault => Sys2Proof.Machine.execVddaFault s
  | .vddaRestore => Sys2Proof.Machine.execVddaRestore s
  | .refclkWindow ppm => Sys2Proof.Machine.execRefclkWindow ppm s
  | .scanPllUnlock => Sys2Proof.Machine.execScanPllUnlock s
  | .scanPllRelock => Sys2Proof.Machine.execScanPllRelock s
  | .cellSideStart => Sys2Proof.Machine.execCellSideStart s
  | .cellSideStop => Sys2Proof.Machine.execCellSideStop s
  | .haStrapSample samples => Sys2Proof.Machine.execHaStrapSample samples s
  | .haStrapCheck strap => Sys2Proof.Machine.execHaStrapCheck strap s
  | .docentLockstep => Sys2Proof.Machine.execDocentLockstep s
  | .docentRestartDone => Sys2Proof.Machine.execDocentRestartDone s
  | .sfbClockCheck khz => Sys2Proof.Machine.execSfbClockCheck khz s
  | .eventStamp arrived => Sys2Proof.Machine.execEventStamp arrived s
  | .afeLinkLost => Sys2Proof.Machine.execAfeLinkLost s
  | .afeLinkRestored => Sys2Proof.Machine.execAfeLinkRestored s
  | .logicLost => Sys2Proof.Machine.execLogicLost s
  | .mgmtRead addr count cut => Sys2Proof.Machine.execMgmtRead addr count cut s
  | .mgmtWrite addr words cut => Sys2Proof.Machine.execMgmtWrite addr words cut s
  | .mgmtBadOpcode opcode => Sys2Proof.Machine.execMgmtBadOpcode opcode s
  | .qread addr => Sys2Proof.Machine.execQread addr s
  | .qreadDone => Sys2Proof.Machine.execQreadDone s
  | .slowWriteLand d => Sys2Proof.Machine.execSlowWriteLand d s
  | .registerWrite r addr data => Sys2Proof.Machine.execRegisterWrite r addr data s
  | .clearOnRead r addr => Sys2Proof.Machine.execClearOnRead r addr s
  | .legacyWriteOneClear r addr data => Sys2Proof.Machine.execLegacyWriteOneClear r addr data s
  | .counterLowRead r addr => Sys2Proof.Machine.execCounterLowRead r addr s
  | .racLockWrite data => Sys2Proof.Machine.execRacLockWrite data s
  | .racOwnerWrite data => Sys2Proof.Machine.execRacOwnerWrite data s
  | .portEnable p => Sys2Proof.Machine.execPortEnable p s
  | .portDisable p => Sys2Proof.Machine.execPortDisable p s
  | .blockLock p x => Sys2Proof.Machine.execBlockLock p x s
  | .blockLockLost p rx => Sys2Proof.Machine.execBlockLockLost p rx s
  | .laneForegroundCalDone p l trims => Sys2Proof.Machine.execLaneForegroundCalDone p l trims s
  | .adaptationDone p l ctle taps => Sys2Proof.Machine.execAdaptationDone p l ctle taps s
  | .amReceive p rx am => Sys2Proof.Machine.execAmReceive p rx am s
  | .amTransmit p => Sys2Proof.Machine.execAmTransmit p s
  | .txeqWrite p l data => Sys2Proof.Machine.execTxeqWrite p l data s
  | .trainToExchange p => Sys2Proof.Machine.execTrainToExchange p s
  | .bringupTimeout p => Sys2Proof.Machine.execBringupTimeout p s
  | .idleWaitEnd p => Sys2Proof.Machine.execIdleWaitEnd p s
  | .portUpSend p => Sys2Proof.Machine.execPortUpSend p s
  | .portUp p rx msg copy => Sys2Proof.Machine.execPortUp p rx msg copy s
  | .portUpAck p rx msg => Sys2Proof.Machine.execPortUpAck p rx msg s
  | .laneDrop p rx => Sys2Proof.Machine.execLaneDrop p rx s
  | .laneRestore p rx => Sys2Proof.Machine.execLaneRestore p rx s
  | .retrainReq p rx => Sys2Proof.Machine.execRetrainReq p rx s
  | .retrainDone p rx => Sys2Proof.Machine.execRetrainDone p rx s
  | .refresh p rx => Sys2Proof.Machine.execRefresh p rx s
  | .laneSignalLoss p l => Sys2Proof.Machine.execLaneSignalLoss p l s
  | .adaptFreeze p l => Sys2Proof.Machine.execAdaptFreeze p l s
  | .refreshBurst x => Sys2Proof.Machine.execRefreshBurst x s
  | .laneRestoreAttempt p => Sys2Proof.Machine.execLaneRestoreAttempt p s
  | .laneRestoreAbandon p => Sys2Proof.Machine.execLaneRestoreAbandon p s
  | .eyeScan p l h v => Sys2Proof.Machine.execEyeScan p l h v s
  | .retrainComplete p l => Sys2Proof.Machine.execRetrainComplete p l s
  | .retrainBurstEnd p h v => Sys2Proof.Machine.execRetrainBurstEnd p h v s
  | .portRestart p => Sys2Proof.Machine.execPortRestart p s
  | .laneRetrainCmd p l => Sys2Proof.Machine.execLaneRetrainCmd p l s
  | .testModeWrite p data => Sys2Proof.Machine.execTestModeWrite p data s
  | .prbsCheckerLock p x => Sys2Proof.Machine.execPrbsCheckerLock p x s
  | .mcpl p rx start data term => Sys2Proof.Machine.execMcpl p rx start data term s
  | .nudge p rx start term => Sys2Proof.Machine.execNudge p rx start term s
  | .rrd p rx start data term => Sys2Proof.Machine.execRrd p rx start data term s
  | .rwr p rx start data term after => Sys2Proof.Machine.execRwr p rx start data term after s
  | .ack p rx => Sys2Proof.Machine.execAck p rx s
  | .nak p rx => Sys2Proof.Machine.execNak p rx s
  | .credit p rx start data term => Sys2Proof.Machine.execCredit p rx start data term s
  | .badPacket x => Sys2Proof.Machine.execBadPacket x s
  | .malformedPacket p rx start data term => Sys2Proof.Machine.execMalformedPacket p rx start data term s
  | .ackSend p => Sys2Proof.Machine.execAckSend p s
  | .creditRepeat p => Sys2Proof.Machine.execCreditRepeat p s
  | .replayTimeout p => Sys2Proof.Machine.execReplayTimeout p s
  | .mrdTimeout p tag => Sys2Proof.Machine.execMrdTimeout p tag s
  | .tagQuarantineEnd p tag => Sys2Proof.Machine.execTagQuarantineEnd p tag s
  | .contextEnable c => Sys2Proof.Machine.execContextEnable c s
  | .contextDisable c => Sys2Proof.Machine.execContextDisable c s
  | .layerRightsWrite c data => Sys2Proof.Machine.execLayerRightsWrite c data s
  | .hcxQuotaWrite c data => Sys2Proof.Machine.execHcxQuotaWrite c data s
  | .doorbellPoll c sub cq eq => Sys2Proof.Machine.execDoorbellPoll c sub cq eq s
  | .descriptorFetch c n => Sys2Proof.Machine.execDescriptorFetch c n s
  | .nop c => Sys2Proof.Machine.execNop c s
  | .surfaceLoad c => Sys2Proof.Machine.execSurfaceLoad c s
  | .ingestComplete c serial => Sys2Proof.Machine.execIngestComplete c serial s
  | .framePresent c => Sys2Proof.Machine.execFramePresent c s
  | .layerParam c => Sys2Proof.Machine.execLayerParam c s
  | .brightness c => Sys2Proof.Machine.execBrightness c s
  | .clipDefine c => Sys2Proof.Machine.execClipDefine c s
  | .clipListChecked c => Sys2Proof.Machine.execClipListChecked c s
  | .clipPlay c => Sys2Proof.Machine.execClipPlay c s
  | .tableLoad c => Sys2Proof.Machine.execTableLoad c s
  | .tableLoadDataDone c serial => Sys2Proof.Machine.execTableLoadDataDone c serial s
  | .query c => Sys2Proof.Machine.execQuery c s
  | .queryResume c => Sys2Proof.Machine.execQueryResume c s
  | .fence c => Sys2Proof.Machine.execFence c s
  | .fenceComplete c => Sys2Proof.Machine.execFenceComplete c s
  | .descriptorBadOpcode c => Sys2Proof.Machine.execDescriptorBadOpcode c s
  | .completionWrite c => Sys2Proof.Machine.execCompletionWrite c s
  | .eventRingWrite c => Sys2Proof.Machine.execEventRingWrite c s
  | .evtRingOverflow c => Sys2Proof.Machine.execEvtRingOverflow c s
  | .failoverSwitchCmd c => Sys2Proof.Machine.execFailoverSwitchCmd c s
  | .frameBoundary b => Sys2Proof.Machine.execFrameBoundary b s
  | .compositionEnd cycles => Sys2Proof.Machine.execCompositionEnd cycles s
  | .bandCheckCompare agree third => Sys2Proof.Machine.execBandCheckCompare agree third s
  | .beRetireCmd data => Sys2Proof.Machine.execBeRetireCmd data s
  | .vitrineFlattenDone layers => Sys2Proof.Machine.execVitrineFlattenDone layers s
  | .vitrineCtlWrite data => Sys2Proof.Machine.execVitrineCtlWrite data s
  | .patrolScrub row err use => Sys2Proof.Machine.execPatrolScrub row err use s
  | .tableSwapCmd data => Sys2Proof.Machine.execTableSwapCmd data s
  | .tableBankCopyDone t => Sys2Proof.Machine.execTableBankCopyDone t s
  | .tableArchive t => Sys2Proof.Machine.execTableArchive t s
  | .pixTblDataAccess r write => Sys2Proof.Machine.execPixTblDataAccess r write s
  | .uploadStart bad => Sys2Proof.Machine.execUploadStart bad s
  | .fdone => Sys2Proof.Machine.execFdone s
  | .uploadDeadline => Sys2Proof.Machine.execUploadDeadline s
  | .sob => Sys2Proof.Machine.execSob s
  | .lmatch => Sys2Proof.Machine.execLmatch s
  | .glkInEdge x => Sys2Proof.Machine.execGlkInEdge x s
  | .glkInMissing => Sys2Proof.Machine.execGlkInMissing s
  | .lightGateChange core => Sys2Proof.Machine.execLightGateChange core s
  | .scnCommit data => Sys2Proof.Machine.execScnCommit data s
  | .driverReload trained => Sys2Proof.Machine.execDriverReload trained s
  | .statusRead => Sys2Proof.Machine.execStatusRead s
  | .statusReadDone words => Sys2Proof.Machine.execStatusReadDone words s
  | .diagBurst => Sys2Proof.Machine.execDiagBurst s
  | .diagSteal => Sys2Proof.Machine.execDiagSteal s
  | .diaClear => Sys2Proof.Machine.execDiaClear s
  | .diaRestart => Sys2Proof.Machine.execDiaRestart s
  | .faultmapArchive => Sys2Proof.Machine.execFaultmapArchive s
  | .diaMapDataAccess r => Sys2Proof.Machine.execDiaMapDataAccess r s
  | .diaFltDataAccess r => Sys2Proof.Machine.execDiaFltDataAccess r s
  | .cchCfgDataAccess r write => Sys2Proof.Machine.execCchCfgDataAccess r write s
  | .cchDstDataAccess r => Sys2Proof.Machine.execCchDstDataAccess r s
  | .gainUpdate => Sys2Proof.Machine.execGainUpdate s
  | .patinaSnapshotCopy => Sys2Proof.Machine.execPatinaSnapshotCopy s
  | .patinaSnapshot => Sys2Proof.Machine.execPatinaSnapshot s
  | .patSnapCmd => Sys2Proof.Machine.execPatSnapCmd s
  | .patZeroCmd => Sys2Proof.Machine.execPatZeroCmd s
  | .patDiscardCmd => Sys2Proof.Machine.execPatDiscardCmd s
  | .patDoseDataAccess r write => Sys2Proof.Machine.execPatDoseDataAccess r write s
  | .patCurveDataAccess r write => Sys2Proof.Machine.execPatCurveDataAccess r write s
  | .pwrGoodLow => Sys2Proof.Machine.execPwrGoodLow s
  | .pwrGoodRestored => Sys2Proof.Machine.execPwrGoodRestored s
  | .pwrFfUpdate => Sys2Proof.Machine.execPwrFfUpdate s
  | .primaryAperture t => Sys2Proof.Machine.execPrimaryAperture t s
  | .balanceGuardOpen => Sys2Proof.Machine.execBalanceGuardOpen s
  | .primaryResult cells current cal => Sys2Proof.Machine.execPrimaryResult cells current cal s
  | .sweepSlot slot raw dev => Sys2Proof.Machine.execSweepSlot slot raw dev s
  | .celProtClear => Sys2Proof.Machine.execCelProtClear s
  | .protClearEval => Sys2Proof.Machine.execProtClearEval s
  | .coulZero => Sys2Proof.Machine.execCoulZero s
  | .balReqWrite data => Sys2Proof.Machine.execBalReqWrite data s
  | .balExpired => Sys2Proof.Machine.execBalExpired s
  | .protLockWrite data => Sys2Proof.Machine.execProtLockWrite data s
  | .enum up f us => Sys2Proof.Machine.execEnum up f us s
  | .ident up f => Sys2Proof.Machine.execIdent up f s
  | .identReply up f => Sys2Proof.Machine.execIdentReply up f s
  | .identTimeout => Sys2Proof.Machine.execIdentTimeout s
  | .ping up f => Sys2Proof.Machine.execPing up f s
  | .echoSend => Sys2Proof.Machine.execEchoSend s
  | .echo up f rt => Sys2Proof.Machine.execEcho up f rt s
  | .setup up f => Sys2Proof.Machine.execSetup up f s
  | .trigger up f own phase => Sys2Proof.Machine.execTrigger up f own phase s
  | .read up f => Sys2Proof.Machine.execRead up f s
  | .response up f => Sys2Proof.Machine.execResponse up f s
  | .hbFrameDiscard x => Sys2Proof.Machine.execHbFrameDiscard x s
  | .headListenEnd => Sys2Proof.Machine.execHeadListenEnd s
  | .reenumerate => Sys2Proof.Machine.execReenumerate s
  | .ringEnumTimeout => Sys2Proof.Machine.execRingEnumTimeout s
  | .sweepStart now phase => Sys2Proof.Machine.execSweepStart now phase s
  | .responseMissing => Sys2Proof.Machine.execResponseMissing s
  | .sweepEnd => Sys2Proof.Machine.execSweepEnd s
  | .hbdOrphan => Sys2Proof.Machine.execHbdOrphan s
  | .stringRelease data => Sys2Proof.Machine.execStringRelease data s
  | .hbdReenumCmd => Sys2Proof.Machine.execHbdReenumCmd s
  | .xferHoldExpire => Sys2Proof.Machine.execXferHoldExpire s
  | .hbdMemDataAccess r => Sys2Proof.Machine.execHbdMemDataAccess r s
  | .safetyTick a b => Sys2Proof.Machine.execSafetyTick a b s
  | .discrepancyTimeout input => Sys2Proof.Machine.execDiscrepancyTimeout input s
  | .releaseDelayEnd => Sys2Proof.Machine.execReleaseDelayEnd s
  | .feedbackWindowExpire output => Sys2Proof.Machine.execFeedbackWindowExpire output s
  | .outputTestPulse ch => Sys2Proof.Machine.execOutputTestPulse ch s
  | .outputTestPulseEnd ch ok => Sys2Proof.Machine.execOutputTestPulseEnd ch ok s
  | .outputReadbackFail ch => Sys2Proof.Machine.execOutputReadbackFail ch s
  | .sgbMessageTimeout => Sys2Proof.Machine.execSgbMessageTimeout s
  | .protectionLineStop core => Sys2Proof.Machine.execProtectionLineStop core s
  | .outputRefreshTimeout ch => Sys2Proof.Machine.execOutputRefreshTimeout ch s
  | .safResetRequest data => Sys2Proof.Machine.execSafResetRequest data s
  | .safLockWrite data => Sys2Proof.Machine.execSafLockWrite data s
  | .safConfigWrite reg data => Sys2Proof.Machine.execSafConfigWrite reg data s
  | .housekeepingRound lamps dies => Sys2Proof.Machine.execHousekeepingRound lamps dies s
  | .thmResume => Sys2Proof.Machine.execThmResume s
  | .thermalHardCut die => Sys2Proof.Machine.execThermalHardCut die s
  | .hardCutRelease => Sys2Proof.Machine.execHardCutRelease s
  | .cvuCtlWrite u data => Sys2Proof.Machine.execCvuCtlWrite u data s
  | .cvuDataWrite u bytes => Sys2Proof.Machine.execCvuDataWrite u bytes s
  | .cvuRunWrite u data => Sys2Proof.Machine.execCvuRunWrite u data s
  | .cvuExpectWrite u data => Sys2Proof.Machine.execCvuExpectWrite u data s
  | .cvuRestart u => Sys2Proof.Machine.execCvuRestart u s
  | .cvuCompare u => Sys2Proof.Machine.execCvuCompare u s
  | .cvuAliveReset u => Sys2Proof.Machine.execCvuAliveReset u s
  | .cvuAliveWrite u data => Sys2Proof.Machine.execCvuAliveWrite u data s
  | .cvuAliveTimeout u => Sys2Proof.Machine.execCvuAliveTimeout u s
  | .mqPop => Sys2Proof.Machine.execMqPop s
  | .faultAck => Sys2Proof.Machine.execFaultAck s
  | .recordWrite ok => Sys2Proof.Machine.execRecordWrite ok s
  | .factoryClear data => Sys2Proof.Machine.execFactoryClear data s
  | .factoryClearDone => Sys2Proof.Machine.execFactoryClearDone s
  | .rgsRdDataAccess r => Sys2Proof.Machine.execRgsRdDataAccess r s
  | .handlerComplete => Sys2Proof.Machine.execHandlerComplete s
  | .laneBackgroundCal p l steps => Sys2Proof.Machine.execLaneBackgroundCal p l steps s
  | .calLaneRunCmd => Sys2Proof.Machine.execCalLaneRunCmd s
  | .cellCalRun byTemp => Sys2Proof.Machine.execCellCalRun byTemp s
  | .calCellRunCmd => Sys2Proof.Machine.execCalCellRunCmd s
  | .calAccessOpen data => Sys2Proof.Machine.execCalAccessOpen data s
  | .calAccessClose => Sys2Proof.Machine.execCalAccessClose s
  | .calCoefDataAccess r write => Sys2Proof.Machine.execCalCoefDataAccess r write s
  | .calArchive => Sys2Proof.Machine.execCalArchive s
  | .fwErase => Sys2Proof.Machine.execFwErase s
  | .fwEraseDone => Sys2Proof.Machine.execFwEraseDone s
  | .fwDataWrite data => Sys2Proof.Machine.execFwDataWrite data s
  | .fwVerify => Sys2Proof.Machine.execFwVerify s
  | .fwVerifyDone signed version => Sys2Proof.Machine.execFwVerifyDone signed version s
  | .fwSwitch => Sys2Proof.Machine.execFwSwitch s
  | .fwConfirmCmd => Sys2Proof.Machine.execFwConfirmCmd s
  | .fwConfirmTimeout => Sys2Proof.Machine.execFwConfirmTimeout s
  | .fwReadyTimeout => Sys2Proof.Machine.execFwReadyTimeout s
  | .serviceReload => Sys2Proof.Machine.execServiceReload s
  | .fuseBlow data viomOk => Sys2Proof.Machine.execFuseBlow data viomOk s
  | .fuseBlowDone mismatch => Sys2Proof.Machine.execFuseBlowDone mismatch s
  | .extest => Sys2Proof.Machine.execExtest s
  | .idcode => Sys2Proof.Machine.execIdcode s
  | .samplePreload balls => Sys2Proof.Machine.execSamplePreload balls s
  | .docentHalt => Sys2Proof.Machine.execDocentHalt s
  | .bypass => Sys2Proof.Machine.execBypass s
  | .signalDetect p l => Sys2Proof.Machine.execSignalDetect p l s
  | .cdrLock p l => Sys2Proof.Machine.execCdrLock p l s
  | .amMissing p rx => Sys2Proof.Machine.execAmMissing p rx s
  | .prbsCheckerLockLost p x => Sys2Proof.Machine.execPrbsCheckerLockLost p x s
  | .retrainTrainingBurst p => Sys2Proof.Machine.execRetrainTrainingBurst p s
  | .dramReadEccError row uncorrectable use => Sys2Proof.Machine.execDramReadEccError row uncorrectable use s
  | .lineVisitStart => Sys2Proof.Machine.execLineVisitStart s
  | .balanceGuardClose => Sys2Proof.Machine.execBalanceGuardClose s
  | .hbFrameRepeat up f => Sys2Proof.Machine.execHbFrameRepeat up f s

end Sys2Proof.Machine
end

