-- ==== Sys2Proof/Machine/Pins.lean ====
section
/-! DEFINITION. The output balls of the logic side (R50, R52): what each carries in a state of the block. -/

namespace Sys2Proof.Machine

/-- An output ball: the transmit lanes, the column chains and the row bus, the safety outputs SQ1_A, SQ1_B, SQ2_A, SQ2_B, and the
single ones. -/
inductive Ball where
  | tx (lane : Fin 8)
  | cd (chain : Fin 32)
  | dck (group : Fin 4)
  | lat (group : Fin 4)
  | gck (group : Fin 4)
  | ra (bit : Fin 6)
  | rowen
  | sq (output : Fin 4)
  | mio (bit : Fin 4)
  | irqN | faultN | ltref | tdo | glkOut | xfer | pwrFf
  deriving DecidableEq, Repr

/-- What a ball carries. `active`: it is driven, and what it carries goes out as `Output`s, is analog or comes from the boundary register. -/
inductive Level where
  | low | high | highZ | released | electricalIdle | active
  deriving DecidableEq, Repr

/-- Low or high. -/
def Level.of (b : Bool) : Level := if b then .high else .low

/-- The group of a chain is enabled in the active set. -/
def groupOn (s : State) (g : Nat) : Bool := (groupList (actSet s)).contains g

/-- A transmit lane is out of electrical idle: the logic side runs, and its port sends (R50, R124, R136). -/
def laneSends (s : State) (n : Nat) : Bool :=
  s.released && lanesPowered s && hasBit (vget s.port (n / 2)).lanes (n % 2) &&
    (transmits s (n / 2) || decide ((vget s.port (n / 2)).st = .test))

/-- The balls that the boundary register drives under EXTEST: the digital outputs but for the VIOC bank, on which the hold of R52
stays, and for the debug port's own (R544; log entry 104). -/
def boundaryDrives : Ball → Bool
  | .sq _ | .mio _ | .irqN | .faultN | .glkOut | .xfer | .pwrFf => true
  | .tx _ | .cd _ | .dck _ | .lat _ | .gck _ | .ra _ | .rowen | .ltref | .tdo => false

/-- What a ball carries but for EXTEST. In a reset every ball is at its reset state, but for the safety outputs, which a soft reset leaves to
the safety cores (R50, R52, R78). -/
def ballOwn (s : State) : Ball → Level
  | .tx n => if laneSends s n then .active else .electricalIdle
  | .cd n => if chainsDriven s && (chainList (actSet s)).contains n.val then .active else .low
  | .dck g => if chainsDriven s && groupOn s g then .active else .low
  | .lat g => if chainsDriven s && groupOn s g then .active else .low
  | .gck g => if chainsDriven s && s.scn.gck && groupOn s g then .active else .low
  | .ra n => Level.of (chainsDriven s && s.scn.ra.testBit n.val)
  | .rowen => Level.of (chainsDriven s && s.scn.rowen)
  | .sq n => Level.of ((!s.pwr.inReset || s.pwr.soft) && safOut s n.val)
  | .mio _ => .highZ
  | .irqN => if irqLow s then .low else .released
  | .faultN => if faultLow s then .low else .released
  | .ltref => if s.pwr.inReset then .highZ else .active
  | .tdo => .highZ
  | .glkOut => Level.of (s.released && s.scn.glkOut)
  | .xfer => if xferHigh s = 0 then .low else .active
  | .pwrFf => if s.released && s.fen.duty != 0 && !s.thm.hardCut then .active else .low

/-- What a ball carries. -/
def ballLevel (s : State) (b : Ball) : Level :=
  if decide (s.dbg.ir = .extest) && !s.pwr.inReset && boundaryDrives b then .active else ballOwn s b

/-- The reset state of R50. -/
def ballReset : Ball → Level
  | .tx _ => .electricalIdle
  | .mio _ => .highZ
  | .irqN => .released
  | .ltref => .highZ
  | .tdo => .highZ
  | _ => .low

end Sys2Proof.Machine
end

