-- ==== Sys2Proof/WellFormed.lean ====
section
/-! DEFINITION. Which commands can be sent: the bounds that the fields of their operands have. A command outside
them exists on no wire of the block, and its meaning stops with the fault `illFormed`. -/

namespace Sys2Proof

/-- What a safety core samples fits its four inputs, two feedback inputs and four outputs (R435). -/
def SafSamples.wf (x : SafSamples) : Bool :=
  decide (x.inputs ≤ 15) && decide (x.feedback ≤ 3) && decide (x.readback ≤ 15)

/-- A row of the DRAM: four channels of 16 banks of 8,192 rows (R203). -/
def rowWf (r : RowAt) : Bool := decide (r.channel < 4) && decide (r.bank < 16) && decide (r.row < 8192)

/-- The ten samples of LEGACY (R82), and words of the 99-word fuse array (R94). -/
def startWf (samples : List Bool) (eccBad : List Nat) : Bool :=
  samples.length == 10 && eccBad.all (fun w => decide (w ≤ 98))

/-- The bounds of a command's operands, those of a type that bounds them already apart. -/
def Instr.wf (i : Instr) : Bool :=
  match i with
  | .powerOnReset => true
  | .powerFailSave _ => true
  | .supplyReset => true
  | .aonStop => true
  | .regulatorFaultReset _ => true
  | .regulatorFaultRelease => true
  | .xiLoss => true
  | .xiLossRelease => true
  | .pinReset _ _ => true
  | .resetRelease samples _ eccBad => startWf samples eccBad
  | .legacyResample samples _ eccBad => startWf samples eccBad
  | .pllLock _ => true
  | .docentStart => true
  | .softReset _ => true
  | .standbyEnter _ => true
  | .standbyExit _ => true
  | .aonSlotWrite => true
  | .viocFault => true
  | .viocResume => true
  | .vddaFault => true
  | .vddaRestore => true
  | .refclkWindow _ => true
  | .scanPllUnlock => true
  | .scanPllRelock => true
  | .cellSideStart => true
  | .cellSideStop => true
  | .haStrapSample samples => samples.length == 4 && samples.all (fun v => decide (v ≤ 31))
  | .haStrapCheck strap => decide (strap ≤ 31)
  | .docentLockstep => true
  | .docentRestartDone => true
  | .sfbClockCheck _ => true
  | .eventStamp _ => true
  | .afeLinkLost => true
  | .afeLinkRestored => true
  | .logicLost => true
  | .mgmtRead addr _ _ => decide (addr < 2 ^ 32)
  | .mgmtWrite addr _ _ => decide (addr < 2 ^ 32)
  | .mgmtBadOpcode opcode => decide (opcode < 256) && opcode != 0x0B && opcode != 0x02 && opcode != 0x0C
  | .qread addr => decide (addr < 2 ^ 32)
  | .qreadDone => true
  | .slowWriteLand _ => true
  | .registerWrite _ _ _ => true
  | .clearOnRead _ _ => true
  | .legacyWriteOneClear _ _ _ => true
  | .counterLowRead _ _ => true
  | .racLockWrite _ => true
  | .racOwnerWrite _ => true
  | .portEnable _ => true
  | .portDisable _ => true
  | .blockLock _ _ => true
  | .blockLockLost _ _ => true
  | .laneForegroundCalDone _ _ trims => trims.length == 9
  | .adaptationDone _ _ ctle taps => decide (ctle < 16) && taps.length == 5 && taps.all (fun t => decide (-32 ≤ t) && decide (t ≤ 31))
  | .amReceive _ _ _ => true
  | .amTransmit _ => true
  | .txeqWrite _ _ _ => true
  | .trainToExchange _ => true
  | .bringupTimeout _ => true
  | .idleWaitEnd _ => true
  | .portUpSend _ => true
  | .portUp _ _ _ _ => true
  | .portUpAck _ _ _ => true
  | .laneDrop _ _ => true
  | .laneRestore _ _ => true
  | .retrainReq _ _ => true
  | .retrainDone _ _ => true
  | .refresh _ _ => true
  | .laneSignalLoss _ _ => true
  | .adaptFreeze _ _ => true
  | .refreshBurst _ => true
  | .laneRestoreAttempt _ => true
  | .laneRestoreAbandon _ => true
  | .eyeScan _ _ h v => decide (h < 64) && decide (v < 256)
  | .retrainComplete _ _ => true
  | .retrainBurstEnd _ _ _ => true
  | .portRestart _ => true
  | .laneRetrainCmd _ _ => true
  | .testModeWrite _ _ => true
  | .prbsCheckerLock _ _ => true
  | .mcpl _ _ _ _ _ => true
  | .nudge _ _ _ _ => true
  | .rrd _ _ _ _ _ => true
  | .rwr _ _ _ _ _ _ => true
  | .ack _ _ => true
  | .nak _ _ => true
  | .credit _ _ _ _ _ => true
  | .badPacket _ => true
  | .malformedPacket _ _ _ _ _ => true
  | .ackSend _ => true
  | .creditRepeat _ => true
  | .replayTimeout _ => true
  | .mrdTimeout _ _ => true
  | .tagQuarantineEnd _ _ => true
  | .contextEnable _ => true
  | .contextDisable _ => true
  | .layerRightsWrite _ _ => true
  | .hcxQuotaWrite _ _ => true
  | .doorbellPoll _ _ _ _ => true
  | .descriptorFetch _ _ => true
  | .nop _ => true
  | .surfaceLoad _ => true
  | .ingestComplete _ _ => true
  | .framePresent _ => true
  | .layerParam _ => true
  | .brightness _ => true
  | .clipDefine _ => true
  | .clipListChecked _ => true
  | .clipPlay _ => true
  | .tableLoad _ => true
  | .tableLoadDataDone _ _ => true
  | .query _ => true
  | .queryResume _ => true
  | .fence _ => true
  | .fenceComplete _ => true
  | .descriptorBadOpcode _ => true
  | .completionWrite _ => true
  | .eventRingWrite _ => true
  | .evtRingOverflow _ => true
  | .failoverSwitchCmd _ => true
  | .frameBoundary _ => true
  | .compositionEnd _ => true
  | .bandCheckCompare _ _ => true
  | .beRetireCmd _ => true
  | .vitrineFlattenDone _ => true
  | .vitrineCtlWrite _ => true
  | .patrolScrub row _ _ => rowWf row
  | .tableSwapCmd _ => true
  | .tableBankCopyDone t => t != 0 && decide (t ≤ 4)
  | .tableArchive t => t != 0 && decide (t ≤ 5)
  | .pixTblDataAccess _ _ => true
  | .uploadStart _ => true
  | .fdone => true
  | .uploadDeadline => true
  | .sob => true
  | .lmatch => true
  | .glkInEdge _ => true
  | .glkInMissing => true
  | .lightGateChange _ => true
  | .scnCommit _ => true
  | .driverReload trained => trained.length == 32
  | .statusRead => true
  | .statusReadDone words => words.length == 32
  | .diagBurst => true
  | .diagSteal => true
  | .diaClear => true
  | .diaRestart => true
  | .faultmapArchive => true
  | .diaMapDataAccess _ => true
  | .diaFltDataAccess _ => true
  | .cchCfgDataAccess _ _ => true
  | .cchDstDataAccess _ => true
  | .gainUpdate => true
  | .patinaSnapshotCopy => true
  | .patinaSnapshot => true
  | .patSnapCmd => true
  | .patZeroCmd => true
  | .patDiscardCmd => true
  | .patDoseDataAccess _ _ => true
  | .patCurveDataAccess _ _ => true
  | .pwrGoodLow => true
  | .pwrGoodRestored => true
  | .pwrFfUpdate => true
  | .primaryAperture _ => true
  | .balanceGuardOpen => true
  | .primaryResult cells _ _ => cells.length == 12 && cells.all (fun v => decide (v ≤ 65535))
  | .sweepSlot slot _ _ => decide (slot ≤ 18)
  | .celProtClear => true
  | .protClearEval => true
  | .coulZero => true
  | .balReqWrite _ => true
  | .balExpired => true
  | .protLockWrite _ => true
  | .enum _ f _ => f.payload.length == 2
  | .ident _ f => f.payload.length == 1
  | .identReply _ f => f.payload.length == 7
  | .identTimeout => true
  | .ping _ f => f.payload.length == 1
  | .echoSend => true
  | .echo _ f _ => f.payload.length == 1
  | .setup _ f => f.payload.length == 7
  | .trigger _ f _ _ => f.payload.length == 11
  | .read _ f => f.payload.length == 8
  | .response _ f => f.payload.length == 62 || f.payload.length == 54
  | .hbFrameDiscard x => !Machine.hbGood x.bytes
  | .headListenEnd => true
  | .reenumerate => true
  | .ringEnumTimeout => true
  | .sweepStart _ _ => true
  | .responseMissing => true
  | .sweepEnd => true
  | .hbdOrphan => true
  | .stringRelease _ => true
  | .hbdReenumCmd => true
  | .xferHoldExpire => true
  | .hbdMemDataAccess _ => true
  | .safetyTick a b => a.wf && b.wf
  | .discrepancyTimeout _ => true
  | .releaseDelayEnd => true
  | .feedbackWindowExpire _ => true
  | .outputTestPulse _ => true
  | .outputTestPulseEnd _ _ => true
  | .outputReadbackFail _ => true
  | .sgbMessageTimeout => true
  | .protectionLineStop _ => true
  | .outputRefreshTimeout _ => true
  | .safResetRequest _ => true
  | .safLockWrite _ => true
  | .safConfigWrite _ _ => true
  | .housekeepingRound lamps dies => lamps.length == 8 && dies.length == 4
  | .thmResume => true
  | .thermalHardCut _ => true
  | .hardCutRelease => true
  | .cvuCtlWrite _ _ => true
  | .cvuDataWrite _ _ => true
  | .cvuRunWrite _ _ => true
  | .cvuExpectWrite _ _ => true
  | .cvuRestart _ => true
  | .cvuCompare _ => true
  | .cvuAliveReset _ => true
  | .cvuAliveWrite _ _ => true
  | .cvuAliveTimeout _ => true
  | .mqPop => true
  | .faultAck => true
  | .recordWrite _ => true
  | .factoryClear _ => true
  | .factoryClearDone => true
  | .rgsRdDataAccess _ => true
  | .handlerComplete => true
  | .laneBackgroundCal _ _ steps => steps.all (fun st => decide (st.1 ≤ 8) && decide (st.2.natAbs ≤ 1))
  | .calLaneRunCmd => true
  | .cellCalRun _ => true
  | .calCellRunCmd => true
  | .calAccessOpen _ => true
  | .calAccessClose => true
  | .calCoefDataAccess _ _ => true
  | .calArchive => true
  | .fwErase => true
  | .fwEraseDone => true
  | .fwDataWrite _ => true
  | .fwVerify => true
  | .fwVerifyDone _ version => decide (version < 65536)
  | .fwSwitch => true
  | .fwConfirmCmd => true
  | .fwConfirmTimeout => true
  | .fwReadyTimeout => true
  | .serviceReload => true
  | .fuseBlow _ _ => true
  | .fuseBlowDone _ => true
  | .extest => true
  | .idcode => true
  | .samplePreload _ => true
  | .docentHalt => true
  | .bypass => true
  | .signalDetect _ _ => true
  | .cdrLock _ _ => true
  | .amMissing _ _ => true
  | .prbsCheckerLockLost _ _ => true
  | .retrainTrainingBurst _ => true
  | .dramReadEccError row _ _ => rowWf row
  | .lineVisitStart => true
  | .balanceGuardClose => true
  | .hbFrameRepeat _ f => decide (f.payload.length ≤ 64)

end Sys2Proof
end

