-- ==== Sys2Proof/Safety.lean ====
section
/-! DEFINITION. The words that statements about the block use: the canonical form of its maps, bits that every reader
sees, events that have been raised, and what a reset of the logic side leaves. -/

namespace Sys2Proof.Machine

/-- The registers, the captured registers and the class C copies are in their canonical form: addresses rise
strictly, and no copy is listed that holds 0. -/
def State.canonical (s : State) : Bool := kSorted s.regs && kSorted s.act && kWf (fun _ => 0) s.cbits

/-- A bit of a class C register is set in all five copies (R100). -/
def State.flagged (s : State) (addr bit : Nat) : Prop := ∀ r, r < 5 → (s.cCopy addr r).getLsbD bit = true

/-- An event of a kind waits at its source (R39, R192). -/
def State.waits (s : State) (src : Source) (k : EvKind) (inst : Nat) : Prop :=
  ∃ e, (src, e) ∈ s.evt.waiting ∧ e.code = k.code ∧ e.sev = k.sev ∧ e.inst = inst

/-- `t` has the waiting events of `s` and, behind them, one more of a kind and instance. -/
def State.raisedOne (s t : State) (src : Source) (k : EvKind) (inst : Nat) : Prop :=
  ∃ e, t.evt.waiting = s.evt.waiting ++ [(src, e)] ∧ e.code = k.code ∧ e.sev = k.sev ∧ e.inst = inst

/-- What a hard reset of the logic side leaves, with its cause (R75, R78): the reset asserted, the cause bit in every
copy of `GLB_RST_CAUSE` and those that were there, every other copy 0, every register outside the cell side at its
reset value, the safety cores and the link and display state at theirs, the rounding LFSR seeded with the frame counter, and
AON's counts, the cell side and the archive as they were, but for a snapshot slot that was being written. -/
def State.hardResetTo (s t : State) (cause : Nat) : Prop :=
  t.pwr.inReset = true ∧ t.pwr.soft = false ∧ t.pwr.standby = false ∧ t.pwr.docent = .off ∧
  t.pwr.coreLock = false ∧ t.pwr.memLock = false ∧ t.pwr.scanLock = false ∧ t.pwr.sfaLock = false ∧
  (∀ r, r < 5 → t.cCopy Reg.GLB_RST_CAUSE r = s.cCopy Reg.GLB_RST_CAUSE r ||| BitVec.ofNat 32 cause) ∧
  (∀ addr r, r < 5 → addr ≠ Reg.GLB_RST_CAUSE → t.cCopy addr r = 0) ∧
  (∀ addr, isCellAddr addr = false → t.reg addr = resetWord t.pwr.legacy t.pwr.viocClass addr) ∧
  (∀ addr, isCellAddr addr = true → kget 0 t.regs addr = kget 0 s.regs addr) ∧
  t.act = [] ∧ t.saf = {} ∧ t.port = Vector.replicate 4 {} ∧ t.ctx = Vector.replicate 4 {} ∧ t.cur = {} ∧
  t.layer = Vector.replicate 16 {} ∧ t.scn = {} ∧ t.cmt = {} ∧ t.cch = {} ∧ t.dia = {} ∧ t.thm = {} ∧
  t.pat = { lfsr := s.scn.frame % 2 ^ 32 } ∧ t.cvu = Vector.replicate 8 {} ∧ t.rgs = {} ∧ t.evt.mq = [] ∧
  t.arc = { s.arc with snap := t.arc.snap } ∧ (s.pat.staging = none → t.arc = s.arc) ∧
  t.cel = s.cel ∧ t.hb = s.hb ∧ t.pending = s.pending

/-- Two lanes that differ at most in what the transmit side of a lane counts. -/
def LaneState.rxSame (a b : LaneState) : Prop :=
  a = { b with txS := a.txS, txBip := a.txBip, txCount := a.txCount, txPrbs := a.txPrbs }

/-- The port of a command of reception, and the blocks that come on its lanes. -/
def rxOf : Instr → Option (Fin 4 × List RxSlot)
  | .amMissing p rx | .blockLockLost p rx | .laneDrop p rx | .laneRestore p rx | .retrainReq p rx | .retrainDone p rx
  | .refresh p rx | .ack p rx | .nak p rx => some (p, rx)
  | .amReceive p rx a | .portUpAck p rx a => some (p, rx ++ a)
  | .portUp p rx a b | .nudge p rx a b => some (p, rx ++ a ++ b)
  | .mcpl p rx a b c | .rrd p rx a b c | .credit p rx a b c | .malformedPacket p rx a b c => some (p, rx ++ a ++ b ++ c)
  | .rwr p rx a b c d => some (p, rx ++ a ++ b ++ c ++ d)
  | .badPacket x => some (x.port, x.rx)
  | _ => none

/-- The periods before the last bring nothing, and the last brings one thing; the port as it is then. -/
def PortState.lineOne (q : PortState) (p : Nat) : List RxSlot → Option (PortState × LineItem)
  | [] => none
  | x :: xs =>
    match q.lineSlot p x, xs with
    | (q, [i]), [] => some (q, i)
    | (q, []), y :: ys => q.lineOne p (y :: ys)
    | _, _ => none

/-- Blocks of the stream go through one after the other (R118, R139). -/
def PortState.rebuild (q : PortState) : List RxItem → PortState × List LineItem
  | [] => (q, [])
  | i :: is =>
    let r := q.reassemble i
    ((r.1.rebuild is).1, r.2 ++ (r.1.rebuild is).2)

/-- The blocks of a command of reception bring one thing to a port of a block that runs: `u` is the state on which it acts. -/
def State.brings (s : State) (c : Instr) (p : Fin 4) (i : LineItem) (u : State) : Prop :=
  s.awake = true ∧ ∃ rx q, rxOf c = some (p, rx) ∧ (vget s.port p.val).lineOne p.val rx = some (q, i) ∧
    u = s.modPort p.val (fun _ => q)

/-- A good TRANS packet with the next expected sequence number comes to a port that is UP (R153). -/
def State.bringsTrans (s : State) (c : Instr) (p : Fin 4) (x : Trans) (u : State) : Prop :=
  ∃ bs, s.brings c p (.packet bs) u ∧ packetGood bs = true ∧ kindOf bs = kindTrans ∧ transOf bs = x ∧
    (vget u.port p.val).st = .up ∧ x.seq = (vget u.port p.val).next

/-- A block of a lane. -/
def Output.isBlock : Output → Bool
  | .block _ _ _ => true
  | _ => false

/-- What leaves the block but for the blocks of the lanes. -/
def State.said (s : State) : List Output := s.out.filter (fun o => !o.isBlock)

/-- A packet has been issued on a port: it has left, and stays for a replay, or it waits for credits (R152, R154). -/
def State.issued (t : State) (p : Nat) (k : TxPacket) : Prop :=
  k ∈ (vget t.port p).txWait ∨ ∃ n, (n, k) ∈ (vget t.port p).replay

/-- The command that takes a descriptor of an opcode (R175). -/
def descCmd (op : Nat) (c : Fin 4) : Instr :=
  if op = 0 then .nop c else if op = 1 then .surfaceLoad c else if op = 2 then .framePresent c
  else if op = 3 then .layerParam c else if op = 4 then .brightness c else if op = 5 then .clipDefine c
  else if op = 6 then .clipPlay c else if op = 7 then .tableLoad c else if op = 8 then .query c
  else if op = 9 then .fence c else .descriptorBadOpcode c

/-- The completion of a descriptor with a status waits as the last of its context (R190). -/
def State.completedWith (s t : State) (c : Nat) (d : Desc) (status : Nat) : Prop :=
  ∃ k, (vget t.ctx c).cplq = (vget s.ctx c).cplq ++ [k] ∧ k.op = d.op ∧ k.status = status ∧ k.user = d.word 1 ∧
    k.slot = d.slot ∧ k.alive = d.bits 0 16 8 ∧ (k.released = true ↔ d.op = 1 ∨ d.op = 5 ∨ d.op = 7)

/-- A member acts on a frame that is for it alone and is no repeat of the last one of its sender (R410, R411). -/
def State.heeds (s : State) (f : HbFrame) : Prop :=
  hbMember s = true ∧ f.bcast = false ∧ f.dst = hbAddr s ∧ kfind s.hb.aliveOf f.src ≠ some f.alive

/-- A frame repeated on the other port with nothing else changed (R411). -/
def State.repeated (s : State) (up : Bool) (f : HbFrame) : State :=
  { s with out := s.out ++ [hbAgain up f] }

/-- The device sends one frame of its own, with the next ALIVE (R410). -/
def State.sent (s t : State) (up : Bool) (typ : Nat) (bcast : Bool) (dst : Nat) (payload : List Nat) : Prop :=
  t.out = s.out ++ [s.hbOut up typ ((s.hb.alive + 1) % 16) bcast dst payload] ∧ t.hb.alive = (s.hb.alive + 1) % 16

/-- The state outside the chain, the flags, the events and the outputs is as it was. -/
def State.chainOnly (s t : State) : Prop :=
  t.regs = s.regs ∧ t.act = s.act ∧ t.acc = s.acc ∧ t.port = s.port ∧ t.ctx = s.ctx ∧ t.cur = s.cur ∧
  t.scn = s.scn ∧ t.saf = s.saf ∧ t.pwr = s.pwr ∧ t.aon = s.aon ∧ t.arc = s.arc ∧ t.pending = s.pending

/-- One bit of R469's loop: `top = RUN[W−1] XOR b[k]`, then the shift and, where `top`, the polynomial. -/
def serialBit (w poly run : Nat) (bit : Bool) : Nat :=
  if (run.testBit (w - 1)) != bit then (run <<< 1) % 2 ^ w ^^^ poly else (run <<< 1) % 2 ^ w

/-- One byte of R469's loop, `k` from 7 down to 0. -/
def serialByte (w poly run byte : Nat) : Nat :=
  [7, 6, 5, 4, 3, 2, 1, 0].foldl (fun r k => serialBit w poly r (byte.testBit k)) run

end Sys2Proof.Machine
end

