-- ==== Sys2Proof/Certificates/Slice0/Obligations.lean ====
section
/-! DEFINITION. The statements for the provers, in the order of the spec's chapters. A statement of several parts is their
conjunction. -/

open Sys2Proof Sys2Proof.Machine

/-- R62, R64, R67, R71, R75, R78: each source of a hard reset resets the logic side with its cause and leaves the cell
side and the archive alone, but for a snapshot slot that is being written (log entry 97); a regulator fault and the
loss of XI hold the reset until their release, and a power-on loads the counters, counts the cycle and writes a slot.
R67, R68: AON writes its two slots alternately, each with both counters; a power-fail save that VIN does not carry
through leaves the other slot, and the counters, as they were. R76: RST_N ignores a pulse shorter than 100 ns, always
acts on one of 1 µs or longer, and a pulse between acts or is ignored, with no other effect; one that acts is a pin
reset, or ends a stand-by where it is shorter than 1 µs (R81). Model's choices: the PLLs unlock at a hard reset (log
entry 55), and slots of equal operating seconds (log entry 59). -/
def Obligations.HardResets : Prop :=
  ((∀ s : State, s.aon.running = false →
     ∃ t, exec .powerOnReset s = .next t ∧ t.pwr.inReset = true ∧ t.aon.running = true ∧
       t.aon.opsec = ((aonBest s).getD ⟨0, 0⟩).opsec ∧
       t.aon.pwrcyc = satAdd 32 ((aonBest s).getD ⟨0, 0⟩).pwrcyc 1 ∧
       vget t.arc.aon t.arc.aonLast = some ⟨t.aon.opsec, t.aon.pwrcyc⟩ ∧
       t.arc.aonLast % 2 = 1 - s.arc.aonLast % 2 ∧
       (∀ r, r < 5 → t.cCopy Reg.GLB_RST_CAUSE r = 1) ∧
       (aonBest s = none → t.waits .aon Ev.AON_RECORD_LOST 0) ∧
       t.cur = {} ∧ t.cel = s.cel ∧ t.hb = s.hb) ∧
   (∀ s : State, s.aon.running = true →
     (∃ t, exec .supplyReset s = .next t ∧ s.hardResetTo t 2 ∧ t.aon = s.aon) ∧
     (∃ t, exec .xiLoss s = .next t ∧ s.hardResetTo t 8 ∧ t.pwr.xiOk = false ∧ t.pwr.xiHold = true ∧ t.aon = s.aon) ∧
     (∃ t, exec .aonStop s = .next t ∧ t.aon.running = false ∧ t.pwr.inReset = true ∧ t.aon.opsec = s.aon.opsec ∧
       t.aon.pwrcyc = s.aon.pwrcyc ∧ t.arc = { s.arc with snap := t.arc.snap } ∧ t.cel = s.cel) ∧
     (∀ r, ∃ t, exec (.regulatorFaultReset r) s = .next t ∧ s.hardResetTo t 4 ∧ t.pwr.regulatorHold = true ∧
       t.aon = s.aon)) ∧
   (∀ s : State,
     exec .regulatorFaultRelease s = .next { s with pwr := { s.pwr with regulatorHold := false } } ∧
     exec .xiLossRelease s = .next { s with pwr := { s.pwr with xiOk := true, xiHold := false } })) ∧
  (∀ s : State, s.aon.running = true →
     (∃ t, exec .aonSlotWrite s = .next t ∧ t = { s with arc := t.arc } ∧
       t.arc = { s.arc with aon := t.arc.aon, aonLast := t.arc.aonLast } ∧
       t.arc.aonLast = 1 - s.arc.aonLast % 2 ∧
       vget t.arc.aon t.arc.aonLast = some ⟨s.aon.opsec, s.aon.pwrcyc⟩ ∧
       vget t.arc.aon s.arc.aonLast = vget s.arc.aon s.arc.aonLast) ∧
     exec (.powerFailSave true) s = exec .aonSlotWrite s ∧
     (∃ t, exec (.powerFailSave false) s = .next t ∧ t = { s with arc := t.arc } ∧
       vget t.arc.aon (1 - s.arc.aonLast % 2) = none ∧
       vget t.arc.aon s.arc.aonLast = vget s.arc.aon s.arc.aonLast)) ∧
  (∀ (ns : Nat) (acts : Bool) (s : State), s.aon.running = true →
     (ns < 100 → exec (.pinReset ns acts) s = .next s) ∧
     (1000 ≤ ns → ∃ t, exec (.pinReset ns acts) s = .next t ∧ s.hardResetTo t 16 ∧ t.aon = s.aon) ∧
     (100 ≤ ns → ns < 1000 → acts = false → exec (.pinReset ns acts) s = .next s) ∧
     (100 ≤ ns → ns < 1000 → acts = true → (s.pwr.standby = false ∨ s.pwr.inReset = true) →
       ∃ t, exec (.pinReset ns acts) s = .next t ∧ s.hardResetTo t 16 ∧ t.aon = s.aon) ∧
     (100 ≤ ns → ns < 1000 → acts = true → s.pwr.standby = true → s.pwr.inReset = false →
       ∃ t, exec (.pinReset ns acts) s = .next t ∧ t.pwr.standby = false ∧ t.pwr.inReset = false ∧
         t.flagged Reg.GLB_RST_CAUSE 6 ∧ t.regs = s.regs ∧ t.cur = s.cur))

/-- R79, R80, R82, R83: a keyed write of SOFT, alone or with STBY, resets the logic side but for the safety cores, the
SAF window and the management port's copies; an unkeyed write changes nothing; in a soft reset the write is dropped
with `RAC_STATUS.DROP`. R81: a management frame ends stand-by, is dropped and sets `RAC_STATUS.DROP` for its port;
RST_N ends it without. What the cell side reported meanwhile crosses, where the barrier channel carries frames (R564).
Model's choices: log entries 55 and 65. -/
def Obligations.SoftResetAndStandby : Prop :=
  ((∀ (s : State) (data : Word), s.pwr.inReset = true →
     (s.pwr.soft = true → exec (.softReset data) s = .next (s.setC1 Reg.RAC_STATUS 4 1) ∧
       exec (.standbyEnter data) s = .next (s.setC1 Reg.RAC_STATUS 4 1)) ∧
     (s.pwr.soft = false → exec (.softReset data) s = .next s ∧ exec (.standbyEnter data) s = .next s)) ∧
   (∀ (s : State) (data : Word), s.awake = true →
     (keyed data 0x5A = false → exec (.softReset data) s = .next s ∧ exec (.standbyEnter data) s = .next s) ∧
     (keyed data 0x5A = true → acts data 0 = true →
       ∃ t, exec (.softReset data) s = .next t ∧ t.pwr.inReset = true ∧ t.pwr.soft = true ∧ t.saf = s.saf ∧
         t.cel = s.cel ∧ t.hb = s.hb ∧ t.aon = s.aon ∧
         (∀ addr, isSafAddr addr = true → kget 0 t.regs addr = kget 0 s.regs addr) ∧
         (∀ addr, isSafAddr addr = false → isCellAddr addr = false → addr ≠ Reg.RAC_LOCK →
           t.reg addr = resetWord t.pwr.legacy t.pwr.viocClass addr) ∧
         (∀ addr, addr ≠ Reg.GLB_RST_CAUSE → t.cCopy addr 4 = s.cCopy addr 4) ∧
         (∀ addr r, r < 4 → addr ≠ Reg.GLB_RST_CAUSE → t.cCopy addr r = 0) ∧
         t.flagged Reg.GLB_RST_CAUSE 5 ∧ t.scn = {} ∧ t.cmt = {} ∧ t.ctx = Vector.replicate 4 {}) ∧
     (keyed data 0x5A = true → acts data 0 = false → acts data 1 = true →
       ∃ t, exec (.standbyEnter data) s = .next t ∧ t.pwr.standby = true ∧ t.pwr.inReset = false ∧
         t.pwr.coreLock = false ∧ t.pwr.memLock = false ∧ t.pwr.scanLock = false ∧ t.saf = s.saf ∧ t.aon = s.aon ∧
         t.cel = { s.cel with frozen := t.cel.frozen } ∧ t.scn.upload = none ∧ t.scn.rowen = false ∧ t.scn.gck = false ∧
         t.pix.composed = []))) ∧
  (∀ (s : State) (byPin : Bool), s.pwr.standby = true → s.pwr.inReset = false →
     ∃ t, exec (.standbyExit byPin) s = .next t ∧ t.pwr = { s.pwr with standby := false } ∧
       t.flagged Reg.GLB_RST_CAUSE 6 ∧ t.cmt.reload = true ∧
       t.cCopy Reg.RAC_STATUS 4 = (if byPin then s.cCopy Reg.RAC_STATUS 4 else s.cCopy Reg.RAC_STATUS 4 ||| 1) ∧
       t = { s with pwr := t.pwr, cmt := t.cmt, cbits := t.cbits, cel := t.cel } ∧
       (s.pwr.barrierOk = true → t.cel = { s.cel with frozen := [], errPend := 0, hbErrPend := 0 } ∧
         ∀ r, r < 5 → t.cCopy Reg.CEL_ERR r = s.cCopy Reg.CEL_ERR r ||| BitVec.ofNat 32 s.cel.errPend ∧
           t.cCopy Reg.HBD_ERR r = s.cCopy Reg.HBD_ERR r ||| BitVec.ofNat 32 s.cel.hbErrPend) ∧
       (s.pwr.barrierOk = false → t.cel.errPend = s.cel.errPend ∧ t.cel.hbErrPend = s.cel.hbErrPend))

/-- R79, R82, R83: once nothing holds the reset, ten agreeing samples of LEGACY set the mode and release the logic
side; disagreeing ones delay the release, and after 16 windows it starts in native mode with `LEGACY_UNSTABLE`. The
VIOC class is the window that VIOC lies in at that moment. The release of a soft reset keeps mode and class. A VIOC
outside its window and an absent VDDA_L are reported at each release (model's choice, log entry 76). -/
def Obligations.ReleaseMode : Prop :=
  ∀ (s : State) (samples : List Bool) (mv : Nat) (bad : List Nat), samples.length = 10 → (∀ w ∈ bad, w ≤ 98) →
    s.pwr.inReset = true → s.aon.running = true → s.pwr.regulatorHold = false → s.pwr.xiHold = false →
    (s.pwr.soft = true → s.pwr.legacyWindows = 0 →
      ∃ t, exec (.resetRelease samples mv bad) s = .next t ∧ t.pwr.inReset = false ∧ t.pwr.soft = false ∧
        t.pwr.legacy = s.pwr.legacy ∧ t.pwr.viocClass = s.pwr.viocClass ∧ t.waits .core Ev.SYSTEM_START 0 ∧
        (viocClassOf mv ≠ s.pwr.viocClass → t.waits .core Ev.VIOC_FAULT 0 ∧ t.pwr.viocOk = false) ∧
        (s.pwr.vddaOk = false → t.waits .core Ev.VDDA_FAULT 0)) ∧
    (s.pwr.soft = false →
    (s.pwr.legacyWindows = 0 → samplesAgree samples = true →
      ∃ t, exec (.resetRelease samples mv bad) s = .next t ∧ t.pwr.inReset = false ∧
        t.pwr.legacy = samples.all id ∧ t.pwr.legacyUnst = false ∧ t.pwr.viocClass = viocClassOf mv ∧
        t.waits .core Ev.SYSTEM_START 0 ∧ (viocClassOf mv = 3 → t.waits .core Ev.VIOC_FAULT 0) ∧
        (s.pwr.vddaOk = false → t.waits .core Ev.VDDA_FAULT 0)) ∧
    (s.pwr.legacyWindows = 0 → samplesAgree samples = false →
      exec (.resetRelease samples mv bad) s = .next { s with pwr := { s.pwr with legacyWindows := 1 } }) ∧
    (1 ≤ s.pwr.legacyWindows → s.pwr.legacyWindows < 15 → samplesAgree samples = false →
      exec (.legacyResample samples mv bad) s =
        .next { s with pwr := { s.pwr with legacyWindows := s.pwr.legacyWindows + 1 } }) ∧
    (1 ≤ s.pwr.legacyWindows → samplesAgree samples = true →
      ∃ t, exec (.legacyResample samples mv bad) s = .next t ∧ t.pwr.inReset = false ∧
        t.pwr.legacy = samples.all id ∧ t.pwr.legacyUnst = false ∧ t.pwr.viocClass = viocClassOf mv) ∧
    (s.pwr.legacyWindows = 15 → samplesAgree samples = false →
      ∃ t, exec (.legacyResample samples mv bad) s = .next t ∧ t.pwr.inReset = false ∧
        t.pwr.legacy = false ∧ t.pwr.legacyUnst = true ∧ t.waits .core Ev.LEGACY_UNSTABLE 0))

/-- R62, R70, R72, R74, R333: VIOC outside its window is reported, drops the upload and holds the outputs until it has
returned; VDDA_L out of its window takes every port down; a good REFCLK window counts up to three, and the third bad
one in a row loses REFCLK; each PLL's lock is noted. R466: a die at 125 °C takes the display dark at once and raises
the event; its release starts the tile at level 4 with a reload of the drivers. R381, R386: PWR_GOOD low puts the
lower limit in force with its flag and event, and its return the normal one, each once. Model's choices: log entries
56, 57 and 65. -/
def Obligations.SuppliesAndClocks : Prop :=
  (∀ s : State, s.released = true →
     (s.pwr.viocOk = true → ∃ t, exec .viocFault s = .next t ∧ t.pwr = { s.pwr with viocOk := false, viocHold := true } ∧
       t.waits .core Ev.VIOC_FAULT 0 ∧ t.scn.upload = none ∧ t.scn.rowen = false ∧ t.regs = s.regs) ∧
     (s.pwr.viocHold = true → s.pwr.viocClass < 3 →
       ∃ t, exec .viocResume s = .next t ∧ t.pwr = { s.pwr with viocOk := true, viocHold := false } ∧
         t.cmt = { s.cmt with reload := true } ∧ t = { s with pwr := t.pwr, cmt := t.cmt }) ∧
     (s.pwr.vddaOk = true → ∃ t, exec .vddaFault s = .next t ∧ t.pwr.vddaOk = false ∧ t.waits .core Ev.VDDA_FAULT 0 ∧
       ∀ p, (vget t.port p).st = .disabled ∨ (vget t.port p).st = .idleWait) ∧
     (s.pwr.vddaOk = false → ∃ t, exec .vddaRestore s = .next t ∧ t.pwr = { s.pwr with vddaOk := true } ∧ t.saf = s.saf) ∧
     (∀ ppm, refGood ppm = true → s.pwr.refLost = false →
       exec (.refclkWindow ppm) s =
         .next { s with pwr := { s.pwr with refOk := true, refBad := 0, refGood := min 3 (s.pwr.refGood + 1) } }) ∧
     (∀ ppm, refGood ppm = false → s.pwr.refLost = false → s.pwr.refBad = 2 →
       ∃ t, exec (.refclkWindow ppm) s = .next t ∧ t.pwr.refOk = false ∧ t.pwr.refLost = true ∧
         t.waits .core Ev.REFCLK_LOST 0) ∧
     (∃ t, exec (.pllLock .core) s = .next t ∧ t.pwr.coreLock = true) ∧
     exec (.pllLock .mem) s = .next { s with pwr := { s.pwr with memLock := true } } ∧
     exec (.pllLock .scan) s = .next { s with pwr := { s.pwr with scanLock := true, scanLost := false } } ∧
     exec (.pllLock .sfa) s = .next { s with pwr := { s.pwr with sfaLock := true } }) ∧
  (∀ (s : State) (die : Fin 4), s.released = true →
     (s.thm.hardCut = false → ∃ t, exec (.thermalHardCut die) s = .next t ∧ t.thm = { s.thm with hardCut := true } ∧
       t.scn.upload = none ∧ t.scn.rowen = false ∧ t.flagged Reg.THM_ERR 3 ∧
       t.waits .core Ev.THERMAL_HARD_CUT (8 + die.val) ∧ t.regs = s.regs) ∧
     (s.thm.hardCut = true → ∃ t, exec .hardCutRelease s = .next t ∧ t.thm.hardCut = false ∧ t.thm.level = 4 ∧
       t.cmt.reload = true ∧ t.saf = s.saf)) ∧
  (∀ s : State, s.awake = true →
     (s.fen.pgLow = false → ∃ t, exec .pwrGoodLow s = .next t ∧ t =
       { s with fen := t.fen, cbits := t.cbits, evt := t.evt } ∧
       t.fen = { s.fen with pgLow := true } ∧ limitNow t = fenFld s Reg.FEN_PLIM 16 16 ∧ t.flagged Reg.FEN_ERR 1 ∧
       s.raisedOne t .core Ev.PWR_NOT_GOOD 0) ∧
     (s.fen.pgLow = true → ∃ t, exec .pwrGoodRestored s = .next t ∧ t = { s with fen := t.fen, evt := t.evt } ∧
       t.fen = { s.fen with pgLow := false } ∧ limitNow t = fenFld s Reg.FEN_PLIM 0 16 ∧
       s.raisedOne t .core Ev.PWR_GOOD_RESTORED 0) ∧
     (s.fen.pgLow = true → exec .pwrGoodLow s = .next s) ∧ (s.fen.pgLow = false → exec .pwrGoodRestored s = .next s))

/-- R469: feeding one byte is the bit loop of the rule, most significant bit first, for every width, polynomial and
running value; a reflected input byte enters the loop reversed. R470, R472: an enabled unit takes the bytes of a write
in order and counts them, a disabled one none; RUN can be written, a restart loads INIT and clears BYTES and the
compare state, and EN written 1 restarts. No other unit and nothing else of the block changes. R476: a unit that has
accepted a first value and then none for ATMO ms is flagged and reported once; it is not reported again before a value
has been accepted, nor with ATMO or AEN 0. -/
def Obligations.CheckValueUnits : Prop :=
  ((∀ w poly run byte : Nat, (w = 8 ∨ w = 16 ∨ w = 32) → poly < 2 ^ w → run < 2 ^ w → byte < 256 →
     crcByte w poly run byte = serialByte w poly run byte) ∧
   (∀ (s : State) (u : Fin 8) (run byte : Nat), run < 2 ^ cvuWidth s u → byte < 256 →
     cvuByte s u run byte = serialByte (cvuWidth s u) (cvuLow s Reg.CVU_POLY u) run
       (if cvuCtl s u 3 1 = 1 then reverseBits 8 byte else byte))) ∧
  (∀ (u : Fin 8) (s : State),
     (∀ bytes, cvuEn s u = true → ∃ t, exec (.cvuDataWrite u bytes) s = .next t ∧ t = { s with cvu := t.cvu } ∧
       (vget t.cvu u).run = bytes.foldl (fun r b => cvuByte s u r b.toNat) (cvuRun s u) ∧
       (vget t.cvu u).bytes = satAdd 28 (vget s.cvu u).bytes bytes.length ∧
       (∀ v : Fin 8, v ≠ u → vget t.cvu v = vget s.cvu v)) ∧
     (∀ bytes, cvuEn s u = false → exec (.cvuDataWrite u bytes) s = .next s) ∧
     (∀ data, ∃ t, exec (.cvuRunWrite u data) s = .next t ∧ t = { s with cvu := t.cvu } ∧
       cvuRun t u = fld data 0 (cvuWidth s u) ∧ (∀ v : Fin 8, v ≠ u → vget t.cvu v = vget s.cvu v)) ∧
     (∃ t, exec (.cvuRestart u) s = .next t ∧ t = { s with cvu := t.cvu } ∧ cvuRun t u = cvuLow s Reg.CVU_INIT u ∧
       (vget t.cvu u).bytes = 0 ∧ (vget t.cvu u).cmp = 0 ∧ (∀ v : Fin 8, v ≠ u → vget t.cvu v = vget s.cvu v)) ∧
     (∀ data, ∃ t, exec (.cvuCtlWrite u data) s = .next t ∧ t = { s with regs := t.regs, cvu := t.cvu } ∧
       t.reg (cvuReg Reg.CVU_CTL u) = cvuCtlStored data ∧
       (∀ a, a ≠ cvuReg Reg.CVU_CTL u → t.reg a = s.reg a) ∧
       (data.getLsbD 0 = true → cvuRun t u = cvuLow t Reg.CVU_INIT u ∧ (vget t.cvu u).bytes = 0 ∧
         (vget t.cvu u).cmp = 0) ∧
       (data.getLsbD 0 = false → cvuRun t u = (vget s.cvu u).run % 2 ^ cvuWidth t u ∧
         (vget t.cvu u).bytes = (vget s.cvu u).bytes) ∧
       (∀ v : Fin 8, v ≠ u → vget t.cvu v = vget s.cvu v))) ∧
  (∀ (u : Fin 8) (s : State),
     (cvuCtl s u 7 1 = 1 → cvuCtl s u 16 16 ≠ 0 → (vget s.cvu u).first = false → (vget s.cvu u).stale = false →
       ∃ t, exec (.cvuAliveTimeout u) s = .next t ∧ t = { s with cvu := t.cvu, cbits := t.cbits, evt := t.evt } ∧
         t.flagged (cvuReg Reg.CVU_ERR u) 3 ∧ (vget t.cvu u).stale = true ∧
         (∃ e, t.evt = { s.evt with waiting := s.evt.waiting ++ [(.core, e)] } ∧ e.code = 0x1083 ∧ e.inst = u) ∧
         exec (.cvuAliveTimeout u) t = .next t) ∧
     ((cvuCtl s u 7 1 = 0 ∨ cvuCtl s u 16 16 = 0 ∨ (vget s.cvu u).first = true ∨ (vget s.cvu u).stale = true) →
       exec (.cvuAliveTimeout u) s = .next s))

/-- R474: a write of `CVU_EXPECT` stores the value and at once compares it with RESULT, and a COMPARE command compares
again with the stored value; both see every earlier data write, and the outcome reads in `CVU_STAT.CMP`. A mismatch
sets `CVU_ERR.MISMATCH` and raises `CVU_MISMATCH` at the unit's severity with RESULT and EXPECT, a match raises no
event, and a unit with EN = 0 makes no comparison and its CMP reads 0. Nothing else of the block changes. -/
def Obligations.ExpectAndCompare : Prop :=
  ∀ (u : Fin 8) (s : State),
    let cmp := fun (t : State) => (viewCvu t (cvuReg Reg.CVU_STAT u)).map (fun w => fld w 30 2)
    let ev := fun (x : Nat) => (⟨0x1081, cvuCtl s u 8 3, u, cvuResult s u, x, 0, none⟩ : Event)
    (∀ data, cvuEn s u = true → ∃ t, exec (.cvuExpectWrite u data) s = .next t ∧
      t = { s with regs := t.regs, cvu := t.cvu, cbits := t.cbits, evt := t.evt } ∧
      cvuLow t Reg.CVU_EXPECT u = fld data 0 (cvuWidth s u) ∧
      (∀ a, a ≠ cvuReg Reg.CVU_EXPECT u → t.reg a = s.reg a) ∧
      (∀ v : Fin 8, v ≠ u → vget t.cvu v = vget s.cvu v) ∧
      (cvuResult s u = fld data 0 (cvuWidth s u) → cmp t = some 1 ∧ t.cbits = s.cbits ∧ t.evt = s.evt) ∧
      (cvuResult s u ≠ fld data 0 (cvuWidth s u) → cmp t = some 2 ∧ t.flagged (cvuReg Reg.CVU_ERR u) 0 ∧
        t.evt = { s.evt with waiting := s.evt.waiting ++ [(.core, ev (fld data 0 (cvuWidth s u)))] })) ∧
    (∀ data, cvuEn s u = false → ∃ t, exec (.cvuExpectWrite u data) s = .next t ∧ t = { s with regs := t.regs } ∧
      cvuLow t Reg.CVU_EXPECT u = fld data 0 (cvuWidth s u) ∧ cmp t = some 0 ∧
      (∀ a, a ≠ cvuReg Reg.CVU_EXPECT u → t.reg a = s.reg a)) ∧
    (∀ bytes data, cvuEn s u = true → ∃ m, exec (.cvuDataWrite u bytes) s = .next m ∧
      (vget m.cvu u).run = bytes.foldl (fun r b => cvuByte s u r b.toNat) (cvuRun s u) ∧
      ∃ t, exec (.cvuExpectWrite u data) m = .next t ∧ (cmp t = some 1 ↔ cvuResult m u = fld data 0 (cvuWidth s u))) ∧
    (cvuEn s u = false → exec (.cvuCompare u) s = .next s) ∧
    (cvuEn s u = true → cvuResult s u = cvuLow s Reg.CVU_EXPECT u →
      ∃ t, exec (.cvuCompare u) s = .next t ∧ t = { s with cvu := t.cvu } ∧ cmp t = some 1 ∧
        (∀ v : Fin 8, v ≠ u → vget t.cvu v = vget s.cvu v)) ∧
    (cvuEn s u = true → cvuResult s u ≠ cvuLow s Reg.CVU_EXPECT u →
      ∃ t, exec (.cvuCompare u) s = .next t ∧ t = { s with cvu := t.cvu, cbits := t.cbits, evt := t.evt } ∧
        cmp t = some 2 ∧ t.flagged (cvuReg Reg.CVU_ERR u) 0 ∧
        (∀ v : Fin 8, v ≠ u → vget t.cvu v = vget s.cvu v) ∧
        t.evt = { s.evt with waiting := s.evt.waiting ++ [(.core, ev (cvuLow s Reg.CVU_EXPECT u))] })

/-- R475: the alive check of a unit. With AEN = 1 the first value after AEN is set or after ALIVE_RESET is accepted, L
+ 1 is accepted, L is a repeat and not accepted, and any other value is accepted with what it skipped. -/
def Obligations.AliveCounter : Prop :=
  ∀ (u : Fin 8) (s : State) (data : Word),
    (cvuCtl s u 7 1 = 0 → exec (.cvuAliveWrite u data) s = .next s) ∧
    (cvuCtl s u 7 1 = 1 → (vget s.cvu u).first = true →
      ∃ t, exec (.cvuAliveWrite u data) s = .next t ∧ t = { s with cvu := t.cvu } ∧
        (vget t.cvu u).last = fld data 0 (cvuAliveBits s u) ∧ (vget t.cvu u).first = false) ∧
    (cvuCtl s u 7 1 = 1 → (vget s.cvu u).first = false →
      fld data 0 (cvuAliveBits s u) = ((vget s.cvu u).last + 1) % 2 ^ cvuAliveBits s u →
      ∃ t, exec (.cvuAliveWrite u data) s = .next t ∧ t = { s with cvu := t.cvu } ∧
        (vget t.cvu u).last = fld data 0 (cvuAliveBits s u)) ∧
    (cvuCtl s u 7 1 = 1 → (vget s.cvu u).first = false → fld data 0 (cvuAliveBits s u) = (vget s.cvu u).last →
      ∃ t, exec (.cvuAliveWrite u data) s = .next t ∧ t = { s with cbits := t.cbits, evt := t.evt } ∧
        t.flagged (cvuReg Reg.CVU_ERR u) 1 ∧
        ∃ e, t.evt = { s.evt with waiting := s.evt.waiting ++ [(.core, e)] } ∧ e.code = 0x1082 ∧ e.inst = u) ∧
    (cvuCtl s u 7 1 = 1 → (vget s.cvu u).first = false → fld data 0 (cvuAliveBits s u) ≠ (vget s.cvu u).last →
      fld data 0 (cvuAliveBits s u) ≠ ((vget s.cvu u).last + 1) % 2 ^ cvuAliveBits s u →
      ∃ t, exec (.cvuAliveWrite u data) s = .next t ∧ t = { s with cvu := t.cvu, cbits := t.cbits, evt := t.evt } ∧
        (vget t.cvu u).last = fld data 0 (cvuAliveBits s u) ∧
        ((vget t.cvu u).skipped : Int) =
          ((fld data 0 (cvuAliveBits s u) : Int) - (vget s.cvu u).last - 1) % ((2 ^ cvuAliveBits s u : Nat) : Int) ∧
        t.flagged (cvuReg Reg.CVU_ERR u) 2 ∧
        ∃ e, t.evt = { s.evt with waiting := s.evt.waiting ++ [(.core, e)] } ∧ e.code = 0x1082 ∧ e.inst = u) ∧
    (∃ t, exec (.cvuAliveReset u) s = .next t ∧ t = { s with cvu := t.cvu } ∧ (vget t.cvu u).first = true) ∧
    (cvuCtl s u 7 1 = 0 → data.getLsbD 7 = true →
      ∃ t, exec (.cvuCtlWrite u data) s = .next t ∧ (vget t.cvu u).first = true)

/-- R456, R459, R462, R463: a housekeeping round takes every die reading and the reading of every enabled lamp sensor,
drops the disabled ones, and lets the tile level fall by at most one level; while the Docent is not running it changes
nothing. R465: RESUME ends the orderly stop once the tile has been cool for 600 rounds, and the tile leaves it at
level 4 with `THERMAL_RESUMED`; a RESUME written earlier changes nothing. Model's choices: log entries 13 and 14. -/
def Obligations.ThermalLadder : Prop :=
  (∀ (s : State) (lamps : List LampSample) (dies : List Int), lamps.length = 8 → dies.length = 4 →
     (s.awake = true → s.pwr.docent = .running → s.thm.level ≤ 4 →
       ∃ t, exec (.housekeepingRound lamps dies) s = .next t ∧
         (∀ i : Fin 4, vget t.thm.die i = dies.getD i 0) ∧
         (∀ n : Fin 8, hasBit (s.rfld Reg.THM_EN 0 8) n = true →
           (vget t.thm.lamp n).t = lampTemp (lamps.getD n ⟨0, 0⟩).ratio (lamps.getD n ⟨0, 0⟩).dev ∧
           ((vget t.thm.lamp n).isOpen = true ↔ 98500 < (lamps.getD n ⟨0, 0⟩).ratio) ∧
           ((vget t.thm.lamp n).short = true ↔ (lamps.getD n ⟨0, 0⟩).ratio < 1500)) ∧
         (∀ n : Fin 8, hasBit (s.rfld Reg.THM_EN 0 8) n = false → vget t.thm.lamp n = {}) ∧
         s.thm.level ≤ t.thm.level + 1 ∧ t.regs = s.regs ∧ t.saf = s.saf ∧ t.cel = s.cel) ∧
     (s.awake = true → s.pwr.docent ≠ .running → exec (.housekeepingRound lamps dies) s = .next s)) ∧
  (∀ s : State,
     (s.thm.stop ≠ .none → 600 ≤ s.thm.cool →
       ∃ t, exec .thmResume s = .next t ∧ t.thm.stop = .none ∧ t.thm.level = 4 ∧
         (∃ z, t.waits .core Ev.THERMAL_RESUMED z) ∧ t.regs = s.regs ∧ t.scn = s.scn) ∧
     ((s.thm.stop = .none ∨ s.thm.cool < 600) → exec .thmResume s = .next s))

/-- R432, R433, R434, R436: a decision of the last tick acts at this one: the segment demand stops its function with
SQ2 low, a light demand in CLOSING drives SQ1 low at once and in RUN starts the ramp, and an internal fault is the
safe state, gate 0 and SQ1 low, which nothing but a reset leaves. R438: with filter F a level held for F + 1 samples
is accepted, and one held for at most F samples is not; and a safety tick gives each core's filter its own sample of
each channel and takes one step of the alive count of its messages (R436; where a message is missing, the count
expected next is the model's, log entry 73). -/
def Obligations.SafetyDecisions : Prop :=
  (∀ (s : State) (a b : SafSamples), safRuns s = true → a.wf = true → b.wf = true →
     ∃ t, exec (.safetyTick a b) s = .next t ∧
       (s.saf.segDue = true → t.saf.seg = .stopped ∧ vget t.saf.out 2 = false ∧ vget t.saf.out 3 = false ∧
         safGate t = 0) ∧
       (s.saf.safeDue = true → t.saf.light = .safe ∧ t.saf.inSafe = true ∧ t.saf.gate = 0 ∧
         vget t.saf.out 0 = false ∧ vget t.saf.out 1 = false ∧ safGate t = 0) ∧
       (s.saf.inSafe = true → t.saf.inSafe = true) ∧
       (s.saf.light = .safe → s.saf.releaseLight = false → s.saf.stopLight = false → t.saf.light = .safe) ∧
       (s.saf.lightDue = true → s.saf.light = .closing → s.saf.runLight = false → s.saf.releaseLight = false →
         s.saf.safeDue = false →
         t.saf.light = .stopped ∧ vget t.saf.out 0 = false ∧ vget t.saf.out 1 = false ∧ t.saf.gate = 0) ∧
       (s.saf.lightDue = true → s.saf.light = .run → s.saf.skipRamp = false → s.saf.stopLight = false →
         s.saf.releaseLight = false → s.saf.safeDue = false → cfgRamp s.saf.cfgLight ≠ 0 → s.saf.gate ≠ 0 →
         t.saf.light = .ramp ∧ t.saf.l0 = s.saf.gate ∧ t.saf.j = 0 ∧ t.saf.gate = s.saf.gate)) ∧
  ((∀ (f : Nat) (x : SafInput) (level : Bool),
     ((List.replicate (f + 1) level).foldl (fun (y : SafInput) l => y.sample f l) x).demand = !level) ∧
   (∀ (f k : Nat) (d level : Bool), k ≤ f →
     ((List.replicate k level).foldl (fun (y : SafInput) l => y.sample f l) ({
       demand := d, run := 0 } : SafInput)).demand = d) ∧
   (∀ (s : State) (a b : SafSamples), safRuns s = true → a.wf = true → b.wf = true →
     ∃ t, exec (.safetyTick a b) s = .next t ∧ t.saf.tick = s.saf.tick + 1 ∧
       (∀ ch : Fin 4, vget t.saf.a.input ch =
         (vget s.saf.a.input ch).sample (cfgFilter s.saf.a.cfg) (hasBit a.inputs ch)) ∧
       (∀ ch : Fin 4, vget t.saf.b.input ch =
         (vget s.saf.b.input ch).sample (cfgFilter s.saf.b.cfg) (hasBit b.inputs ch)) ∧
       t.saf.lineA = a.line ∧ t.saf.lineB = b.line ∧ t.saf.a.rb = a.readback ∧ t.saf.b.rb = b.readback ∧
       t.saf.a.alive = wrapAdd 4 s.saf.a.alive 1 ∧ t.saf.b.alive = wrapAdd 4 s.saf.b.alive 1 ∧
       t.saf.a.heard = s.saf.a.expected a ∧ t.saf.b.heard = s.saf.b.expected b) ∧
   (∀ (s : State) (a b : SafSamples), safRuns s = false → a.wf = true → b.wf = true →
     exec (.safetyTick a b) s = .next s))

/-- R442: a light demand that acts in RUN with gate value L0 sets the gate to floor(L0 × (N − j) / N) at this tick, j
= 0, and at each later one for the next j, to 0 at once with N = 0; at the tick where it reaches 0, DELAY begins with
`SAF_RAMP.DELAY` ticks, each tick takes one, and after the last of them both cores drive SQ1 low. One that acts in
CLOSING drives SQ1 low at that tick, the one after its decision, with no ramp and no delay. A demand that skips the
ramp (R446) is not this rule's. -/
def Obligations.ReleaseRamp : Prop :=
  (∀ (s : State) (a b : SafSamples), safRuns s = true → a.wf = true → b.wf = true → s.saf.lightDue = true →
    s.saf.skipRamp = false → s.saf.releaseLight = false → s.saf.stopLight = false → s.saf.safeDue = false →
    (s.saf.light = .run → ∃ t, exec (.safetyTick a b) s = .next t ∧ t.saf.j = 0 ∧ t.saf.l0 = s.saf.gate ∧
      t.saf.gate = (if cfgRamp s.saf.cfgLight = 0 then 0
        else s.saf.gate * cfgRamp s.saf.cfgLight / cfgRamp s.saf.cfgLight) ∧
      (t.saf.gate ≠ 0 → t.saf.light = .ramp) ∧
      (t.saf.gate = 0 → t.saf.light = .delay ∧ t.saf.delayLeft = cfgDelay s.saf.cfgLight)) ∧
    (s.saf.light = .closing → s.saf.runLight = false → ∃ t, exec (.safetyTick a b) s = .next t ∧
      t.saf.light = .stopped ∧ vget t.saf.out 0 = false ∧ vget t.saf.out 1 = false ∧ t.saf.gate = 0)) ∧
  (∀ (s : State) (a b : SafSamples), safRuns s = true → a.wf = true → b.wf = true → s.saf.light = .ramp →
    s.saf.releaseLight = false → s.saf.stopLight = false → s.saf.safeDue = false →
    ∃ t, exec (.safetyTick a b) s = .next t ∧ t.saf.j = s.saf.j + 1 ∧ t.saf.l0 = s.saf.l0 ∧
      t.saf.gate = (if cfgRamp s.saf.cfgLight = 0 then 0
        else s.saf.l0 * (cfgRamp s.saf.cfgLight - (s.saf.j + 1)) / cfgRamp s.saf.cfgLight) ∧
      (t.saf.gate ≠ 0 → t.saf.light = .ramp) ∧
      (t.saf.gate = 0 → t.saf.light = .delay ∧ t.saf.delayLeft = cfgDelay s.saf.cfgLight)) ∧
  (∀ (s : State) (a b : SafSamples), safRuns s = true → a.wf = true → b.wf = true → s.saf.light = .delay →
    s.saf.releaseLight = false → s.saf.stopLight = false → s.saf.safeDue = false →
    ∃ t, exec (.safetyTick a b) s = .next t ∧ t.saf.light = .delay ∧ t.saf.delayLeft = s.saf.delayLeft - 1) ∧
  (∀ s : State, safRuns s = true → s.saf.light = .delay → s.saf.delayLeft = 0 →
    ∃ t, exec .releaseDelayEnd s = .next t ∧ t.saf.light = .stopped ∧ vget t.saf.out 0 = false ∧
      vget t.saf.out 1 = false ∧ t.saf.gate = s.saf.gate) ∧
  (∀ s : State, s.saf.light = .delay → s.saf.delayLeft ≠ 0 → exec .releaseDelayEnd s = .next s)

/-- R22, R433, R436, R437, R439, R443 to R446: what stops an output or a core. A discrepancy of an enabled input and a
feedback window that has passed latch their faults; a test pulse takes its own channel low, is skipped in RAMP and
DELAY, and a read-back that does not follow, in it or outside it, is an internal fault that takes both functions to a
stop; a core that hears no message for its time enters the safe state at once; a protection line that stops takes its
SQ2 channel low and demands the segment function; SFB outside 86.4 to 105.6 MHz is a fault; a channel that is not
refreshed falls. -/
def Obligations.SafetyFaults : Prop :=
  (∀ s : State, safRuns s = true →
    (∀ (i : Fin 2) (t0 : Nat) (d : Bool), vget s.saf.follow i = some (t0, d) → cfgInEn s.saf.a.cfg i = true →
      t0 + cfgTd s.saf.a.cfg ≤ s.saf.tick →
      ∃ t, exec (.discrepancyTimeout i) s = .next t ∧ hasBit t.saf.fault i = true) ∧
    (∀ o : Fin 2, cfgFbEn (safCfgOf s o.val) o.val = true → vget s.saf.fbOk o.val = false →
      vget s.saf.outAt o.val + cfgFbwin (safCfgOf s o.val) ≤ s.saf.tick →
      ((vget s.saf.out (2 * o.val) = true ∨ vget s.saf.out (2 * o.val + 1) = true) →
        ∃ t, exec (.feedbackWindowExpire o) s = .next t ∧ hasBit t.saf.fault (6 + o.val) = true ∧
          (o = 0 → t.saf.stopLight = true) ∧ (o = 1 → t.saf.stopSeg = true)) ∧
      (vget s.saf.out (2 * o.val) = false → vget s.saf.out (2 * o.val + 1) = false →
        ∃ t, exec (.feedbackWindowExpire o) s = .next t ∧ hasBit t.saf.fault (4 + o.val) = true)) ∧
    (∀ ch : Fin 4, cfgTest (safCfgOf s (ch.val / 2)) (ch.val / 2) = true → vget s.saf.out ch = true →
      s.saf.tick % 1000 = 250 * ch.val → s.saf.light ≠ .ramp → s.saf.light ≠ .delay → s.saf.pulse = none →
      hasBit s.saf.abandoned (ch.val / 2) = false → safFalling s (ch.val / 2) = false →
      ∃ t, exec (.outputTestPulse ch) s = .next t ∧ safOut t ch = false ∧
        (∀ c : Fin 4, c ≠ ch → safOut t c = safOut s c) ∧ t = { s with saf := t.saf }) ∧
    (∀ ch : Fin 4, (s.saf.light = .ramp ∨ s.saf.light = .delay ∨ safFalling s (ch.val / 2) = true) →
      exec (.outputTestPulse ch) s = .next s) ∧
    (∀ ch : Fin 4, s.saf.pulse = some ch.val →
      ∃ t, exec (.outputTestPulseEnd ch true) s = .next t ∧ t.saf.pulse = none ∧
        safOut t ch = vget s.saf.out ch ∧ t = { s with saf := t.saf }) ∧
    (∀ ch : Fin 4, s.saf.pulse = some ch.val →
      ∃ t, exec (.outputTestPulseEnd ch false) s = .next t ∧ hasBit t.saf.fault 8 = true ∧
        (s.saf.inSafe = false → t.saf.safeDue = true) ∧ (s.saf.seg ≠ .stopped → t.saf.segDue = true)) ∧
    (∀ ch : Fin 4, s.saf.pulse ≠ some ch.val →
      ∃ t, exec (.outputReadbackFail ch) s = .next t ∧ hasBit t.saf.fault 8 = true ∧
        (s.saf.inSafe = false → t.saf.safeDue = true) ∧ (s.saf.seg ≠ .stopped → t.saf.segDue = true)) ∧
    (∃ t, exec .sgbMessageTimeout s = .next t ∧ t.saf.light = .safe ∧ t.saf.gate = 0 ∧ vget t.saf.out 0 = false ∧
      vget t.saf.out 1 = false ∧ hasBit t.saf.fault 9 = true) ∧
    (∃ t, exec (.protectionLineStop .a) s = .next t ∧ t.saf.lineA = false ∧ vget t.saf.out 2 = false ∧
      (s.saf.seg ≠ .stopped → t.saf.segDue = true)) ∧
    (∃ t, exec (.protectionLineStop .b) s = .next t ∧ t.saf.lineB = false ∧ vget t.saf.out 3 = false ∧
      (s.saf.seg ≠ .stopped → t.saf.segDue = true)) ∧
    (∀ khz, (khz < 86400 ∨ 105600 < khz) → hasBit s.saf.fault 10 = false →
      ∃ t, exec (.sfbClockCheck khz) s = .next t ∧ hasBit t.saf.fault 10 = true ∧
        (s.saf.inSafe = false → t.saf.safeDue = true) ∧ s.raisedOne t .sfa Ev.SAF_CLOCK_FAULT 0) ∧
    (∀ khz, 86400 ≤ khz → khz ≤ 105600 → exec (.sfbClockCheck khz) s = .next s)) ∧
  (∀ (s : State) (ch : Fin 4), ∃ t, exec (.outputRefreshTimeout ch) s = .next t ∧ vget t.saf.out ch = false ∧
    (∀ c : Fin 4, c ≠ ch → vget t.saf.out c = vget s.saf.out c) ∧
    t = { s with saf := { s.saf with out := t.saf.out, outAt := t.saf.outAt, fbOk := t.saf.fbOk } } ∧
    ((vget t.saf.out (2 * (ch.val / 2)) = true ∨ vget t.saf.out (2 * (ch.val / 2) + 1) = true) →
      t.saf.fbOk = s.saf.fbOk) ∧
    (vget s.saf.out ch = true → vget t.saf.out (2 * (ch.val / 2)) = false →
      vget t.saf.out (2 * (ch.val / 2) + 1) = false → vget t.saf.fbOk (ch.val / 2) = false ∧
        vget t.saf.outAt (ch.val / 2) = s.saf.tick))

/-- R447: a keyed request waits for the next tick; there, with the configuration not locked, both stopped functions
refuse it with cause 1, the refusal is counted and flagged, and the request is spent. R21, R450, R451: a configuration
write lands in both cores' copies; the lock needs the value of both CRCs and ends every later write, another value
locks nothing and raises `SAF_LOCK_REFUSED`. -/
def Obligations.SafetyCommands : Prop :=
  ((∀ (s : State) (data : Word), safRuns s = true →
     (keyed data 0xA5 = true → acts data 0 = true →
       exec (.safResetRequest data) s = .next { s with saf := { s.saf with request := true } }) ∧
     ((keyed data 0xA5 = false ∨ acts data 0 = false) → exec (.safResetRequest data) s = .next s)) ∧
   (∀ (s : State) (a b : SafSamples), safRuns s = true → a.wf = true → b.wf = true → s.saf.request = true →
     s.saf.locked = false → s.saf.light = .stopped → s.saf.seg = .stopped → s.saf.releaseLight = false →
     s.saf.releaseSeg = false →
     ∃ t, exec (.safetyTick a b) s = .next t ∧ t.saf.request = false ∧ t.saf.refuseLight = 1 ∧ t.saf.refuseSeg = 1 ∧
       t.saf.refused = satAdd 16 s.saf.refused 1 ∧ t.flagged Reg.SAF_ERR 6 ∧ t.saf.releaseLight = false ∧
       t.saf.releaseSeg = false)) ∧
  (∀ s : State, safRuns s = true →
     (s.saf.locked = false → ∀ (reg : Fin 4) (data : Word), ∃ t, exec (.safConfigWrite reg data) s = .next t ∧
       t.reg (Reg.SAF_IN_CTL + 4 * reg.val) = safStored reg data ∧
       (∀ a, a ≠ Reg.SAF_IN_CTL + 4 * reg.val → t.reg a = s.reg a) ∧
       t.saf.a.cfg = safRegs t ∧ t.saf.b.cfg = safRegs t ∧ cfgCrc t.saf.a.cfg = cfgCrc t.saf.b.cfg ∧
       t.saf.cfgLight = s.saf.cfgLight ∧ t.saf.cfgSeg = s.saf.cfgSeg ∧
       t = { s with regs := t.regs, saf := t.saf }) ∧
     (s.saf.locked = true → ∀ (reg : Fin 4) (data : Word), exec (.safConfigWrite reg data) s = .next s) ∧
     (∀ data : Word, s.saf.locked = false → data.toNat = cfgCrc s.saf.a.cfg → data.toNat = cfgCrc s.saf.b.cfg →
       ∃ t, exec (.safLockWrite data) s = .next t ∧ t.saf = { s.saf with locked := true } ∧
         s.raisedOne t .sfa Ev.SAF_LOCKED 0 ∧ t.regs = s.regs) ∧
     (∀ data : Word, s.saf.locked = false → (data.toNat ≠ cfgCrc s.saf.a.cfg ∨ data.toNat ≠ cfgCrc s.saf.b.cfg) →
       ∃ t, exec (.safLockWrite data) s = .next t ∧ t.saf = s.saf ∧ s.raisedOne t .sfa Ev.SAF_LOCK_REFUSED 0 ∧
         t.regs = s.regs) ∧
     (∀ data : Word, s.saf.locked = true → exec (.safLockWrite data) s = .next s))

/-- What the commands of the safety cores leave alone: every command of the family leaves everything but the safety
cores themselves, the SAF window's configuration, `SAF_ERR` and the waiting events as it was. What the commands of the
lanes leave alone, and what comes on the lanes but for packets: the safety cores, the cell side and the chain, the
supplies, the always-on counters, scan-out, the thermal state, the check-value units, Patina, the fuses and the
archive. -/
def Obligations.CommandFrames : Prop :=
  (∀ (c : Instr) (s t : State),
     (match c with
       | .safetyTick _ _ | .discrepancyTimeout _ | .releaseDelayEnd | .feedbackWindowExpire _ | .outputTestPulse _
       | .outputTestPulseEnd _ _ | .outputReadbackFail _ | .sgbMessageTimeout | .protectionLineStop _
       | .outputRefreshTimeout _ | .sfbClockCheck _ | .safResetRequest _ | .safLockWrite _ | .safConfigWrite _ _ => true
       | _ => false) = true →
     exec c s = .next t →
     t = { s with saf := t.saf, regs := t.regs, cbits := t.cbits, evt := { s.evt with waiting := t.evt.waiting } } ∧
     s.evt.waiting <+: t.evt.waiting ∧
     (∀ a r, r < 5 → a ≠ Reg.SAF_ERR → t.cCopy a r = s.cCopy a r) ∧
     (∀ a, (match c with
       | .safConfigWrite reg _ => a != Reg.SAF_IN_CTL + 4 * reg.val
       | _ => true) = true → t.reg a = s.reg a)) ∧
  (let same := fun (s t : State) => t.saf = s.saf ∧ t.cel = s.cel ∧ t.hb = s.hb ∧ t.pwr = s.pwr ∧ t.aon = s.aon ∧
     t.scn = s.scn ∧ t.thm = s.thm ∧ t.cvu = s.cvu ∧ t.pat = s.pat ∧ t.fuse = s.fuse ∧ t.arc = s.arc ∧ t.act = s.act
   (∀ (c : Instr) (s t : State),
     (match c with
       | .portEnable _ | .portDisable _ | .blockLock _ _ | .laneForegroundCalDone _ _ _
       | .adaptationDone _ _ _ _ | .amTransmit _ | .txeqWrite _ _ _ | .trainToExchange _
       | .bringupTimeout _ | .idleWaitEnd _ | .portUpSend _ | .laneSignalLoss _ _ | .adaptFreeze _ _
       | .refreshBurst _ | .laneRestoreAttempt _ | .laneRestoreAbandon _ | .eyeScan _ _ _ _ | .retrainComplete _ _
       | .retrainBurstEnd _ _ _ | .portRestart _ | .laneRetrainCmd _ _ | .testModeWrite _ _ | .prbsCheckerLock _ _
       | .signalDetect _ _ | .cdrLock _ _ | .prbsCheckerLockLost _ _ | .retrainTrainingBurst _ => true
       | _ => false) = true →
     exec c s = .next t → same s t ∧
     (∀ a, (match c with
       | .portEnable p | .portDisable p => a != yzlReg Reg.YZL_PORT_CTL p.val
       | .txeqWrite p l _ => a != yzlReg (Reg.YZL_TXEQ0 + 4 * l.val) p.val
       | .testModeWrite p _ => a != yzlReg Reg.YZL_TEST p.val
       | _ => true) = true → t.reg a = s.reg a)) ∧
   (∀ (c : Instr) (p : Fin 4) (i : LineItem) (s u t : State), s.brings c p i u → (∀ bs, i ≠ .packet bs) →
     exec c s = .next t → same s t ∧ t.regs = s.regs))

/-- R117 to R120, R123: line coding and its inverse agree. A descrambler at the scrambler's content gives the payload
back and keeps step, and one at any content is in step after one block; a marker shows its lane, count and parity, and
an inverted one is known as such; a LINK_MSG shows its code and its field, and its CRC holds. R118, R125, R139: what
the blocks on a port's lanes bring is what takes effect, whatever row names the command; nothing is received while
CORE does not run, and blocks of a lane without block lock bring nothing. The model's choice of the commands' form is
log entry 90. Model's choices: log entries 83 and 90. -/
def Obligations.LineCoding : Prop :=
  ((∀ (x : BitVec 58) (w : BitVec 64), descramble x (scramble x w).1 = (w, (scramble x w).2)) ∧
   (∀ (x y : BitVec 58) (w : BitVec 64), (descramble y (scramble x w).1).2 = (scramble x w).2) ∧
   (∀ w : BitVec 64, payloadOf (payloadBits w) = w ∧ bytesPay (payBytes w) = w ∧ classify (dataBlock w) w = .data w) ∧
   (∀ b : Block, invertBlock (invertBlock b) = b ∧ isInverted (invertBlock b) = isMarker b) ∧
   (∀ (p l count : Nat) (bip : BitVec 8), p < 4 → l < 2 → count < 256 →
     let w := amPayload p l count bip
     isMarker (controlBlock w) = true ∧ markerOk p w = true ∧ payFld w 16 2 = l ∧ payByte w 3 = count ∧
       payByte w 7 = bip.toNat ∧ ∀ q, q < 4 → q ≠ p → markerOk q w = false) ∧
   (∀ code field : Nat, code < 256 → field < 2 ^ 40 →
     let w := msgPayload code field
     msgOk w = true ∧ payByte w 1 = code ∧ payFld w 16 40 = field ∧ classify (controlBlock w) w = .msg w)) ∧
  ((∀ (c d : Instr) (p : Fin 4) (rx : List RxSlot) (s : State), rxOf c = some (p, rx) → rxOf d = some (p, rx) →
     exec c s = exec d s) ∧
   (∀ (c : Instr) (p : Fin 4) (rx : List RxSlot) (s : State), rxOf c = some (p, rx) → (s.awake = false ∨ rx = []) →
     exec c s = .next s) ∧
   (∀ (q : PortState) (p l : Nat) (b : Block), (vget q.lane l).block = false → q.lineBlock p l b = (q, [])))

/-- R139 to R145: packets and their bytes agree. The blocks of a packet's framing give its bytes back to a port that
is UP; a packet is good, and shows its KIND and SEQ; each packet that the device sends shows its type, tag, length,
status, its three dwords and its payload in their places, with padding of zeros; a CREDIT's content word shows its
pool, INF and counts. Model's choice: an IDLE within a packet (log entry 84). -/
def Obligations.PacketCoding : Prop :=
  (∀ (bs : List Nat) (q : PortState), 7 ≤ bs.length → (∀ b ∈ bs, b < 256) → q.st = .up → q.rxOpen = none →
    q.rebuild ((frame bs).map (fun b => classify b b.payload)) = (q, [.packet bs]) ∧
      (frame bs).length = 2 + (bs.length - 7) / 8 ∧ ∀ b ∈ frame bs, headerValid b = true) ∧
  (∀ (bs old : List Nat) (q : PortState), q.st = .up → q.rxOpen = some old →
    q.reassemble (.start bs) = ({ q with rxOpen := some bs }, [.broken old])) ∧
  (∀ (kind seq : Nat) (body : List Nat), kind < 16 → 4 ≤ body.length → body.length ≤ 2032 → body.length % 4 = 0 →
    (∀ b ∈ body, b < 256) → packetGood (packetBytes kind seq body) = true ∧ kindOf (packetBytes kind seq body) = kind ∧
      seqOf (packetBytes kind seq body) = seq % 4096) ∧
  (∀ (k : TxPacket) (seq : Nat), kindOf (k.bytes seq) = 1 ∧ seqOf (k.bytes seq) = seq % 4096) ∧
  (∀ seq tag addr count : Nat, tag < 256 → addr < 2 ^ 64 → count < 2 ^ 32 →
    packetGood ((TxPacket.mrd tag addr count).bytes seq) = true ∧
    transOf ((TxPacket.mrd tag addr count).bytes seq) =
      ⟨seq % 4096, 0x01, tag, 0, 0, addr % 2 ^ 32, addr / 2 ^ 32, count, [], true⟩) ∧
  (∀ (seq addr : Nat) (bytes : List Nat), addr < 2 ^ 64 → bytes.length ≤ 512 → (∀ b ∈ bytes, b < 256) →
    packetGood ((TxPacket.mwr addr bytes).bytes seq) = true ∧
    transOf ((TxPacket.mwr addr bytes).bytes seq) =
      ⟨seq % 4096, 0x02, 0, bytes.length, 0, addr % 2 ^ 32, addr / 2 ^ 32, 0, bytes, true⟩) ∧
  (∀ (seq tag addr size : Nat) (st : AccStatus) (data : List Nat), tag < 256 → addr < 2 ^ 32 → size < 2 ^ 32 →
    data.length ≤ 512 → (∀ b ∈ data, b < 256) → packetGood ((TxPacket.rcpl tag st addr size data).bytes seq) = true ∧
    transOf ((TxPacket.rcpl tag st addr size data).bytes seq) =
      ⟨seq % 4096, 0x22, tag, data.length, statusCode st, addr, 0, size, data, true⟩) ∧
  (∀ seq n code sev index : Nat, n < 2 ^ 32 → code < 2 ^ 16 → sev < 2 ^ 16 → index < 2 ^ 32 →
    packetGood ((TxPacket.evt n code sev index).bytes seq) = true ∧
    transOf ((TxPacket.evt n code sev index).bytes seq) =
      ⟨seq % 4096, 0x30, 0, 0, 0, n, code + sev * 2 ^ 16, index, [], true⟩) ∧
  (∀ (pool hdr data : Nat) (inf : Bool), pool < 3 →
    let w := creditWord pool inf hdr data
    w < 2 ^ 32 ∧ natBits w 0 2 = pool ∧ w.testBit 2 = inf ∧ natBits w 4 8 = hdr % 256 ∧ natBits w 16 12 = data % 4096)

/-- R119 to R121, R125, R499: what a receive lane of a bring-up gathers: signal, CDR lock, block lock after 64 valid
headers, foreground calibration, adaptation on blocks that pass R130, and what a marker and its absence count; and
what it loses. The transmit side of the lane may send meanwhile. -/
def Obligations.LaneBringup : Prop :=
  ∀ (p : Fin 4) (l : Fin 2) (s : State),
    (∃ t, exec (.signalDetect p l) s = .next t ∧
      (laneOf t p.val l.val).rxSame { laneOf s p.val l.val with signal := true }) ∧
    ((laneOf s p.val l.val).signal = true →
      ∃ t, exec (.cdrLock p l) s = .next t ∧
        (laneOf t p.val l.val).rxSame { laneOf s p.val l.val with cdr := true, ctle := 8 }) ∧
    (∀ old last : List (Bool × Bool), (laneOf s p.val l.val).signal = true → (laneOf s p.val l.val).cdr = true →
      last.length = 64 →
      ((∀ h ∈ last, h.1 ≠ h.2) → ∃ t, exec (.blockLock p ⟨l, old ++ last⟩) s = .next t ∧
        (laneOf t p.val l.val).rxSame { laneOf s p.val l.val with
          block := true, amOnce := false, amMiss := 0, hdrWin := [], rxSince := 0, rxBip := 0, adaptUse := 0 }) ∧
      (∀ h ∈ last, h.1 = h.2 → exec (.blockLock p ⟨l, old ++ last⟩) s = .next s)) ∧
    (∀ trims, trims.length = 9 → (laneOf s p.val l.val).block = true →
      ∃ t, exec (.laneForegroundCalDone p l trims) s = .next t ∧
        (laneOf t p.val l.val).rxSame { laneOf s p.val l.val with calOk := true } ∧
        t.waits .core Ev.CAL_LANE_DONE (2 * p.val + l.val)) ∧
    (∀ ctle taps, ctle < 16 → taps.length = 5 → (∀ x ∈ taps, -32 ≤ x ∧ x ≤ 31) →
      (laneOf s p.val l.val).block = true → (laneOf s p.val l.val).calOk = true → (laneOf s p.val l.val).adaptUse ≠ 0 →
      (heldStill s p.val l.val = false → ∃ t, exec (.adaptationDone p l ctle taps) s = .next t ∧
        (laneOf t p.val l.val).rxSame { laneOf s p.val l.val with adapt := true, ctle := ctle, dfe := taps }) ∧
      (heldStill s p.val l.val = true → exec (.adaptationDone p l ctle taps) s = .next s)) ∧
    (∀ (c : Instr) (errors : Nat) (u : State), s.brings c p (.marker l.val errors) u → laneActive u p.val l.val = false →
      ∃ t, exec c s = .next t ∧ (laneOf t p.val l.val).bip = satAdd 32 (laneOf u p.val l.val).bip errors ∧
        (laneOf t p.val l.val).bipWin = (errors :: (laneOf u p.val l.val).bipWin).take 16) ∧
    (∀ (c : Instr) (u : State), s.brings c p (.badMarker l.val) u →
      (((laneOf u p.val l.val).amMiss < 3 ∨ (laneOf u p.val l.val).amLock = false) → exec c s = .next u) ∧
      (3 ≤ (laneOf u p.val l.val).amMiss → (laneOf u p.val l.val).amLock = true →
        ∃ t, exec c s = .next t ∧ (laneOf t p.val l.val).amLock = false)) ∧
    (∀ (c : Instr) (u : State), s.brings c p (.unlocked l.val) u → laneActive u p.val l.val = false →
      exec c s = .next u) ∧
    (laneActive s p.val l.val = false →
      ∃ t, exec (.laneSignalLoss p l) s = .next t ∧
        laneOf t p.val l.val = { (laneOf s p.val l.val).unlock with signal := false, cdr := false })

/-- R124, R127, R136, R137: the states of a port. EN starts a port in DISABLED, a port in TRAIN with a ready lane goes
to EXCHANGE, 20 ms without UP and a restart send it to IDLE_WAIT, from where it trains again or is disabled; a test
mode takes it to TEST, from DISABLED too (model's choice, log entry 77), and its end to IDLE_WAIT; EN written 0 takes
it to DISABLED, with `PORT_DOWN` where it was UP. In legacy mode P[1] to P[3] stay DISABLED. R126, R151: the port-up
exchange. A port in EXCHANGE sends its ready mask, version and rate; the third identical PORT_UP in a row makes it
choose the lanes ready and allowed at both ends and acknowledge them; equal acknowledgements bring the port UP on them
with fresh credits, the infinite ones of pool C among them; different ones start the exchange again; another rate ends
it. Model's choice: PORT_DOWN only from UP (log entry 24). -/
def Obligations.PortUpAndDown : Prop :=
  (∀ (p : Fin 4) (s : State),
     (s.awake = true → (s.pwr.legacy = false ∨ p.val = 0) → (vget s.port p.val).st = .disabled →
       (vget s.port p.val).lanes ≠ 0 →
       ∃ t, exec (.portEnable p) s = .next t ∧ (portCtl t p.val).getLsbD 0 = true ∧
         (vget t.port p.val).st = (if lanesPowered s then
           (if s.rfld (yzlReg Reg.YZL_TEST p.val) 0 2 = 0 then .train else .test) else .idleWait)) ∧
     (s.pwr.legacy = true → p.val ≠ 0 → exec (.portEnable p) s = .next s ∧
       ∀ data, ∃ t, exec (.testModeWrite p data) s = .next t ∧
         ((vget s.port p.val).st = .disabled → (vget t.port p.val).st = .disabled)) ∧
     (s.awake = false → exec (.portEnable p) s = .next s ∧ exec (.portDisable p) s = .next s ∧
       exec (.portRestart p) s = .next s ∧ ∀ data, exec (.testModeWrite p data) s = .next s) ∧
     (s.awake = true →
       ∃ t, exec (.portDisable p) s = .next t ∧ (vget t.port p.val).st = .disabled ∧
         (portCtl t p.val).getLsbD 0 = false ∧
         ((vget s.port p.val).st = .up → t.waits .refl Ev.PORT_DOWN p.val ∧ (vget t.port p.val).active = 0 ∧
           (vget t.port p.val).replay = [] ∧ (vget t.port p.val).mrds = [])) ∧
     ((vget s.port p.val).st = .train → readyMask s p.val &&& (vget s.port p.val).lanes ≠ 0 →
       ∃ t, exec (.trainToExchange p) s = .next t ∧ t = { s with port := t.port } ∧
         vget t.port p.val = { vget s.port p.val with
           st := .exchange, puLast := none, puCount := 0, ackSent := none, ackGot := none } ∧
         (∀ q : Fin 4, q ≠ p → vget t.port q.val = vget s.port q.val)) ∧
     ((vget s.port p.val).st = .train → readyMask s p.val &&& (vget s.port p.val).lanes = 0 →
       exec (.trainToExchange p) s = .next s) ∧
     (((vget s.port p.val).st = .train ∨ (vget s.port p.val).st = .exchange) →
       ∃ t, exec (.bringupTimeout p) s = .next t ∧ (vget t.port p.val).st = .idleWait ∧
         (vget t.port p.val).restarts = satAdd 8 (vget s.port p.val).restarts 1 ∧
         t.flagged (yzlReg Reg.YZL_LANE_ERR p.val) 17 ∧ s.raisedOne t .refl Ev.BRINGUP_TIMEOUT p.val) ∧
     ((vget s.port p.val).st = .idleWait → portAllowed s p.val = true → lanesPowered s = true →
       testAsked s p.val = false →
       ∃ t, exec (.idleWaitEnd p) s = .next t ∧ (vget t.port p.val).st = .train) ∧
     ((vget s.port p.val).st = .idleWait → portAllowed s p.val = true → lanesPowered s = true →
       testAsked s p.val = true →
       ∃ t, exec (.idleWaitEnd p) s = .next t ∧ (vget t.port p.val).st = .test) ∧
     ((vget s.port p.val).st = .idleWait → portAllowed s p.val = false →
       ∃ t, exec (.idleWaitEnd p) s = .next t ∧ (vget t.port p.val).st = .disabled) ∧
     (s.awake = true → (vget s.port p.val).st ≠ .disabled → (vget s.port p.val).st ≠ .idleWait →
       ∃ t, exec (.portRestart p) s = .next t ∧ (vget t.port p.val).st = .idleWait ∧
         ((vget s.port p.val).st = .up → t.waits .refl Ev.PORT_DOWN p.val)) ∧
     (∀ data : Word, s.awake = true → (s.pwr.legacy = false ∨ p.val = 0) → fld data 0 2 ≠ 0 →
       ∃ t, exec (.testModeWrite p data) s = .next t ∧ t.reg (yzlReg Reg.YZL_TEST p.val) = data &&& 0x37 ∧
         (lanesPowered s = true → (vget t.port p.val).st = .test)) ∧
     (∀ data : Word, s.awake = true → fld data 0 2 = 0 → (vget s.port p.val).st = .test →
       ∃ t, exec (.testModeWrite p data) s = .next t ∧ (vget t.port p.val).st = .idleWait)) ∧
  ((∀ (p : Fin 4) (s : State), (vget s.port p.val).st = .exchange →
     ∃ t, exec (.portUpSend p) s = .next t ∧ t = { s with port := t.port, out := t.out } ∧ t.said = s.said ++
       [.linkMsg p.val 1 (readyMask s p.val + ownVersion s * 2 ^ 8 + b2n (vget s.port p.val).rate * 2 ^ 12)]) ∧
   (∀ (p : Fin 4) (c : Instr) (mask version arg : Nat) (rate : Bool) (s u : State), mask < 4 →
     (vget u.port p.val).st = .exchange →
     (s.brings c p (.msg 1 mask version rate arg) u →
       (rate ≠ (vget u.port p.val).rate → ∃ t, exec c s = .next t ∧ (vget t.port p.val).st = .idleWait) ∧
       (rate = (vget u.port p.val).rate → (vget u.port p.val).puLast ≠ some (mask, version, rate) →
         ∃ t, exec c s = .next t ∧ t = { u with port := t.port } ∧
           vget t.port p.val = { vget u.port p.val with puLast := some (mask, version, rate), puCount := 1 }) ∧
       (rate = (vget u.port p.val).rate → (vget u.port p.val).puLast = some (mask, version, rate) →
         (vget u.port p.val).puCount = 2 → (vget u.port p.val).ackSent = none → (vget u.port p.val).ackGot = none →
         readyMask u p.val &&& mask &&& (vget u.port p.val).lanes ≠ 0 →
         ∃ t, exec c s = .next t ∧ (vget t.port p.val).st = .exchange ∧
           (vget t.port p.val).ackSent =
             some (readyMask u p.val &&& mask &&& (vget u.port p.val).lanes, min version (ownVersion u)) ∧
           t.said = u.said ++ [.linkMsg p.val 2 ((readyMask u p.val &&& mask &&& (vget u.port p.val).lanes) +
             min version (ownVersion u) * 2 ^ 8)])) ∧
     (s.brings c p (.msg 2 mask version rate arg) u →
       ((vget u.port p.val).ackSent = some (mask, version) →
         ∃ t, exec c s = .next t ∧ (vget t.port p.val).st = .up ∧
           (vget t.port p.val).active = mask ∧ (vget t.port p.val).version = version ∧
           t.waits .refl Ev.PORT_UP p.val ∧ (mask ≠ 3 → t.waits .refl Ev.LANE_DEGRADED p.val) ∧
           [.credit p.val 0 false 32 64, .credit p.val 1 false 16 0, .credit p.val 2 true 0 0] ⊆ t.out) ∧
       (∀ a, (vget u.port p.val).ackSent = some a → a ≠ (mask, version) →
         ∃ t, exec c s = .next t ∧ (vget t.port p.val).st = .exchange ∧
           (vget t.port p.val).ackSent = none ∧ (vget t.port p.val).puCount = 0))))

/-- R132, R135: a failing lane of a two-lane port is dropped: LANE_DROP names it, the port goes on with the other, and
`LANE_DEGRADED` is raised; signal, block lock, AM lock and BIP8 errors beyond the limit are what fails it. A received
LANE_DROP drops it too. The failing lane of a one-lane port takes the port down. R133: the restore of a missing lane:
it trains at each attempt, LANE_RESTORE in both directions makes it rejoin after the next marker, and an attempt that
does not complete is abandoned. Model's choices: log entry 23. -/
def Obligations.LaneLossAndRestore : Prop :=
  (∀ (p : Fin 4) (l : Fin 2) (c : Instr) (s u : State),
     let two := fun (x : State) => (vget x.port p.val).st = .up ∧ (vget x.port p.val).active = 3 ∧
       inFullRetrain x p.val (1 - l.val) = false ∧ (laneOf x p.val (1 - l.val)).retrain ≠ .waiting
     let dropped := fun (x t : State) (bit : Nat) => (vget t.port p.val).st = .up ∧
       (vget t.port p.val).active = 2 - l.val ∧ t.said = x.said ++ [.linkMsg p.val 3 l.val] ∧
       t.flagged (yzlReg Reg.YZL_LANE_ERR p.val) bit ∧ x.raisedOne t .refl Ev.LANE_DEGRADED p.val
     (two s → ∃ t, exec (.laneSignalLoss p l) s = .next t ∧ dropped s t (8 * l.val)) ∧
     (s.brings c p (.unlocked l.val) u → two u → ∃ t, exec c s = .next t ∧ dropped u t (8 * l.val + 1)) ∧
     (s.brings c p (.badMarker l.val) u → two u → 3 ≤ (laneOf u p.val l.val).amMiss →
       (laneOf u p.val l.val).amLock = true → ∃ t, exec c s = .next t ∧ dropped u t (8 * l.val + 2)) ∧
     (∀ errors, s.brings c p (.marker l.val errors) u → two u →
       u.rfld (yzlReg Reg.YZL_FAIL_CTL p.val) 0 16 < lsum ((errors :: (laneOf u p.val l.val).bipWin).take 16) →
       ∃ t, exec c s = .next t ∧ (vget t.port p.val).active = 2 - l.val ∧
         t.flagged (yzlReg Reg.YZL_LANE_ERR p.val) (8 * l.val + 3) ∧ t.waits .refl Ev.LANE_DEGRADED p.val) ∧
     (∀ version rate arg, s.brings c p (.msg 3 l.val version rate arg) u → two u →
       ∃ t, exec c s = .next t ∧ (vget t.port p.val).st = .up ∧ (vget t.port p.val).active = 2 - l.val ∧
         t.said = u.said ∧ u.raisedOne t .refl Ev.LANE_DEGRADED p.val) ∧
     ((vget s.port p.val).st = .up → (vget s.port p.val).active = 2 ^ l.val →
       ∃ t, exec (.laneSignalLoss p l) s = .next t ∧ (vget t.port p.val).st = .idleWait ∧
         (vget t.port p.val).active = 0 ∧ t.waits .refl Ev.PORT_DOWN p.val) ∧
     (s.brings c p (.unlocked l.val) u → (vget u.port p.val).st = .up → (vget u.port p.val).active = 2 ^ l.val →
       ∃ t, exec c s = .next t ∧ (vget t.port p.val).st = .idleWait ∧ t.waits .refl Ev.PORT_DOWN p.val)) ∧
  (∀ (p : Fin 4) (l : Fin 2) (s : State),
     (missingLane s p.val = some l.val → hasBit (vget s.port p.val).lanes l.val = true →
       (vget s.port p.val).restoring = false → s.rfld (yzlReg Reg.YZL_FAIL_CTL p.val) 16 8 ≠ 0 →
       ∃ t, exec (.laneRestoreAttempt p) s = .next t ∧ t = { s with port := t.port } ∧
         (vget t.port p.val).restoring = true ∧ laneOf t p.val l.val = (laneOf s p.val l.val).restart) ∧
     (∀ (c : Instr) version rate arg u, s.brings c p (.msg 4 l.val version rate arg) u →
       missingLane u p.val = some l.val → ∃ t, exec c s = .next t ∧ t = { u with port := t.port } ∧
         (vget t.port p.val).restoreGot = true ∧
         ((vget u.port p.val).restoreSent = true → (vget t.port p.val).rejoin = some (l.val, true) ∧
           (vget t.port p.val).rxJoin = some l.val)) ∧
     ((vget s.port p.val).rejoin = none →
       ∃ t, exec (.laneRestoreAbandon p) s = .next t ∧ t = { s with port := t.port } ∧
         (vget t.port p.val).restoring = false ∧ (vget t.port p.val).restoreSent = false))

/-- R115, R116, R120: a valid coefficient set is stored and takes effect at the port's next alignment marker, an
invalid one is rejected with an event and changes neither the register nor the set in force (its SWING is dropped too,
the model's choice, log entry 23); each lane's marker carries the port's count and the parity of the lane's period.
R123, R131, R134 to R136: adaptation during traffic, the eye scan, retrains of either end, and the checker of the test
mode, which counts each error while locked and loses its lock at 32 errors among 64 bits. Model's choices: log entry
23. -/
def Obligations.LaneService : Prop :=
  (∀ (p : Fin 4) (l : Fin 2) (s : State) (data : Word),
     (s.awake = false → exec (.txeqWrite p l data) s = .next s) ∧
     (s.awake = true → txeqValid data = true →
       ∃ t, exec (.txeqWrite p l data) s = .next t ∧ t = { s with regs := t.regs, port := t.port } ∧
         t.reg (yzlReg (Reg.YZL_TXEQ0 + 4 * l.val) p.val) = data &&& 0x31F7F1F ∧
         laneOf t p.val l.val =
           { laneOf s p.val l.val with txeqNext := some (data &&& 0x31F7F1F), txeqRej := false }) ∧
     (s.awake = true → txeqValid data = false →
       ∃ t, exec (.txeqWrite p l data) s = .next t ∧ t.regs = s.regs ∧
         laneOf t p.val l.val = { laneOf s p.val l.val with txeqRej := true } ∧
         t.flagged (yzlReg Reg.YZL_LANE_ERR p.val) 18 ∧ s.raisedOne t .refl Ev.TXEQ_REJECTED p.val) ∧
     (transmits s p.val = true →
       ∃ t, exec (.amTransmit p) s = .next t ∧
         t.said = s.said ++ [.amk p.val 0 (vget s.port p.val).amTx, .amk p.val 1 (vget s.port p.val).amTx] ∧
         (vget t.port p.val).amTx = wrapAdd 8 (vget s.port p.val).amTx 1 ∧
         (∃ b, .block p.val l.val (controlBlock (amPayload p.val l.val (vget s.port p.val).amTx b)) ∈ t.out) ∧
         ((laneOf s p.val l.val).txCount = 16383 →
           .block p.val l.val (controlBlock (amPayload p.val l.val (vget s.port p.val).amTx
             (laneOf s p.val l.val).txBip)) ∈ t.out) ∧
         (laneOf t p.val l.val).txeq = (laneOf s p.val l.val).txeqNext.getD (laneOf s p.val l.val).txeq ∧
         (laneOf t p.val l.val).txeqNext = none ∧
         (∀ r restore, (vget s.port p.val).rejoin = some (r, restore) →
           (vget t.port p.val).active = setBit (vget s.port p.val).active r ∧ (vget t.port p.val).rejoin = none ∧
           (restore = true → t.waits .refl Ev.LANE_RESTORED p.val)))) ∧
  (∀ (p : Fin 4) (l : Fin 2) (s : State),
     (laneActive s p.val l.val = true →
       (∃ t, exec (.adaptFreeze p l) s = .next t ∧ t = { s with port := t.port } ∧
         laneOf t p.val l.val = { laneOf s p.val l.val with frozen := true }) ∧
       (∀ h v, h < 64 → v < 256 → fld (s.reg (yzlReg Reg.YZL_MARGIN_MIN p.val)) 16 8 ≠ 0 →
         fld (s.reg (yzlReg Reg.YZL_MARGIN_MIN p.val)) 0 6 ≤ h →
         fld (s.reg (yzlReg Reg.YZL_MARGIN_MIN p.val)) 8 8 ≤ v →
         ∃ t, exec (.eyeScan p l h v) s = .next t ∧ t = { s with port := t.port } ∧
           laneOf t p.val l.val = { laneOf s p.val l.val with
             hmargin := h, vmargin := v, scans := wrapAdd 16 (laneOf s p.val l.val).scans 1, lowScans := 0 }) ∧
       ((laneOf s p.val l.val).retrain = .none → inFullRetrain s p.val (1 - l.val) = false →
         (laneOf s p.val l.val).retrainTimes = [] →
         ∃ t, exec (.laneRetrainCmd p l) s = .next t ∧
           (laneOf t p.val l.val).retrain = (if (vget s.port p.val).active = 3 then .full else .burst) ∧
           t.said = s.said ++ [.linkMsg p.val 5 (l.val + (if (vget s.port p.val).active = 3 then 0 else 1) * 2 ^ 13)] ∧
           s.raisedOne t .refl Ev.LANE_RETRAIN p.val)) ∧
     (∀ (c : Instr) version rate arg mask u, s.brings c p (.msg 7 mask version rate arg) u →
       laneActive u p.val l.val = true → hasBit mask l.val = true →
       ∃ t, exec c s = .next t ∧ t = { u with port := t.port } ∧
         laneOf t p.val l.val = { laneOf u p.val l.val with refreshLeft := arg }) ∧
     (∀ (c : Instr) version rate arg u, s.brings c p (.msg 5 l.val version rate arg) u →
       laneActive u p.val l.val = true → (arg ≠ 0 ∨ (laneOf u p.val (1 - l.val)).retrain ≠ .full) →
       ∃ t, exec c s = .next t ∧ (vget t.port p.val).farRetrain = some (l.val, arg != 0) ∧
         u.raisedOne t .refl Ev.LANE_RETRAIN p.val) ∧
     (∀ idle : List (Fin 2),
       let ls := (refreshLanes s p.val).filter (fun i => idle.any (fun x => x.val == i))
       (ls ≠ [] → ∃ t, exec (.refreshBurst ⟨p, idle⟩) s = .next t ∧ t = { s with port := t.port, out := t.out } ∧
         t.said = s.said ++ [.linkMsg p.val 7 (bitsOf 2 (fun i => ls.contains i) + burstBlocks s p.val * 2 ^ 13)]) ∧
       (ls = [] → exec (.refreshBurst ⟨p, idle⟩) s = .next s)) ∧
     ((vget s.port p.val).farRetrain = some (l.val, true) → (vget s.port p.val).st = .up →
       ∃ t, exec (.retrainTrainingBurst p) s = .next t ∧ t = { s with port := t.port, out := t.out } ∧ t.said = s.said) ∧
     (∀ (c : Instr) version rate arg u, s.brings c p (.msg 6 l.val version rate arg) u →
       (vget u.port p.val).farRetrain = some (l.val, false) → (∀ i : Fin 2, (laneOf u p.val i.val).retrain ≠ .waiting) →
       ∃ t, exec c s = .next t ∧ t = { u with port := t.port } ∧
         (vget t.port p.val).rejoin = some (l.val, false) ∧ (vget t.port p.val).farRetrain = none) ∧
     ((laneOf s p.val l.val).retrain = .full → laneReady s p.val l.val = true →
       (laneOf s p.val (1 - l.val)).retrain ≠ .waiting →
       ∃ t, exec (.retrainComplete p l) s = .next t ∧ (laneOf t p.val l.val).retrain = .none ∧
         (vget t.port p.val).rejoin = some (l.val, false) ∧ t.said = s.said ++ [.linkMsg p.val 6 l.val]) ∧
     (∀ h v, (laneOf s p.val 0).retrain = .burst →
       ∃ t, exec (.retrainBurstEnd p h v) s = .next t ∧ (laneOf t p.val 0).retrain = .none ∧
         ((h < fld (s.reg (yzlReg Reg.YZL_MARGIN_MIN p.val)) 0 6 ∨
             v < fld (s.reg (yzlReg Reg.YZL_MARGIN_MIN p.val)) 8 8) →
           t.flagged (yzlReg Reg.YZL_LANE_ERR p.val) 4 ∧ s.raisedOne t .refl Ev.LANE_MARGIN_LOW p.val)) ∧
     (prbsRuns s p.val l.val = true →
       (∀ r : BitVec 31, (laneOf s p.val l.val).prbsLock = false → (laneOf s p.val l.val).prbsSeed = 0 →
         (laneOf s p.val l.val).prbsGood = 0 →
         ∃ t, exec (.prbsCheckerLock p ⟨l, (prbsBits 95 r).1.map
             (fun b => b ^^ (s.reg (yzlReg Reg.YZL_TEST p.val)).getLsbD 2)⟩) s = .next t ∧ t = { s with port := t.port } ∧
           (laneOf t p.val l.val).prbsLock = true ∧ (laneOf t p.val l.val).prbsErr = (laneOf s p.val l.val).prbsErr) ∧
       (∀ b : Bool, (laneOf s p.val l.val).prbsLock = true → 31 ≤ (laneOf s p.val l.val).prbsSeed →
         let x := laneOf s p.val l.val
         let bad := (b ^^ (s.reg (yzlReg Reg.YZL_TEST p.val)).getLsbD 2) != prbsBit x.prbsReg
         ∃ t, exec (.prbsCheckerLockLost p ⟨l, [b]⟩) s = .next t ∧ t = { s with port := t.port } ∧
           (laneOf t p.val l.val).prbsErr = (if bad then satAdd 32 x.prbsErr 1 else x.prbsErr) ∧
           ((laneOf t p.val l.val).prbsLock = true ↔ (((bad :: x.prbsWin).take 64).filter id).length < 32))) ∧
     (prbsRuns s p.val l.val = false → ∀ bits, exec (.prbsCheckerLock p ⟨l, bits⟩) s = .next s ∧
       exec (.prbsCheckerLockLost p ⟨l, bits⟩) s = .next s))

/-- R153: a TRANS packet is accepted only with the next expected sequence number; one from before it is discarded and
acknowledged again, one from beyond it is answered with a NAK as a bad packet is, and a second NAK is not sent before
a packet has been accepted; a bad control packet is counted and no more (R141); a port that is not UP takes none.
Holds of every kind of received packet. -/
def Obligations.SequenceCheck : Prop :=
  (∀ (p : Fin 4) (c : Instr) (bs : List Nat) (s u : State), s.brings c p (.packet bs) u →
    ((vget u.port p.val).st = .up → packetGood bs = true → kindOf bs = kindTrans →
      (seqOf bs ≠ (vget u.port p.val).next →
        (later 12 (vget u.port p.val).next (seqOf bs) = true →
          exec c s = .next (u.modPort p.val (fun q => { q with sinceAck := max 1 q.sinceAck }))) ∧
        (later 12 (vget u.port p.val).next (seqOf bs) = false → exec c s = .next (u.sendNak p.val))) ∧
      (seqOf bs = (vget u.port p.val).next →
        ∃ t, exec c s = .next t ∧
          ((vget t.port p.val).st = .up → (vget t.port p.val).next = wrapAdd 12 (vget u.port p.val).next 1 ∧
            (vget t.port p.val).nakSent = false)))) ∧
  (∀ (q : PortState) (i : RxItem), q.st ≠ .up → q.reassemble i = (q, [])) ∧
  (∀ (p : Fin 4) (c : Instr) (bs : List Nat) (s u : State),
    (s.brings c p (.packet bs) u ∧ packetGood bs = false ∨ s.brings c p (.broken bs) u) →
    (vget u.port p.val).st = .up →
    ((kindOf bs = kindAck ∨ kindOf bs = kindNak ∨ kindOf bs = kindCredit) →
      ∃ t, exec c s = .next t ∧ t = { u with cbits := t.cbits } ∧ t.flagged (yzlReg Reg.YZL_TL_ERR p.val) 0) ∧
    (kindOf bs ≠ kindAck → kindOf bs ≠ kindNak → kindOf bs ≠ kindCredit → exec c s = .next (u.sendNak p.val))) ∧
  (∀ (p : Fin 4) (s : State),
    let t := s.sendNak p.val
    t = { s with port := t.port, cbits := t.cbits, out := t.out } ∧
      t.flagged (yzlReg Reg.YZL_TL_ERR p.val) 0 ∧ (vget t.port p.val).nakSent = true ∧
      (vget t.port p.val).next = (vget s.port p.val).next ∧
      ((vget s.port p.val).nakSent = true → t.out = s.out) ∧
      ((vget s.port p.val).nakSent = false →
        t.said = s.said ++ [.nak p.val (((vget s.port p.val).next + 4095) % 4096)] ∧
        (vget t.port p.val).naks = satAdd 16 (vget s.port p.val).naks 1)) ∧
  (∀ (p : Fin 4) (s : State), (vget s.port p.val).st = .up → (vget s.port p.val).sinceAck ≠ 0 →
    ∃ t, exec (.ackSend p) s = .next t ∧ t = { s with port := t.port, out := t.out } ∧
      (vget t.port p.val).sinceAck = 0 ∧ t.said = s.said ++ [.ack p.val (((vget s.port p.val).next + 4095) % 4096)])

/-- R154, R155: an ACK frees every packet up to its number, a NAK frees them and replays the rest, the timer replays
every unacknowledged packet in order, and a packet that four replays have not got through takes the port down. R141,
R150, R151: a CREDIT replaces the grant of its pool with cumulative counts, and every 20 µs the device repeats its own
grants, pool C infinite; what waits and is covered leaves in order, what is not covered stays, and a full replay
buffer holds everything (R154). Model's choices: log entry 24. -/
def Obligations.ReplayAndCredits : Prop :=
  ((∀ (p : Fin 4) (c : Instr) (seq i : Nat) (s u : State), seq < 4096 → (vget u.port p.val).st = .up →
     (vget u.port p.val).txWait = [] → (vget u.port p.val).replay.findIdx? (fun x => x.1 == seq) = some i →
     (s.brings c p (.packet (controlBytes kindAck seq 0)) u → ∃ t, exec c s = .next t ∧
       (vget t.port p.val).replay = (vget u.port p.val).replay.drop (i + 1) ∧ t.said = u.said ∧
       (vget t.port p.val).oldestReplays = 0) ∧
     (s.brings c p (.packet (controlBytes kindNak seq 0)) u → ∃ t, exec c s = .next t ∧
       (vget t.port p.val).replay = (vget u.port p.val).replay.drop (i + 1) ∧
       t.said = u.said ++ ((vget u.port p.val).replay.drop (i + 1)).map (fun x => .packet p.val x.1 x.2))) ∧
   (∀ (p : Fin 4) (c : Instr) (seq : Nat) (s u : State), seq < 4096 → (vget u.port p.val).st = .up →
     (vget u.port p.val).replay.findIdx? (fun x => x.1 == seq) = none →
     s.brings c p (.packet (controlBytes kindNak seq 0)) u → exec c s = .next u) ∧
   (∀ (p : Fin 4) (s : State), (vget s.port p.val).st = .up →
     ((vget s.port p.val).replay ≠ [] → (vget s.port p.val).oldestReplays < 4 →
       ∃ t, exec (.replayTimeout p) s = .next t ∧ (vget t.port p.val).st = .up ∧
         t.said = s.said ++ (vget s.port p.val).replay.map (fun x => .packet p.val x.1 x.2) ∧
         (vget t.port p.val).replay = (vget s.port p.val).replay ∧
         (vget t.port p.val).oldestReplays = (vget s.port p.val).oldestReplays + 1 ∧
         (vget t.port p.val).replays = satAdd 16 (vget s.port p.val).replays 1 ∧
         t.flagged (yzlReg Reg.YZL_TL_ERR p.val) 1) ∧
     ((vget s.port p.val).replay ≠ [] → 4 ≤ (vget s.port p.val).oldestReplays →
       ∃ t, exec (.replayTimeout p) s = .next t ∧ (vget t.port p.val).st = .idleWait ∧
         (vget t.port p.val).replay = [] ∧ t.flagged (yzlReg Reg.YZL_TL_ERR p.val) 2 ∧
         t.waits .refl Ev.REPLAY_STALL p.val ∧ t.waits .refl Ev.PORT_DOWN p.val))) ∧
  ((∀ (p : Fin 4) (c : Instr) (pool hdr data : Nat) (inf : Bool) (s u : State), pool < 3 → hdr < 256 → data < 4096 →
     s.brings c p (.packet (controlBytes kindCredit 0 (creditWord pool inf hdr data))) u →
     (vget u.port p.val).st = .up → (vget u.port p.val).txWait = [] →
     ∃ t, exec c s = .next t ∧ t = { u with port := t.port, out := t.out } ∧ t.said = u.said ∧
       (vget t.port p.val).far pool =
         { (vget u.port p.val).far pool with got := true, inf := inf, hdr := hdr, data := data } ∧
       (∀ q, q < 3 → q ≠ pool → (vget t.port p.val).far q = (vget u.port p.val).far q)) ∧
   (∀ (p : Fin 4) (s : State), (vget s.port p.val).st = .up →
     ∃ t, exec (.creditRepeat p) s = .next t ∧ t = { s with port := t.port, out := t.out } ∧ t.said = s.said ++ [
       .credit p.val 0 false (nearGrant (vget s.port p.val) 0).1 (nearGrant (vget s.port p.val) 0).2,
       .credit p.val 1 false (nearGrant (vget s.port p.val) 1).1 (nearGrant (vget s.port p.val) 1).2,
       .credit p.val 2 true (nearGrant (vget s.port p.val) 2).1 (nearGrant (vget s.port p.val) 2).2]) ∧
   (∀ (q : PortState) (k : TxPacket) (ks : List TxPacket),
     (q.room k = false → q.pump [] (k :: ks) = ({ q with txWait := k :: ks }, [])) ∧
     (q.room k = true → (q.far k.pool).covers (divCeil k.len 16) = true →
       (q.pump [] (k :: ks)).2 = (q.txSeq, k) :: ((q.sendOne k).pump [] ks).2) ∧
     (q.room k = true → (q.far k.pool).covers (divCeil k.len 16) = false →
       (q.pump [] (k :: ks)).1.txWait = k :: (q.pump [k.pool] ks).1.txWait ∧
         ∀ x ∈ (q.pump [] (k :: ks)).2, x.2.pool ≠ k.pool)))

/-- R144, R145, R158, R159: what ends a memory read: a completion for a tag that is not outstanding is unexpected, one
with an error status fails the read, one that continues the read adds its data, one that does not is malformed, and
one that has not come in time is reported and its tag quarantined until the end of that time. R146, R148, R152, R158,
R171: accepted requests of a host. A nudge gives a ring index to an enabled context, a register read is answered with
its tag, a register write into a window of the management port's is denied, a malformed packet is reported, a request
among them answered UR, and a packet beyond the granted credits has no effect but its report and, for a read request,
UR. Model's choice: the data of port events (log entry 22). -/
def Obligations.HostPackets : Prop :=
  ((∀ (p : Fin 4) (c : Instr) (x : Trans) (s u : State), s.bringsTrans c p x u → x.typ = 0x03 →
     x.fieldsOk (maxPayload u p.val) = true →
     ((vget u.port p.val).mrds.find? (fun m => m.tag == x.tag) = none →
       ∃ t, exec c s = .next t ∧ t.ctx = u.ctx ∧ t.cur = u.cur ∧
         (vget t.port p.val).mrds = (vget u.port p.val).mrds ∧ t.flagged (yzlReg Reg.YZL_TL_ERR p.val) 7 ∧
         u.raisedOne t .refl Ev.CPL_UNEXPECTED p.val) ∧
     (∀ m, (vget u.port p.val).mrds.find? (fun m => m.tag == x.tag) = some m →
       (x.status ≠ 0 → ∃ t, exec c s = .next t ∧
         t.flagged (yzlReg Reg.YZL_TL_ERR p.val) 6 ∧ t.waits .refl Ev.HOST_READ_ERROR p.val) ∧
       (x.status = 0 → mcplFits m x.d1 x.d2 x.len = true → m.data.length + x.payload.length < m.count →
         ∃ t, exec c s = .next t ∧ t.ctx = u.ctx ∧ t.cur = u.cur ∧ t.evt = u.evt ∧
           (vget t.port p.val).mrds = (vget u.port p.val).mrds.map (fun y =>
             if y.tag = m.tag then { y with data := m.data ++ x.payload } else y)) ∧
       (x.status = 0 → mcplFits m x.d1 x.d2 x.len = false → ∃ t, exec c s = .next t ∧ t.ctx = u.ctx ∧
         (vget t.port p.val).mrds = (vget u.port p.val).mrds ∧ t.flagged (yzlReg Reg.YZL_TL_ERR p.val) 3 ∧
         u.raisedOne t .refl Ev.PKT_MALFORMED p.val))) ∧
   (∀ (p : Fin 4) (tag : Nat) (m : Mrd) (s : State),
     (vget s.port p.val).mrds.find? (fun m => m.tag == tag) = some m →
     ∃ t, exec (.mrdTimeout p tag) s = .next t ∧ tag ∈ (vget t.port p.val).quarantine ∧
       t.flagged (yzlReg Reg.YZL_TL_ERR p.val) 5 ∧ t.waits .refl Ev.HOST_READ_TIMEOUT p.val) ∧
   (∀ (p : Fin 4) (tag : Nat) (s : State),
     ∃ t, exec (.tagQuarantineEnd p tag) s = .next t ∧
       (vget t.port p.val).quarantine = (vget s.port p.val).quarantine.filter (· != tag))) ∧
  (∀ (p : Fin 4) (c : Instr) (x : Trans) (s u : State), s.bringsTrans c p x u →
     (x.typ = 0x10 → x.fieldsOk (maxPayload u p.val) = true → ctxEnabled u p.val = true →
       overCredit u p.val 0 0 = false →
       let ring := natBits x.d1 0 2
       let index := natBits x.d1 16 16
       (index < ringSize u p.val ring →
         ∃ t, exec c s = .next t ∧ t.regs = u.regs ∧ t.evt = u.evt ∧
           vget t.ctx p.val = (if ring = 0 then { vget u.ctx p.val with sqTail := index }
             else if ring = 1 then { vget u.ctx p.val with cqHead := index }
             else { vget u.ctx p.val with eqHead := index })) ∧
       (ringSize u p.val ring ≤ index →
         ∃ t, exec c s = .next t ∧ t.ctx = u.ctx ∧ t.flagged (hcx Reg.HCX_ERR p.val) 2 ∧
           u.raisedOne t .core Ev.RING_INDEX_INVALID p.val)) ∧
     (∀ pool, typePool x.typ = some pool → overCredit u p.val pool (divCeil x.payload.length 16) = true →
       ∃ t, exec c s = .next t ∧ t.ctx = u.ctx ∧ t.regs = u.regs ∧ t.flagged (yzlReg Reg.YZL_TL_ERR p.val) 4 ∧
         u.raisedOne t .refl Ev.CREDIT_OVERFLOW p.val ∧
         (x.typ = 0x20 → t.issued p.val (.rcpl x.tag .ur x.d1 (x.d3 % 4) []))) ∧
     (x.typ = 0x20 → x.fieldsOk (maxPayload u p.val) = true → x.d1 % 4 = 0 → x.d3 = 2 →
       overCredit u p.val 1 0 = false → (∃ r, regOf u x.d1 = some r) → domainOf u x.d1 = none →
       ∃ t data, exec c s = .next t ∧ data.length = 4 ∧ t.issued p.val (.rcpl x.tag .ok x.d1 2 data)) ∧
     (∀ a win n row, x.typ = 0x21 → x.fieldsOk (maxPayload u p.val) = true → x.d1 % 4 = 0 → x.d3 = 2 →
       overCredit u p.val 0 1 = false → regOf u x.d1 = some (a, win, n, row) → (win ≤ 2 ∨ 16 ≤ win ∧ win ≤ 21) →
       (u.pwr.legacy = false ∨ row.cls ≠ .c) →
       ∃ t, exec c s = .next t ∧ t.regs = u.regs ∧ t.saf = u.saf ∧ t.cel = u.cel ∧
         t.acc = u.acc ∧ (t.cCopy Reg.RAC_STATUS p.val).getLsbD 2 = true ∧
         u.raisedOne t .core Ev.REG_WRITE_DENIED 0 ∧ t.issued p.val (.rcpl x.tag .denied x.d1 2 [])) ∧
     ((∃ pool, typePool x.typ = some pool ∧ overCredit u p.val pool (divCeil x.payload.length 16) = false) →
       x.fieldsOk (maxPayload u p.val) = false →
       ∃ t, exec c s = .next t ∧ t.ctx = u.ctx ∧ t.regs = u.regs ∧
         t.flagged (yzlReg Reg.YZL_TL_ERR p.val) 3 ∧ u.raisedOne t .refl Ev.PKT_MALFORMED p.val ∧
         ∀ r, x.request = some r → t.issued p.val (.rcpl r.1 .ur r.2.1 r.2.2 [])) ∧
     (typePool x.typ = none →
       ∃ t, exec c s = .next t ∧ t.ctx = u.ctx ∧ t.regs = u.regs ∧
         t.flagged (yzlReg Reg.YZL_TL_ERR p.val) 3 ∧ u.raisedOne t .refl Ev.PKT_MALFORMED p.val))

/-- R78, R100, R105, R111: each reader has its own copy of a class C register: a read of it in native mode clears in
that copy exactly the bits that it returned and leaves every other copy; in legacy mode reads clear nothing and a
write clears the bits written as 1 in the writer's copy; a read of a counter's lower word latches the upper word for
that reader alone. In a soft reset the management port's read returns 0 and is dropped with `RAC_STATUS.DROP`. -/
def Obligations.ReaderCopies : Prop :=
  (∀ (r : Reader) (addr a win n : Nat) (row : RegRow) (s : State), addr % 4 = 0 →
    regOf s addr = some (a, win, n, row) → row.cls = .c →
    let reads := s.pwr.inReset = false ∧ (r = .mgmt ∨ s.awake = true)
    (reads → s.pwr.legacy = false → ∃ t, exec (.clearOnRead r addr) s = .next t ∧ t =
      { s with cbits := t.cbits, out := t.out } ∧
      t.cCopy a (readerNo r) = 0 ∧ (∀ b q, q < 5 → (b ≠ a ∨ q ≠ readerNo r) → t.cCopy b q = s.cCopy b q) ∧
      (r = .mgmt → t.out = s.out ++ [.mio (s.cCopy a 4)])) ∧
    (reads → s.pwr.legacy = true → ∃ t, exec (.clearOnRead r addr) s = .next t ∧ t = { s with out := t.out }) ∧
    (s.pwr.inReset = true → s.pwr.soft = true → r = .mgmt →
      exec (.clearOnRead r addr) s = .next ((s.setC1 Reg.RAC_STATUS 4 1).emit (.mio 0))) ∧
    (s.awake = true → s.pwr.legacy = true → ∀ data, ∃ t, exec (.legacyWriteOneClear r addr data) s = .next t ∧
      t = { s with cbits := t.cbits } ∧ t.cCopy a (readerNo r) = s.cCopy a (readerNo r) &&& ~~~ data ∧
      (∀ b q, q < 5 → (b ≠ a ∨ q ≠ readerNo r) → t.cCopy b q = s.cCopy b q)) ∧
    (s.awake = true → s.pwr.legacy = false → ∀ data, exec (.legacyWriteOneClear r addr data) s = .next s)) ∧
  (∀ (r : Reader) (addr a win n : Nat) (row : RegRow) (s : State), s.awake = true → nativeAddr s addr = some a →
    isCounterLow a = true → rowAt (a + 4) = some (win, n, row) →
    ∃ t, exec (.counterLowRead r addr) s = .next t ∧ t = { s with acc := { s.acc with latch := t.acc.latch } } ∧
      kget 0 t.acc.latch (copyKey a (readerNo r)) = (viewWindow s win n (a + 4) row).getD 0 ∧
      ∀ k, k ≠ copyKey a (readerNo r) → kget 0 t.acc.latch k = kget 0 s.acc.latch k)

/-- R94, R95, R106, R107: the checks of a write. One outside the reader's rights is denied and one that meets a lock
or a write-once register already written is refused, each with its status bit in the reader's copy alone, its event
and no other effect; one that passes stores its word, shown for the registers of the FEN window. R96, R97, R99, R106,
R108: a management write into a slow domain occupies its holding register until it has landed; a second one is dropped
with `RAC_STATUS.DROP` and `REG_WRITE_DROPPED`; landing takes the oldest write of the domain. Only the first write of
`RAC_LOCK` locks, and OWNER codes above 4 are stored as 4. Model's choices: log entry 61. -/
def Obligations.RegisterWrites : Prop :=
  (∀ (r : Reader) (addr a win n : Nat) (row : RegRow) (data : Word) (s : State), s.awake = true → addr % 4 = 0 →
     regOf s addr = some (a, win, n, row) → (s.pwr.legacy = false ∨ row.cls ≠ .c) →
     (mayWrite s r a win n row data = false → ∃ t, exec (.registerWrite r addr data) s = .next t ∧
       t = { s with cbits := t.cbits, evt := t.evt } ∧ (t.cCopy Reg.RAC_STATUS (readerNo r)).getLsbD 2 = true ∧
       (∀ b q, q < 5 → (b ≠ Reg.RAC_STATUS ∨ q ≠ readerNo r) → t.cCopy b q = s.cCopy b q) ∧
       s.raisedOne t .core Ev.REG_WRITE_DENIED 0) ∧
     (mayWrite s r a win n row data = true → isLocked s r a win row = true → ∃ t,
       exec (.registerWrite r addr data) s = .next t ∧
       t = { s with cbits := t.cbits, evt := t.evt } ∧ (t.cCopy Reg.RAC_STATUS (readerNo r)).getLsbD 1 = true ∧
       (∀ b q, q < 5 → (b ≠ Reg.RAC_STATUS ∨ q ≠ readerNo r) → t.cCopy b q = s.cCopy b q) ∧
       s.raisedOne t .core Ev.REG_WRITE_LOCKED 0) ∧
     (mayWrite s r a win n row data = true → isLocked s r a win row = false → win = 12 → row.cls = .f → row.stored ≠ 0 →
       ∃ t, exec (.registerWrite r addr data) s = .next t ∧ t = { s with regs := t.regs } ∧
         t.reg a = fenStored a (data &&& BitVec.ofNat 32 row.stored) ∧ ∀ b, b ≠ a → t.reg b = s.reg b) ∧
     (mayWrite s r a win n row data = true → isLocked s r a win row = false → row.cls = .c →
       exec (.registerWrite r addr data) s = .next s)) ∧
  ((∀ (addr a win n : Nat) (row : RegRow) (d : Slow) (data : Word) (s : State), s.awake = true → addr % 4 = 0 →
     regOf s addr = some (a, win, n, row) → slowOf win a = some d → row.cls ≠ .c → row.cls ≠ .w1 →
     isLocked s .mgmt a win row = false → unreachable s d = false →
     (slowBusy s d = false → ∃ t, exec (.registerWrite .mgmt addr data) s = .next t ∧ t = { s with acc := t.acc } ∧
       t.acc.q d = s.acc.q d ++ [{ reader := .mgmt, addr := a, data := data, bytes := 15, reply := none }] ∧
       slowBusy t d = true ∧ (∀ e, e ≠ d → t.acc.q e = s.acc.q e)) ∧
     (slowBusy s d = true → ∃ t, exec (.registerWrite .mgmt addr data) s = .next t ∧
       t = { s with cbits := t.cbits, evt := t.evt } ∧ (t.cCopy Reg.RAC_STATUS 4).getLsbD 0 = true ∧
       s.raisedOne t .core Ev.REG_WRITE_DROPPED 0)) ∧
   (∀ (d : Slow) (w : Posted) (rest : List Posted) (s : State), slowRuns s d = true → s.acc.q d = w :: rest →
     w.reader = .mgmt → w.reply = none → s.acc.held = [] → w.addr = Reg.FEN_CTL →
     ∃ t, exec (.slowWriteLand d) s = .next t ∧ t.acc.q d = rest ∧ t.scn = s.scn) ∧
   (∀ (d : Slow) (s : State), s.acc.q d = [] → exec (.slowWriteLand d) s = .next s) ∧
   (∀ (s : State) (data : Word), s.awake = true → s.acc.written.contains Reg.RAC_LOCK = false →
     ∃ t, exec (.racLockWrite data) s = .next t ∧ t.reg Reg.RAC_LOCK = s.reg Reg.RAC_LOCK ||| (data &&& 0x3FFFFB) ∧
       Reg.RAC_LOCK ∈ t.acc.written ∧ (∀ b, b ≠ Reg.RAC_LOCK → t.reg b = s.reg b) ∧ t.cbits = s.cbits) ∧
   (∀ (s : State) (data : Word), s.awake = true → s.acc.written.contains Reg.RAC_LOCK = true →
     ∃ t, exec (.racLockWrite data) s = .next t ∧ t.regs = s.regs ∧ (t.cCopy Reg.RAC_STATUS 4).getLsbD 1 = true ∧
       s.raisedOne t .core Ev.REG_WRITE_LOCKED 0) ∧
   (∀ (s : State) (data : Word), s.awake = true →
     ∃ t, exec (.racOwnerWrite data) s = .next t ∧ ownerHost t = min 4 (fld data 0 3) ∧
       t = { s with regs := t.regs } ∧ ∀ b, b ≠ Reg.RAC_OWNER → t.reg b = s.reg b))

/-- R78, R81, R86 to R90, R92, R95: the management port. A READ returns the register's word, 0 and a status bit where
the address is not mapped or, mapped, not aligned, which the first check of R95 tells apart; a WRITE of one word is
the management port's register write; a frame cut short, an unknown opcode and a second QREAD set their bits; a QREAD
holds its address until its result is there, one that is not aligned leaves `RAC_QDATA` and QRDY alone; a WRITE or
QREAD in stand-by ends stand-by and is dropped, in a soft reset it is dropped. Model's choices: log entries 60 and 63.
-/
def Obligations.ManagementPort : Prop :=
  (∀ (addr a win n : Nat) (row : RegRow) (s : State), mgmtRuns s = true → addr < 2 ^ 32 → addr % 4 = 0 →
    regOf s addr = some (a, win, n, row) → row.cls = .f → isCounterLow a = false →
    exec (.mgmtRead addr 1 false) s = .next (s.emit (.mio (viewReg s 4 a win n row)))) ∧
  (∀ (addr : Nat) (s : State), mgmtRuns s = true → addr < 2 ^ 32 → addr % 4 = 0 → regOf s addr = none →
    ∃ t, exec (.mgmtRead addr 1 false) s = .next t ∧ t.out = s.out ++ [.mio 0] ∧
      t = { s with out := t.out, cbits := t.cbits } ∧ (t.cCopy Reg.RAC_STATUS 4).getLsbD 3 = true) ∧
  (∀ (addr count : Nat) (cut : Bool) (s : State), mgmtRuns s = true → addr < 2 ^ 32 → addr % 4 ≠ 0 →
    ∃ t, exec (.mgmtRead addr count cut) s = .next t ∧ t.out = s.out ++ List.replicate count (.mio 0) ∧
      t = { s with out := t.out, cbits := t.cbits } ∧
        (t.cCopy Reg.RAC_STATUS 4).getLsbD (if (regOf s addr).isNone then 3 else 4) = true) ∧
  (∀ (addr : Nat) (w : Word) (s : State), s.awake = true → addr < 2 ^ 32 → addr % 4 = 0 →
    exec (.mgmtWrite addr [(w, [])] false) s = exec (.registerWrite .mgmt addr w) s ∧
    (∃ t, exec (.mgmtWrite addr [] true) s = .next t ∧ t = { s with cbits := t.cbits } ∧
      (t.cCopy Reg.RAC_STATUS 4).getLsbD 6 = true)) ∧
  (∀ (addr : Nat) (ws : List (Word × List Slow)) (cut : Bool) (s : State), addr < 2 ^ 32 →
    s.pwr.standby = true → s.pwr.inReset = false →
    (∃ t, exec (.mgmtWrite addr ws cut) s = .next t ∧ t.pwr.standby = false ∧ t.regs = s.regs ∧
      (t.cCopy Reg.RAC_STATUS 4).getLsbD 0 = true) ∧
    (∃ t, exec (.qread addr) s = .next t ∧ t.pwr.standby = false ∧ t.acc = s.acc ∧
      (t.cCopy Reg.RAC_STATUS 4).getLsbD 0 = true)) ∧
  (∀ (addr : Nat) (data : Word) (s : State), addr < 2 ^ 32 → s.pwr.inReset = true → s.pwr.soft = true →
    exec (.registerWrite .mgmt addr data) s = .next (s.setC1 Reg.RAC_STATUS 4 1) ∧
    exec (.qread addr) s = .next (s.setC1 Reg.RAC_STATUS 4 1)) ∧
  (∀ (op : Nat) (s : State), mgmtRuns s = true → op < 256 → op ≠ 0x0B → op ≠ 0x02 → op ≠ 0x0C →
    ∃ t, exec (.mgmtBadOpcode op) s = .next t ∧ t = { s with cbits := t.cbits } ∧
      (t.cCopy Reg.RAC_STATUS 4).getLsbD 7 = true) ∧
  (∀ (addr : Nat) (s : State), s.awake = true → addr < 2 ^ 32 → addr % 4 = 0 →
    (s.acc.qPend = none → exec (.qread addr) s =
      .next { s with acc := { s.acc with qPend := some addr, qRdy := false } }) ∧
    (s.acc.qPend ≠ none → ∃ t, exec (.qread addr) s = .next t ∧ t = { s with cbits := t.cbits } ∧
      (t.cCopy Reg.RAC_STATUS 4).getLsbD 7 = true)) ∧
  (∀ (addr : Nat) (s : State), s.awake = true → addr < 2 ^ 32 → addr % 4 ≠ 0 →
    ∃ t, exec (.qread addr) s = .next t ∧ t = { s with cbits := t.cbits } ∧
      (t.cCopy Reg.RAC_STATUS 4).getLsbD (if (regOf s addr).isNone then 3 else 4) = true) ∧
  (∀ (addr a win n : Nat) (row : RegRow) (s : State), s.awake = true → s.acc.qPend = some addr →
    (regOf s addr = some (a, win, n, row) → row.cls ≠ .t → row.cls ≠ .c → isCounterLow a = false →
      exec .qreadDone s = .next { s with acc :=
        { s.acc with qPend := none, qRdy := true, qData := viewReg s 4 a win n row } }) ∧
    (regOf s addr = none → ∃ t, exec .qreadDone s = .next t ∧ t.acc.qRdy = true ∧ t.acc.qData = 0 ∧
      t.acc.qPend = none ∧ (t.cCopy Reg.RAC_STATUS 4).getLsbD 3 = true))

/-- R37, R38, R81, R429, R564: a barrier channel that carries no frames is reported once, empties both queues of the
cell side and keeps its registers, and XFER falls (R429); when it carries frames again, what the cell side had to
report is set in every copy, and in a reset or stand-by it waits on; the cell side notes the loss for itself. Model's
choice: the frozen mirror (log entry 65). -/
def Obligations.BarrierChannel : Prop :=
  ∀ s : State,
    (s.pwr.barrierOk = true → s.pwr.inReset = false → s.acc.rrds = [] →
      ∃ t, exec .afeLinkLost s = .next t ∧ t.pwr = { s.pwr with barrierOk := false } ∧ t.acc.afeQ = [] ∧
        t.acc.hblQ = [] ∧ t.acc.scanQ = s.acc.scanQ ∧ t.acc.sfaQ = s.acc.sfaQ ∧ t.regs = s.regs ∧
        t.hb = { s.hb with x := 0, xHeld := false } ∧
        t.waits .core Ev.AFE_LINK_LOST 0) ∧
    (s.pwr.barrierOk = false → exec .afeLinkLost s = .next s ∧
      ∃ t, exec .afeLinkRestored s = .next t ∧ t.pwr = { s.pwr with barrierOk := true } ∧
        t.cel.logicLost = false ∧ t.hb = s.hb ∧
        (s.released = true →
          (∀ r, r < 5 → t.cCopy Reg.CEL_ERR r = s.cCopy Reg.CEL_ERR r ||| BitVec.ofNat 32 s.cel.errPend) ∧
          (∀ r, r < 5 → t.cCopy Reg.HBD_ERR r = s.cCopy Reg.HBD_ERR r ||| BitVec.ofNat 32 s.cel.hbErrPend) ∧
          t.cel.errPend = 0 ∧ t.cel.hbErrPend = 0) ∧
        (s.released = false → t.cbits = s.cbits ∧ t.cel.errPend = s.cel.errPend ∧
          t.cel.hbErrPend = s.cel.hbErrPend)) ∧
    (s.cel.running = true →
      exec .logicLost s = .next { s with
        cel := { s.cel with logicLost := true }, hb := { s.hb with x := 0, xHeld := false } })

/-- R11, R39, R41, R42, R192, R482, R483, R563: the arbiter takes `SYSTEM_START` before every other event and
otherwise the first event of the earliest source in the fixed order among those that have arrived, gives it the next
sequence number, the frame counter and the operating seconds, and hands it to the contexts that take it (R193), to the
management queue (R484, R485), to FAULT_N (R487) and to the handling model (R511, R512). No other waiting event is
lost. Nothing is stamped while CORE does not run. An entry shows 48 bits of the frame counter. R484, R485, R487, R511:
a POP removes the oldest entry, and after losses the freed entry takes the overflow entry of source instance 4 that
carries the count; an acknowledgement releases FAULT_N; a handler that finishes gives the slot to the suspended
handler unless a queued event is more severe, else to the earliest of the most severe queued events. Model's choice:
SYSTEM_START before everything waiting (log entry 18). -/
def Obligations.Events : Prop :=
  ((∀ (s : State) (arrived : List Source), s.awake = false →
     exec (.eventStamp arrived) s = .next s) ∧
   (∀ (s : State) (arrived : List Source) (src : Source) (e : Event), nextArrival s arrived = some (src, e) →
     (src, e) ∈ s.evt.waiting ∧
     (e.code = Ev.SYSTEM_START.code ∨
       ((∀ p ∈ s.evt.waiting, p.2.code ≠ Ev.SYSTEM_START.code) ∧ src ∈ arrived ∧
         ∀ p ∈ s.evt.waiting, p.1 ∈ arrived → (p.1 ≠ .afe ∨ s.pwr.barrierOk = true) →
           sourceOrder.idxOf src ≤ sourceOrder.idxOf p.1))) ∧
   (∀ (s : State) (arrived : List Source) (src : Source) (e : Event),
     s.awake = true → nextArrival s arrived = some (src, e) →
     ∃ t, exec (.eventStamp arrived) s = .next t ∧
       (∃ more, t.evt.waiting = dropEvent (src, e) s.evt.waiting ++ more ∧ ∀ x ∈ more, x.1 = .core) ∧
       t.evt.waiting.length + 1 ≥ s.evt.waiting.length ∧
       (∀ x ∈ s.evt.waiting, x ≠ (src, e) → x ∈ t.evt.waiting) ∧
       t.evt.nextSeq = (s.evt.nextSeq + 1) % 2 ^ 32 ∧ t.regs = s.regs ∧ t.act = s.act ∧ t.aon = s.aon ∧ t.saf = s.saf ∧
       t.cel = s.cel ∧ t.scn = s.scn ∧ t.arc = s.arc ∧ t.port = s.port ∧ t.pwr = s.pwr ∧
       (∀ c, c < 4 → (vget t.ctx c).evq =
         if ctxTakes s e c then (vget s.ctx c).evq ++ [⟨s.evt.nextSeq, e, s.scn.frame, s.aon.opsec⟩]
         else (vget s.ctx c).evq) ∧
       (let wanted := s.rfld Reg.EVT_MQ_CTL 16 3 ≤ e.sev ∧ classOn (s.rfld Reg.EVT_MQ_CTL 0 16) e.code = true
        (¬ wanted → t.evt.mq = s.evt.mq ∧ t.evt.mqLost = s.evt.mqLost) ∧
        (wanted → s.evt.mq.length < 64 →
          t.evt.mq = s.evt.mq ++ [⟨s.evt.nextSeq, e, s.scn.frame, s.aon.opsec⟩] ∧ t.evt.mqLost = s.evt.mqLost) ∧
        (wanted → 64 ≤ s.evt.mq.length →
          t.evt.mq = s.evt.mq ∧ t.evt.mqLost = min (s.evt.mqLost + 1) 0xFFFF ∧ t.flagged Reg.EVT_ERR 0)) ∧
       (t.evt.faultPend = true ↔ s.evt.faultPend = true ∨ s.rfld Reg.EVT_FAULT_CTL 0 3 ≤ e.sev) ∧
       (e.sev = 4 → e.code ≠ Ev.RGS_LOST.code → s.rgs.stopped = false → s.rgs.queue.length < 256 →
         t.rgs = { s.rgs with queue := s.rgs.queue ++ [.ev ⟨s.evt.nextSeq, e, s.scn.frame, s.aon.opsec⟩] }) ∧
       (s.hnd.slot = none → t.hnd = { s.hnd with slot := some ⟨s.evt.nextSeq, e, s.scn.frame, s.aon.opsec⟩ }) ∧
       (∀ y, s.hnd.slot = some y → y.ev.sev < e.sev →
         t.hnd = { s.hnd with
           slot := some ⟨s.evt.nextSeq, e, s.scn.frame, s.aon.opsec⟩
           suspended := y :: s.hnd.suspended }) ∧
       (∀ y, s.hnd.slot = some y → e.sev ≤ y.ev.sev → pendCount s e.sev < 255 →
         t.hnd = { s.hnd with queued := s.hnd.queued ++ [⟨s.evt.nextSeq, e, s.scn.frame, s.aon.opsec⟩] }) ∧
       (∀ y, s.hnd.slot = some y → e.sev ≤ y.ev.sev → 255 ≤ pendCount s e.sev → e.sev ∉ s.hnd.saturated →
         t.hnd.queued = s.hnd.queued ∧ t.waits .core Ev.HANDLING_SATURATED 0)) ∧
   (∀ (x : Stamped) (phase : Bool), (entryWords x phase).length = 8 ∧
     (entryWords x phase).getD 2 0 + (entryWords x phase).getD 3 0 * 2 ^ 32 = x.frame % 2 ^ 48 ∧
     (entryWords x phase).getD 0 0 = x.seq ∧ (entryWords x phase).getD 4 0 = x.opsec)) ∧
  ((∀ s : State, s.evt.mq = [] → exec .mqPop s = .next s) ∧
   (∀ (s : State) x rest, s.evt.mq = x :: rest → s.evt.mqLost = 0 →
     exec .mqPop s = .next { s with evt := { s.evt with mq := rest } }) ∧
   (∀ (s : State) x rest, s.evt.mq = x :: rest → s.evt.mqLost ≠ 0 →
     exec .mqPop s = .next { s with evt := { s.evt with
       mq := rest ++ [⟨s.evt.mqLastLost, { code := 0x0207, sev := 1, inst := 4, d0 := s.evt.mqLost }, s.scn.frame,
         s.aon.opsec⟩]
       mqLost := 0 } }) ∧
   (∀ s : State, s.pwr.inReset = false → s.pwr.docent ≠ .off →
     ∃ t, exec .faultAck s = .next t ∧ faultLow t = false ∧ t = { s with evt := { s.evt with faultPend := false } }) ∧
   (∀ s : State, s.docentRuns = true → s.hnd.suspended = [] → s.hnd.queued = [] →
     ∃ t, exec .handlerComplete s = .next t ∧ t = { s with hnd := { s.hnd with slot := none } }) ∧
   (∀ (s : State) x y rest, s.docentRuns = true → s.hnd.slot = some x → s.hnd.suspended = y :: rest →
     (∀ q ∈ s.hnd.queued, q.ev.sev ≤ y.ev.sev) →
     exec .handlerComplete s = .next { s with hnd := { s.hnd with slot := some y, suspended := rest } }) ∧
   (∀ (s : State) x pre q post, s.docentRuns = true → s.hnd.slot = some x → s.hnd.queued = pre ++ q :: post →
     (∀ z ∈ pre, z.ev.sev < q.ev.sev) → (∀ z ∈ post, z.ev.sev ≤ q.ev.sev) →
     (∀ y, s.hnd.suspended.head? = some y → y.ev.sev < q.ev.sev) →
     ∃ t, exec .handlerComplete s = .next t ∧ t.hnd.slot = some q ∧ t.hnd.queued = pre ++ post ∧
       t.hnd.suspended = s.hnd.suspended ∧ t = { s with hnd := t.hnd }))

/-- R489 to R491, R494 to R496: the Registrar writes its oldest queued event as a record of the layout of R489 into
the next slot of the permanent region, and of the rolling region once that is full; a failed write skips the slot; a
keyed factory clear, where the lifecycle allows it, erases both regions when it completes; reading the log advances
it. Model's choices: log entries 16 and 18. -/
def Obligations.RecordWriting : Prop :=
  (∀ (s : State) x rest, s.docentRuns = true → s.rgs.stopped = false → s.rgs.clearing = false →
    s.rgs.queue = .ev x :: rest → s.rgs.lostRun = 0 →
    (∃ t r, exec (.recordWrite true) s = .next t ∧ t.rgs.queue = rest ∧ t.rgs.recNo = (s.rgs.recNo + 1) % 2 ^ 32 ∧
      t.regs = s.regs ∧ t.evt = s.evt ∧ t.cbits = s.cbits ∧
      (s.rgs.permNext < 4096 → s.rgs.permNext < t.rgs.permNext ∧ t.rgs.permNext ≤ 4096 ∧
        (∀ i, s.rgs.permNext < i → i < t.rgs.permNext → slotTaken s.arc.perm i = true) ∧
        (t.rgs.permNext < 4096 → slotTaken s.arc.perm t.rgs.permNext = false) ∧ t.arc.roll = s.arc.roll ∧
        ∀ k, kfind t.arc.perm k = if k = s.rgs.permNext then some r else kfind s.arc.perm k) ∧
      (4096 ≤ s.rgs.permNext → t.rgs.rollNext = (s.rgs.rollNext + 1) % 65536 ∧ t.arc.perm = s.arc.perm ∧
        kfind t.arc.roll s.rgs.rollNext = some r) ∧
      r.bytes.length = 64 ∧ r.crcOk = true ∧
      ofBytesLE (r.bytes.take 4) = x.seq % 2 ^ 32 ∧ ofBytesLE ((r.bytes.drop 4).take 2) = x.ev.code % 2 ^ 16 ∧
      ofBytesLE ((r.bytes.drop 8).take 6) = x.frame % 2 ^ 48 ∧
      ofBytesLE ((r.bytes.drop 16).take 4) = x.opsec % 2 ^ 32 ∧
      ofBytesLE ((r.bytes.drop 20).take 4) = s.aon.pwrcyc % 2 ^ 32 ∧
      ofBytesLE ((r.bytes.drop 36).take 4) = s.rgs.recNo % 2 ^ 32 ∧
      ofBytesLE ((r.bytes.drop 56).take 4) = crc32c (r.bytes.take 56) % 2 ^ 32 ∧
      ofBytesLE ((r.bytes.drop 60).take 4) = 0xC35AA53C) ∧
    (∃ t, exec (.recordWrite false) s = .next t ∧ (s.rgs.permNext < 4096 → t.arc = s.arc) ∧
      (4096 ≤ s.rgs.permNext → t.arc = { s.arc with roll := eraseAhead s.arc.roll s.rgs.rollNext }) ∧
        t.rgs.queue = s.rgs.queue ∧
      t.rgs.fails = s.rgs.fails + 1 ∧ (t.rgs.stopped = true ↔ 7 ≤ s.rgs.fails) ∧
      (7 ≤ s.rgs.fails → t.waits .core Ev.RGS_STOPPED 0))) ∧
  (∀ (s : State) (data : Word),
    (acts data 0 = true → keyed data 0x3C = true → lifecycle s ≠ 1 →
      exec (.factoryClear data) s = .next { s with rgs := { s.rgs with clearing := true } }) ∧
    (acts data 0 = false ∨ keyed data 0x3C = false ∨ lifecycle s = 1 → exec (.factoryClear data) s = .next s)) ∧
  (∀ s : State, s.rgs.clearing = true →
    ∃ t, exec .factoryClearDone s = .next t ∧ t.arc = { s.arc with perm := [], roll := [] } ∧
      t.rgs.recNo = 0 ∧ t.rgs.clearing = false ∧ t.rgs.queue = s.rgs.queue ∧ s.raisedOne t .core Ev.RGS_CLEARED 0) ∧
  (∀ (s : State) (r : Reader), ∃ t, exec (.rgsRdDataAccess r) s = .next t ∧ t.arc = s.arc ∧ t.rgs = s.rgs ∧
    t.rfld Reg.RGS_RD_INDEX 0 4 = (s.rfld Reg.RGS_RD_INDEX 0 4 + 1) % 16 ∧
    (s.rfld Reg.RGS_RD_INDEX 0 4 < 15 → t.rfld Reg.RGS_RD_INDEX 4 16 = s.rfld Reg.RGS_RD_INDEX 4 16) ∧
    (s.rfld Reg.RGS_RD_INDEX 0 4 = 15 → s.rfld Reg.RGS_RD_INDEX 4 16 < 4095 →
      t.rfld Reg.RGS_RD_INDEX 4 16 = s.rfld Reg.RGS_RD_INDEX 4 16 + 1) ∧
    (∀ a, a ≠ Reg.RGS_RD_INDEX → t.reg a = s.reg a))

/-- R20, R79, R492, R542: the Docent starts from the boot slot, else from the other, and with no acceptable image
raises `BOOT_VERIFY_FAIL`; an image is accepted only where its signature verifies, a key hash is fused and its major
version reaches the rollback floor. A lock-step fault restarts it, twice within 60 s on an unconfirmed image asks for
the fallback (R517), and the restart puts it back in service. R43, R515 to R518: an erase, the data writes and the
check act on the slot that is not running; the check raises `FW_IMAGE_LOADED` and sets VERIFIED only for an image that
R542 accepts; a switch is taken only of a verified image and confirmation makes the running image the boot slot; while
the Docent is stopped a request is lost; a request meets BUSY without effect (the model's choice, log entry 21).
`SERVICE_RELOAD` asks for a reload at the next boundary (R522). Model's choices: log entry 21. -/
def Obligations.Firmware : Prop :=
  ((∀ s : State, s.awake = true → s.pwr.docent = .off →
     (imageOk s (s.arc.boot % 2) = true → ∃ t, exec .docentStart s = .next t ∧ t.pwr = { s.pwr with docent := .running } ∧
       t.fw.running = s.arc.boot % 2 ∧ t.fw.unconf = false ∧ t.arc = s.arc ∧ t.regs = s.regs ∧ t.scn = s.scn) ∧
     (imageOk s (s.arc.boot % 2) = false → imageOk s (1 - s.arc.boot % 2) = true →
       ∃ t, exec .docentStart s = .next t ∧ t.pwr.docent = .running ∧ t.fw.running = 1 - s.arc.boot % 2) ∧
     (imageOk s (s.arc.boot % 2) = false → imageOk s (1 - s.arc.boot % 2) = false →
       ∃ t, exec .docentStart s = .next t ∧ t = { s with evt := t.evt } ∧
         s.raisedOne t .core Ev.BOOT_VERIFY_FAIL 0)) ∧
   (∀ (s : State) (slot : Nat), imageOk s slot = true →
     (vget s.arc.fw slot).signed = true ∧ keyHashZero s = false ∧
       rollbackFloor s ≤ (vget s.arc.fw slot).version / 256) ∧
   (∀ s : State, s.awake = true → s.pwr.docent = .running →
     ∃ t, exec .docentLockstep s = .next t ∧ t.pwr = { s.pwr with docent := .restarting } ∧
       s.raisedOne t .core Ev.DOCENT_LOCKSTEP 0 ∧ t.rgs = s.rgs ∧ t.scn = s.scn ∧ t.arc = s.arc ∧
       (s.fw.unconf = true → (∃ a ∈ s.fw.locksteps, s.aon.opsec ≤ a + 60) → t.fw.fallbackReq = true) ∧
       (s.fw.unconf = false → t.fw.fallbackReq = s.fw.fallbackReq)) ∧
   (∀ s : State, s.awake = true → s.pwr.docent = .restarting →
     exec .docentRestartDone s = .next { s with
       pwr := { s.pwr with docent := .running }, fw := { s.fw with ready := true } })) ∧
  ((∀ s : State, s.docentRuns = true → fwBusy s = false →
     (∃ t, exec .fwErase s = .next t ∧ t.fw.busyErase = true ∧ t.fw.verified = false ∧
       (vget t.arc.fw (otherSlot s)).signed = false ∧ (vget t.arc.fw (otherSlot s)).words = [] ∧
       vget t.arc.fw (s.fw.running % 2) = vget s.arc.fw (s.fw.running % 2)) ∧
     (∀ data : Word, ∃ t, exec (.fwDataWrite data) s = .next t ∧ t.fw.verified = false ∧
       (vget t.arc.fw (otherSlot s)).signed = false ∧
       kfind (vget t.arc.fw (otherSlot s)).words (s.rfld Reg.GLB_FW_INDEX 0 22) = some data ∧
       t.rfld Reg.GLB_FW_INDEX 0 22 = (s.rfld Reg.GLB_FW_INDEX 0 22 + 1) % 2 ^ 22 ∧
       (∀ a, a ≠ Reg.GLB_FW_INDEX → t.reg a = s.reg a) ∧
       vget t.arc.fw (s.fw.running % 2) = vget s.arc.fw (s.fw.running % 2)) ∧
     (exec .fwVerify s = .next { s with fw := { s.fw with busyVerify := true } }) ∧
     (s.fw.verified = true → exec .fwSwitch s = .next { s with fw := { s.fw with switchReq := true } })) ∧
   (∀ s : State, (fwBusy s = true ∨ s.docentRuns = false) → exec .fwErase s = .next s ∧ exec .fwVerify s = .next s ∧
     exec .fwSwitch s = .next s ∧
     ∀ data, exec (.fwDataWrite data) s = .next s) ∧
   (∀ s : State, s.docentRuns = true → exec .fwEraseDone s = .next { s with fw := { s.fw with busyErase := false } }) ∧
   (∀ s : State, s.docentRuns = false → exec .fwEraseDone s = .next s ∧ exec .fwConfirmCmd s = .next s ∧
     ∀ signed version, version < 65536 → exec (.fwVerifyDone signed version) s = .next s) ∧
   (∀ (s : State) (signed : Bool) (version : Nat), s.docentRuns = true → version < 65536 → s.fw.busyVerify = true →
     ∃ t, exec (.fwVerifyDone signed version) s = .next t ∧ t.fw.busyVerify = false ∧
       (t.fw.verified = true ↔
         signed = true ∧ keyHashZero s = false ∧ rollbackFloor s ≤ version / 256) ∧
       (t.fw.verified = true → s.raisedOne t .core Ev.FW_IMAGE_LOADED 0) ∧
       (t.fw.verified = false → s.raisedOne t .core Ev.FW_VERIFY_FAIL 0)) ∧
   (∀ s : State, s.fw.unconf = true →
     (s.docentRuns = true → ∃ t, exec .fwConfirmCmd s = .next t ∧ t.fw.unconf = false ∧ t.fw.boot = s.fw.running ∧
       t.arc = { s.arc with boot := s.fw.running } ∧ s.raisedOne t .core Ev.FW_CONFIRMED 0 ∧
       (s.fw.fallbackReq = false → exec .fwConfirmTimeout s = .next t)) ∧
     (s.fw.ready = false → exec .fwReadyTimeout s = .next { s with fw := { s.fw with fallbackReq := true } })) ∧
   (∀ s : State, s.fw.unconf = false → exec .fwConfirmCmd s = .next s ∧ exec .fwConfirmTimeout s = .next s ∧
     exec .fwReadyTimeout s = .next s) ∧
   (∀ s : State, s.awake = true → exec .serviceReload s = .next { s with cmt := { s.cmt with svcReload := true } }))

/-- R539 to R541, R543 to R545: a keyed command blows the selected bits that the lifecycle state allows and the
running image's major version carries, any other bits are refused with `FUSE_REFUSED`, and a blow without a mismatch
sets exactly its bits; the debug instructions that only TEST has act as BYPASS elsewhere, put both safety cores into
the safe state in TEST, and `DOCENT_HALT` halts the Docent; the data register of an instruction leaves at TDO (the
model's choice, log entry 104); DBG_OFF holds the TAP at IDCODE. Model's choices: a blow during BUSY has no effect
(log entry 20), and what leaves at TDO (log entry 104). -/
def Obligations.FusesAndDebug : Prop :=
  (∀ (s : State) (data : Word) (ok : Bool), keyed data 0x69 = false → exec (.fuseBlow data ok) s = .next s) ∧
  (∀ (s : State) (data : Word) (ok : Bool), acts data 0 = true → keyed data 0x69 = true → s.fuse.busy = none →
    (fuseRefused s (s.rfld Reg.SEC_PROG_INDEX 0 7) (s.reg Reg.SEC_PROG_DATA) ok = true →
      ∃ t, exec (.fuseBlow data ok) s = .next t ∧ t.fuse = { s.fuse with result := 2 } ∧
        s.raisedOne t .core Ev.FUSE_REFUSED 0 ∧ t = { s with fuse := t.fuse, evt := t.evt }) ∧
    (fuseRefused s (s.rfld Reg.SEC_PROG_INDEX 0 7) (s.reg Reg.SEC_PROG_DATA) ok = false →
      exec (.fuseBlow data ok) s = .next { s with fuse := { s.fuse with
        busy := some (s.rfld Reg.SEC_PROG_INDEX 0 7, s.reg Reg.SEC_PROG_DATA) } })) ∧
  (∀ (s : State) (w : Nat) (bits : Word), fuseRefused s w bits true = false →
    (98 < w → bits = 0) ∧
    (∀ i, bits.getLsbD i = true → lifecycle s = 3 → w = 2 ∧ i = 8) ∧
    (w = 3 → popCount 32 (kget 0 s.fuse.blown 3 ||| bits).toNat + popCount 32 (kget 0 s.fuse.blown 4).toNat ≤
      runVersion s / 256 % 256)) ∧
  (∀ (s : State) (w : Nat) (bits : Word), s.fuse.busy = some (w, bits) →
    ∃ t, exec (.fuseBlowDone false) s = .next t ∧ t.fuse.busy = none ∧ t.fuse.result = 1 ∧
      t.fuse.sensed = s.fuse.sensed ∧ s.raisedOne t .core Ev.FUSE_BLOWN 0 ∧
      ∀ k, kget 0 t.fuse.blown k = if k = w then kget 0 s.fuse.blown w ||| bits else kget 0 s.fuse.blown k) ∧
  (∀ s : State, dbgOff s = false → lifecycle s = 0 →
    (∃ t, exec .extest s = .next t ∧ t.dbg.ir = .extest ∧ t.saf.inSafe = true ∧ t.pwr = s.pwr) ∧
    (∃ t, exec .docentHalt s = .next t ∧ t.dbg.ir = .docentHalt ∧ t.saf.inSafe = true ∧
      t.pwr = { s.pwr with docent := .halted })) ∧
  (∀ s : State, dbgOff s = false → lifecycle s ≠ 0 → exec .extest s = exec .bypass s ∧
    exec .docentHalt s = exec .bypass s) ∧
  (∀ (s : State) (balls : List Bool), dbgOff s = false →
    exec .idcode s = .next { s with
      dbg := { s.dbg with ir := .idcode, dr := idcode }, out := s.out ++ [.tdo ((List.range 32).map idcode.testBit)] } ∧
    exec .bypass s = .next { s with dbg := { s.dbg with ir := .bypass, dr := 0 }, out := s.out ++ [.tdo [false]] } ∧
    exec (.samplePreload balls) s = .next { s with
      dbg := { s.dbg with ir := .samplePreload, dr := 0, boundary := balls }
      out := s.out ++ (if balls = [] then [] else [.tdo balls]) }) ∧
  (∀ (s : State) (balls : List Bool), dbgOff s = true →
    ∀ c ∈ [Instr.extest, .idcode, .samplePreload balls, .docentHalt, .bypass],
      exec c s = .next { s with dbg := { s.dbg with ir := .idcode } })

/-- R165, R168, R190, R195, R197, R199, R210, R254: a context is enabled only with valid rings and without a layer
that another enabled context holds, starts with indices 0 and phases 1, and when disabled completes all that it holds
with ABORTED and its effective frame; it is idle, and `CTX_DISABLED` comes, once the last completion has been written,
or is discarded where the port is not UP (at the next millisecond, the model's choice of log entry 33). Rights change
under the same conflict rule, and a layer that no context may drive any more is held no longer; a failover switch is
taken only of a pair. Model's choices: log entries 33 and 40. -/
def Obligations.ContextRights : Prop :=
  ∀ (c : Fin 4) (s : State),
    (ctxEnabled s c = true ∨ (s.pwr.legacy = true ∧ c.val ≠ 0) → exec (.contextEnable c) s = .next s) ∧
    (ctxEnabled s c = false → (s.pwr.legacy = false ∨ c.val = 0) →
      (ringsValid s c = false →
        ∃ t, exec (.contextEnable c) s = .next t ∧ t = { s with evt := t.evt } ∧
          s.raisedOne t .core Ev.RING_CFG_INVALID c) ∧
      (ringsValid s c = true → hcxRole s c ≠ 2 → layerConflict s c (hcxLayers s c) = true →
        ∃ t, exec (.contextEnable c) s = .next t ∧ t = { s with ctx := t.ctx, evt := t.evt } ∧
          (vget t.ctx c.val).conflict = true ∧ s.raisedOne t .core Ev.LAYER_RIGHTS_CONFLICT c) ∧
      (ringsValid s c = true → (hcxRole s c = 2 ∨ layerConflict s c (hcxLayers s c) = false) →
        ∃ t, exec (.contextEnable c) s = .next t ∧ ctxEnabled t c = true ∧
          (∀ a, a ≠ hcx Reg.HCX_CTL c → t.reg a = s.reg a) ∧
          (vget t.ctx c.val).sqTail = 0 ∧ (vget t.ctx c.val).sqHead = 0 ∧ (vget t.ctx c.val).cqHead = 0 ∧
          (vget t.ctx c.val).cqTail = 0 ∧ (vget t.ctx c.val).eqHead = 0 ∧ (vget t.ctx c.val).eqTail = 0 ∧
          (vget t.ctx c.val).cqPhase = true ∧ (vget t.ctx c.val).eqPhase = true ∧ (vget t.ctx c.val).alive = none ∧
          (vget t.ctx c.val).closing = false ∧ t.waits .core Ev.CTX_ENABLED c)) ∧
    (ctxEnabled s c = true →
      ∃ t, exec (.contextDisable c) s = .next t ∧ ctxEnabled t c = false ∧
        (∀ a, a ≠ hcx Reg.HCX_CTL c → t.reg a = s.reg a) ∧
        (vget t.ctx c.val).pend = [] ∧ (vget t.ctx c.val).fences = [] ∧ (vget t.ctx c.val).ingests = [] ∧
        (vget t.ctx c.val).tloads = [] ∧ (vget t.ctx c.val).queries = [] ∧ (vget t.ctx c.val).fetched = [] ∧
        (∀ x ∈ heldDescs s c, ∃ k ∈ (vget t.ctx c.val).cplq, k.slot = x.1.slot ∧ k.user = x.1.word 1 ∧ k.op = x.1.op ∧
          k.status = 10 ∧ k.frame = x.2.1 % 2 ^ 32 ∧ k.late = x.2.2) ∧
        (vget t.ctx c.val).cplq.length = (vget s.ctx c.val).cplq.length + (heldDescs s c).length ∧
        ((vget t.ctx c.val).cplq = [] → (vget t.ctx c.val).closing = false ∧ s.raisedOne t .core Ev.CTX_DISABLED c) ∧
        ((vget t.ctx c.val).cplq ≠ [] → (vget t.ctx c.val).closing = true ∧ t.evt = s.evt ∧ ctxIdle t c = false)) ∧
    (s.awake = true → (vget s.ctx c.val).closing = true → portUp s c = false →
      (vget s.closeTick.ctx c.val).cplq = [] ∧ (vget s.closeTick.ctx c.val).closing = false ∧
        s.closeTick.waits .core Ev.CTX_DISABLED c) ∧
    (∀ data : Word,
      (ctxEnabled s c = true → hcxRole s c ≠ 2 → layerConflict s c (fld data 0 16) = true →
        ∃ t, exec (.layerRightsWrite c data) s = .next t ∧ t = { s with ctx := t.ctx, evt := t.evt } ∧
          (vget t.ctx c.val).conflict = true ∧ s.raisedOne t .core Ev.LAYER_RIGHTS_CONFLICT c) ∧
      ((ctxEnabled s c = false ∨ hcxRole s c = 2 ∨ layerConflict s c (fld data 0 16) = false) →
        ∃ t, exec (.layerRightsWrite c data) s = .next t ∧ hcxLayers t c = fld data 0 16 ∧
          t = { s with regs := t.regs, ctx := t.ctx, layer := t.layer } ∧
          (∀ a, a ≠ hcx Reg.HCX_LAYERS c → t.reg a = s.reg a) ∧
          ∀ n, n < 16 →
            if granted s n = true ∧ granted t n = false
            then (vget t.layer n).held = none ∧ (vget t.layer n).hold = 0
            else vget t.layer n = vget s.layer n) ∧
      (∃ t, exec (.hcxQuotaWrite c data) s = .next t ∧ t = { s with regs := t.regs, cur := t.cur } ∧
        quotaMib t c = min 3840 (fld data 0 16) ∧ quotaHandles t c = fld data 16 16 ∧
        t.cur.qeff = effectiveQuotas t ∧ (∀ a, a ≠ hcx Reg.HCX_QUOTA c → t.reg a = s.reg a))) ∧
    ((pairOf s c).isSome = true →
      exec (.failoverSwitchCmd c) s = .next (s.modCtx c (fun q => { q with switchReq := true }))) ∧
    (pairOf s c = none → exec (.failoverSwitchCmd c) s = .next s)

/-- R170, R189, R192 to R195: the oldest completion and the oldest event go to host memory at their ring's tail, with
the phase bit that toggles as the ring wraps and the producer index after them; neither is written to a full ring or
over a port that is not UP: the completion waits, the event is counted as lost and the count goes to the event block;
after losses the overflow entry comes first. The last completion of a disabled context brings `CTX_DISABLED`. R144,
R171 to R173: a poll or a fetch of a disabled context, or over a port that is not UP, changes nothing; a poll reads
the submission producer index from the doorbell area and a fetch up to 16 descriptors, not across the end of the ring
or a 4 KiB boundary, each with an MRD of a free tag; fetching pauses at 64 pending descriptors, 16 loads or 192
completions. The completion of a poll gives the index, one outside the ring is reported, and that of a fetch the
descriptors; a read that fails leaves the indices, and a fetch that fails is flagged. Model's choices: log entries 25
and 33. -/
def Obligations.HostRings : Prop :=
  (∀ (c : Fin 4) (s : State),
     ((vget s.ctx c.val).cplq = [] → exec (.completionWrite c) s = .next s) ∧
     (∀ k rest, (vget s.ctx c.val).cplq = k :: rest →
       ((portUp s c = false ∨ ringFull s c 1 (vget s.ctx c.val).cqHead (vget s.ctx c.val).cqTail = true) →
         exec (.completionWrite c) s = .next s) ∧
       (portUp s c = true → ringFull s c 1 (vget s.ctx c.val).cqHead (vget s.ctx c.val).cqTail = false →
         ∃ t, exec (.completionWrite c) s = .next t ∧
           t = { s with ctx := t.ctx, port := t.port, out := t.out, evt := t.evt } ∧
           ((vget s.ctx c.val).closing = true → rest = [] → s.raisedOne t .core Ev.CTX_DISABLED c) ∧
           ((vget s.ctx c.val).closing = false ∨ rest ≠ [] → t.evt = s.evt) ∧
           vget t.ctx c.val = { vget s.ctx c.val with
             cplq := rest
             closing := (vget s.ctx c.val).closing && !rest.isEmpty
             cqTail := ((vget s.ctx c.val).cqTail + 1) % ringSize s c 1
             cqPhase := if ((vget s.ctx c.val).cqTail + 1) % ringSize s c 1 = 0 then !(vget s.ctx c.val).cqPhase
                        else (vget s.ctx c.val).cqPhase } ∧
           (∀ w ∈ cutWrite (maxPayload s c) 17 (ringBase s c 1 + 16 * (vget s.ctx c.val).cqTail)
               (wordBytes (completionWords k (vget s.ctx c.val).cqPhase)), t.issued c.val w))) ∧
     (∀ x rest, (vget s.ctx c.val).evq = x :: rest → (vget s.ctx c.val).evLost = 0 →
       (portUp s c = true → ringFull s c 2 (vget s.ctx c.val).eqHead (vget s.ctx c.val).eqTail = false →
         ∃ t, exec (.eventRingWrite c) s = .next t ∧ t = { s with ctx := t.ctx, port := t.port, out := t.out } ∧
           vget t.ctx c.val = { vget s.ctx c.val with
             evq := rest
             eqTail := ((vget s.ctx c.val).eqTail + 1) % ringSize s c 2
             eqPhase := if ((vget s.ctx c.val).eqTail + 1) % ringSize s c 2 = 0 then !(vget s.ctx c.val).eqPhase
                        else (vget s.ctx c.val).eqPhase } ∧
           (∀ w ∈ cutWrite (maxPayload s c) 33 (ringBase s c 2 + 32 * (vget s.ctx c.val).eqTail)
               (wordBytes (entryWords x (vget s.ctx c.val).eqPhase)), t.issued c.val w)) ∧
       ((portUp s c = false ∨ ringFull s c 2 (vget s.ctx c.val).eqHead (vget s.ctx c.val).eqTail = true) →
         ∃ t, exec (.eventRingWrite c) s = .next t ∧
           t = { s with ctx := t.ctx, cbits := t.cbits, port := t.port, out := t.out } ∧
           vget t.ctx c.val = { vget s.ctx c.val with evq := rest, evLost := 1, evLostSeq := x.seq } ∧
           t.flagged (hcx Reg.HCX_ERR c) 4 ∧
           (portUp s c = true → ∀ w ∈ cutWrite (maxPayload s c) 17 (ringBase s c 3 + 0xA0)
             (wordBytes [(vget s.ctx c.val).eqTail, 1, 0, 0]), t.issued c.val w))) ∧
     ((vget s.ctx c.val).evLost = 0 → exec (.evtRingOverflow c) s = .next s) ∧
     ((vget s.ctx c.val).evLost ≠ 0 → portUp s c = true →
       ringFull s c 2 (vget s.ctx c.val).eqHead (vget s.ctx c.val).eqTail = false →
       ∃ t, exec (.evtRingOverflow c) s = .next t ∧ (vget t.ctx c.val).evLost = 0 ∧
         (vget t.ctx c.val).evq = (vget s.ctx c.val).evq ∧
         (vget t.ctx c.val).eqTail = ((vget s.ctx c.val).eqTail + 1) % ringSize s c 2 ∧
         ∀ w ∈ cutWrite (maxPayload s c) 33 (ringBase s c 2 + 32 * (vget s.ctx c.val).eqTail)
             (wordBytes (entryWords ⟨(vget s.ctx c.val).evLostSeq,
               { code := 0x0207, sev := 1, inst := c, d0 := (vget s.ctx c.val).evLost }, s.scn.frame, s.aon.opsec⟩
               (vget s.ctx c.val).eqPhase)), t.issued c.val w)) ∧
  (∀ (c : Fin 4) (k0 k1 k2 most : Nat) (s : State),
     ((s.awake = false ∨ ctxEnabled s c = false ∨ portUp s c = false) →
       exec (.doorbellPoll c k0 k1 k2) s = .next s ∧ exec (.descriptorFetch c most) s = .next s) ∧
     (s.rfld (hcx Reg.HCX_POLL c) 0 16 = 0 → exec (.doorbellPoll c k0 k1 k2) s = .next s) ∧
     ((fetchPaused s c = true ∨ fetching s c = true) → exec (.descriptorFetch c most) s = .next s) ∧
     ((64 ≤ (vget s.ctx c.val).pend.length ∨ 16 ≤ (vget s.ctx c.val).ingests.length ∨
       192 ≤ (vget s.ctx c.val).cplq.length) → fetchPaused s c = true) ∧
     (fetchCount s c ≤ 16 ∧ ((vget s.ctx c.val).sqHead < ringSize s c 0 →
       (vget s.ctx c.val).sqHead + fetchCount s c ≤ ringSize s c 0) ∧
       (vget s.ctx c.val).sqHead % 64 + fetchCount s c ≤ 64) ∧
     (∀ tag, s.awake = true → ctxEnabled s c = true → portUp s c = true → freeTag s c = some tag →
       (s.rfld (hcx Reg.HCX_POLL c) 0 16 ≠ 0 → mrdBytes s c + 4 ≤ 16384 →
         ringFull s c 1 (vget s.ctx c.val).cqHead (vget s.ctx c.val).cqTail = false →
         ringFull s c 2 (vget s.ctx c.val).eqHead (vget s.ctx c.val).eqTail = false →
         ∃ t, exec (.doorbellPoll c k0 k1 k2) s = .next t ∧ t = { s with port := t.port, out := t.out } ∧
           (vget t.port c.val).mrds =
             (vget s.port c.val).mrds ++ [⟨tag, ringBase s c 3, 4, [], .poll (vget s.ctx c.val).life 0⟩] ∧
           t.issued c.val (.mrd tag (ringBase s c 3) 4)) ∧
       (fetchPaused s c = false → fetching s c = false → min most (fetchCount s c) ≠ 0 →
         mrdBytes s c + 64 * min most (fetchCount s c) ≤ 16384 →
         let a := ringBase s c 0 + 64 * (vget s.ctx c.val).sqHead
         let n := min most (fetchCount s c)
         ∃ t, exec (.descriptorFetch c most) s = .next t ∧ t = { s with port := t.port, out := t.out } ∧
           (vget t.port c.val).mrds = (vget s.port c.val).mrds ++
             [⟨tag, a, 64 * n, [], .fetch (vget s.ctx c.val).life (vget s.ctx c.val).sqHead n⟩] ∧
           t.issued c.val (.mrd tag a (64 * n)))) ∧
     (∀ (i : Instr) (x : Trans) (u : State) (m : Mrd), s.bringsTrans i c x u → x.typ = 0x03 →
       x.fieldsOk (maxPayload u c.val) = true → ctxEnabled u c = true →
       (vget u.port c.val).mrds.find? (fun m => m.tag == x.tag) = some m →
       (x.status = 0 → mcplFits m x.d1 x.d2 x.len = true → m.data.length + x.payload.length = m.count →
         (∀ ring, m.use = .poll (vget u.ctx c.val).life ring → ring < 3 →
           let index := ofBytesLE ((m.data ++ x.payload).take 4) % 65536
           (index < ringSize u c ring → ∃ t, exec i s = .next t ∧ t.evt = u.evt ∧
             (ring = 0 → (vget t.ctx c.val).sqTail = index) ∧ (ring = 1 → (vget t.ctx c.val).cqHead = index) ∧
             (ring = 2 → (vget t.ctx c.val).eqHead = index)) ∧
           (ringSize u c ring ≤ index → ∃ t, exec i s = .next t ∧ t.flagged (hcx Reg.HCX_ERR c) 2 ∧
             u.raisedOne t .core Ev.RING_INDEX_INVALID c ∧ (vget t.ctx c.val).sqTail = (vget u.ctx c.val).sqTail ∧
             (vget t.ctx c.val).cqHead = (vget u.ctx c.val).cqHead ∧
             (vget t.ctx c.val).eqHead = (vget u.ctx c.val).eqHead)) ∧
         (∀ head n, m.use = .fetch (vget u.ctx c.val).life head n →
           ∃ t, exec i s = .next t ∧ t.evt = u.evt ∧ t.regs = u.regs ∧
             (vget t.ctx c.val).sqHead = (head + n) % ringSize u c 0 ∧
             (vget t.ctx c.val).fetched = (vget u.ctx c.val).fetched ++ (List.range n).map (fun k =>
               ({ slot := head + k, w := descWords (m.data ++ x.payload) k } : Desc)))) ∧
       (x.status ≠ 0 → ∀ life, (∃ ring, m.use = .poll life ring) ∨ (∃ head n, m.use = .fetch life head n) →
         ∃ t, exec i s = .next t ∧ t.waits .refl Ev.HOST_READ_ERROR c ∧
           (vget t.ctx c.val).sqTail = (vget u.ctx c.val).sqTail ∧ (vget t.ctx c.val).sqHead = (vget u.ctx c.val).sqHead ∧
           (vget t.ctx c.val).fetched = (vget u.ctx c.val).fetched ∧
           ((∃ head n, m.use = .fetch life head n) → life = (vget u.ctx c.val).life →
             t.flagged (hcx Reg.HCX_ERR c) 3))))

/-- R175, R176: a descriptor goes through the five checks in their order, and the first that fails decides: ALIVE,
opcode, fields, rights, handle. Each consumes the descriptor, completes it with its status, sets its bit of `HCX_ERR`
and raises its event; a command whose opcode is not that of the next descriptor, and one of a context that is disabled
or held by a fence, changes nothing. Model's choices: log entry 34. -/
def Obligations.DescriptorChecks : Prop :=
  (∀ (c : Fin 4) (s : State) (op : Nat), nextDesc s c = none → exec (descCmd op c) s = .next s) ∧
  (∀ (c : Fin 4) (s : State) (d : Desc) (op : Nat), nextDesc s c = some d →
    descCmd op c ≠ descCmd d.op c → exec (descCmd op c) s = .next s) ∧
  (∀ (c : Fin 4) (s : State), s.awake = false → nextDesc s c = none) ∧
  (∀ (c : Fin 4) (s : State) (d : Desc), nextDesc s c = some d →
    (aliveOk s c d = false →
      ∃ t, exec (descCmd d.op c) s = .next t ∧ s.completedWith t c d 8 ∧ t.flagged (hcx Reg.HCX_ERR c) 0 ∧
        s.raisedOne t .core Ev.DESC_ALIVE c ∧ (vget t.ctx c.val).fetched = (vget s.ctx c.val).fetched.drop 1 ∧
        (vget t.ctx c.val).alive = some (d.bits 0 16 8) ∧ t.layer = s.layer ∧ t.regs = s.regs ∧ t.pix = s.pix) ∧
    (aliveOk s c d = true → 9 < d.op →
      ∃ t, exec (.descriptorBadOpcode c) s = .next t ∧ s.completedWith t c d 1 ∧ t.flagged (hcx Reg.HCX_ERR c) 1 ∧
        s.raisedOne t .core Ev.DESC_REJECTED c ∧ (vget t.ctx c.val).fetched = (vget s.ctx c.val).fetched.drop 1) ∧
    (∀ status, aliveOk s c d = true →
      ((9 < d.op ∧ status = 1) ∨ (d.op ≤ 9 ∧ fieldsOk s c d = false ∧ status = 2) ∨
       (d.op ≤ 9 ∧ fieldsOk s c d = true ∧ rightsOk s c d = false ∧ status = 3) ∨
       (d.op ≤ 9 ∧ fieldsOk s c d = true ∧ rightsOk s c d = true ∧ knownOk s c d = false ∧ status = 4)) →
      ∃ t, exec (descCmd d.op c) s = .next t ∧ s.completedWith t c d status ∧ t.flagged (hcx Reg.HCX_ERR c) 1 ∧
        s.raisedOne t .core Ev.DESC_REJECTED c ∧ (vget t.ctx c.val).fetched = (vget s.ctx c.val).fetched.drop 1 ∧
        (vget t.ctx c.val).pend = (vget s.ctx c.val).pend ∧ t.layer = s.layer ∧ t.regs = s.regs ∧ t.pix = s.pix ∧
        t.cur = s.cur))

/-- R174, R179 to R181, R185, R187: what the descriptors that bind to a frame do once they pass their checks: they
become pending for the effective frame, which is F + 3 at the earliest; a present waits for the latest earlier load of
its handle; a fence is in force; a NOP completes at once, its OK suppressed by ERR_ONLY; a QUERY goes to its port's
host or waits for the port. Model's choice: fences use the effective frame (log entry 35). -/
def Obligations.AcceptedDescriptors : Prop :=
  ∀ (c : Fin 4) (s : State) (d : Desc), nextDesc s c = some d → aliveOk s c d = true → d.op ≤ 9 →
    fieldsOk s c d = true → rightsOk s c d = true → knownOk s c d = true →
    s.scn.frame + 3 ≤ (effectiveFrame s d).1 ∧
    (d.now = true → effectiveFrame s d = (s.scn.frame + 3, false)) ∧
    (d.now = false → ((effectiveFrame s d).2 = true ↔ targetFrame s d < (s.scn.frame : Int) + 3)) ∧
    (d.op = 0 → ∃ t, exec (.nop c) s = .next t ∧ t = { s with ctx := t.ctx } ∧
      (d.bits 0 8 1 = 0 → s.completedWith t c d 0) ∧
      (d.bits 0 8 1 = 1 → (vget t.ctx c.val).cplq = (vget s.ctx c.val).cplq)) ∧
    (d.op = 2 → ∃ t, exec (.framePresent c) s = .next t ∧ t = { s with ctx := t.ctx } ∧
      (vget t.ctx c.val).pend = (vget s.ctx c.val).pend ++ [{
        d := d, frame := (effectiveFrame s d).1, late := (effectiveFrame s d).2, failed := none, shadow := !ctxActive s c
        waits := if d.bits 4 8 1 = 1 then none
                 else ((vget s.ctx c.val).ingests.filter (fun g => g.handle == d.word 5)).getLast?.map (·.serial) }]) ∧
    (∀ cmd, (d.op = 3 ∧ cmd = .layerParam c) ∨ (d.op = 4 ∧ cmd = .brightness c) ∨ (d.op = 6 ∧ cmd = .clipPlay c) →
      ∃ t, exec cmd s = .next t ∧ t = { s with ctx := t.ctx } ∧
      (vget t.ctx c.val).pend = (vget s.ctx c.val).pend ++ [{
        d := d, frame := (effectiveFrame s d).1, late := (effectiveFrame s d).2, failed := none, waits := none,
        shadow := !ctxActive s c }] ∧
      (vget t.ctx c.val).cplq = (vget s.ctx c.val).cplq) ∧
    (d.op = 9 → ∃ t f, exec (.fence c) s = .next t ∧ t = { s with ctx := t.ctx } ∧
      (vget t.ctx c.val).fences = (vget s.ctx c.val).fences ++ [f] ∧ f.d = d ∧ f.mode = d.bits 4 0 2 ∧
      f.frame = (effectiveFrame s d).1 ∧ (f.mode ≠ 1 → nextDesc t c = none)) ∧
    (d.op = 8 → ¬ (d.bits 4 0 8 = 3 ∧ d.word 5 ≠ 0 ∧ emitterCount s ≤ 8192 * d.word 5) → ∃ t,
      exec (.query c) s = .next t ∧ t.regs = s.regs ∧ t.cur = s.cur ∧
      ((vget s.port c.val).st ≠ .up → (vget t.ctx c.val).queries = (vget s.ctx c.val).queries ++ [(d, none)] ∧
        t.port = s.port) ∧
      ((vget s.port c.val).st = .up → ∃ n, (vget t.ctx c.val).queries = (vget s.ctx c.val).queries ++ [(d, some n)]) ∧
      (vget t.ctx c.val).cplq = (vget s.ctx c.val).cplq) ∧
    (d.op = 8 → d.bits 4 0 8 = 3 → d.word 5 ≠ 0 → emitterCount s ≤ 8192 * d.word 5 →
      ∃ t, exec (.query c) s = .next t ∧ s.completedWith t c d 2 ∧ s.raisedOne t .core Ev.DESC_REJECTED c ∧
        (vget t.ctx c.val).queries = (vget s.ctx c.val).queries)

/-- R177, R182, R183, R204, R206, R209, R277: the descriptors that read host memory. A load of a handle that is
already being loaded waits; one that cannot be placed completes with QUOTA and keeps the handle; clip lists and table
data are asked for, and a table load waits while its bank is being copied. R178, R182, R184, R185, R204, R205, R218:
how loads, clip lists, queries and fences end: a surface whose check value fails leaves its handle as it was and
completes with CHECK_FAIL, a good one gives the handle its pages; a list with a hold time of 0 or an unknown handle
defines no clip; a fence completes as soon as its condition holds. Model's choices: log entry 34. -/
def Obligations.Loads : Prop :=
  (∀ (c : Fin 4) (s : State) (d : Desc), nextDesc s c = some d → aliveOk s c d = true →
     fieldsOk s c d = true → rightsOk s c d = true → knownOk s c d = true →
     (d.op = 1 → (vget s.ctx c.val).ingests.any (fun x => x.handle == d.word 4) = true →
       ∃ t g, exec (.surfaceLoad c) s = .next t ∧ (vget t.ctx c.val).ingests = (vget s.ctx c.val).ingests ++ [g] ∧
         g.queued = true ∧ g.handle = d.word 4 ∧ g.d = d ∧ g.serial = s.cur.nextSerial ∧
         g.read.todo = surfaceReads d ∧ t.port = s.port ∧ t.cur.surfaces = s.cur.surfaces) ∧
     (d.op = 1 → (vget s.ctx c.val).ingests = [] → (vget s.ctx c.val).pend = [] →
       s.cur.qeff.getD c.val 0 * 128 < pagesOf (surfaceBytes (d.bits 5 0 8) (d.bits 6 0 16) (d.bits 6 16 16)) →
       ∃ t, exec (.surfaceLoad c) s = .next t ∧ (vget t.ctx c.val).ingests = [] ∧ s.completedWith t c d 5 ∧
         t.flagged Reg.CUR_ERR 1 ∧ t.cur.surfaces = s.cur.surfaces ∧ t.cur.free = s.cur.free) ∧
     (d.op = 5 → ∃ t, exec (.clipDefine c) s = .next t ∧
       (vget t.ctx c.val).clipReads.length = (vget s.ctx c.val).clipReads.length + 1 ∧
       (vget t.ctx c.val).clips = (vget s.ctx c.val).clips ∧
       ∃ g ∈ (vget t.ctx c.val).clipReads, g.d = d ∧ g.id = d.bits 4 0 8 ∧ g.count = d.bits 5 0 13) ∧
     (d.op = 7 → ∃ t, exec (.tableLoad c) s = .next t ∧
       (vget t.ctx c.val).tloads.length = (vget s.ctx c.val).tloads.length + 1 ∧ t.pix = s.pix ∧
       ∃ g ∈ (vget t.ctx c.val).tloads, g.d = d ∧ g.table = d.bits 4 0 8 ∧ g.offset = d.word 9 ∧
         g.frame = (effectiveFrame s d).1 ∧ g.queued = (tableOf s (d.bits 4 0 8)).copying)) ∧
  (∀ (c : Fin 4) (s : State),
     (∀ serial g, (vget s.ctx c.val).ingests = [g] → g.serial = serial → g.queued = false → g.read.done = true →
       (g.d.bits 0 9 1 = 1 → crc32c g.bytes ≠ g.d.word 3 →
         ∃ t, exec (.ingestComplete c serial) s = .next t ∧ (vget t.ctx c.val).ingests = [] ∧
           t.cur.surfaces = s.cur.surfaces ∧ s.completedWith t c g.d 7 ∧ t.cur.free = s.cur.free.add g.pages ∧
           t.waits .core Ev.CHECK_FAIL c) ∧
       (g.d.op = 1 → (g.d.bits 0 9 1 = 0 ∨ crc32c g.bytes = g.d.word 3) →
         ∃ t x, exec (.ingestComplete c serial) s = .next t ∧ (vget t.ctx c.val).ingests = [] ∧
           t.cur.surfaces =
             s.cur.surfaces.filter (fun y => !(y.ctx == c.val && y.handle == g.handle)) ++ [x] ∧
           x.ctx = c.val ∧ x.handle = g.handle ∧ x.pages = g.pages ∧ x.data = g.bytes ∧
           s.completedWith t c g.d 0 ∧ t.evt = s.evt)) ∧
     (∀ serial, (vget s.ctx c.val).ingests.find? (fun g => g.serial == serial) = none →
       exec (.ingestComplete c serial) s = .next s) ∧
     (∀ g, (vget s.ctx c.val).clipReads = [g] → g.read.done = true →
       ((clipEntries g.read.bytes).any (fun e => e.2 == 0) = true →
         ∃ t, exec (.clipListChecked c) s = .next t ∧ (vget t.ctx c.val).clipReads = [] ∧
           (vget t.ctx c.val).clips = (vget s.ctx c.val).clips ∧ s.completedWith t c g.d 2) ∧
       ((∀ e ∈ clipEntries g.read.bytes, e.2 ≠ 0) →
         (clipEntries g.read.bytes).any (fun e => (findSurface s c e.1).isNone) = true →
         ∃ t, exec (.clipListChecked c) s = .next t ∧ (vget t.ctx c.val).clips = (vget s.ctx c.val).clips ∧
           s.completedWith t c g.d 4) ∧
       ((∀ e ∈ clipEntries g.read.bytes, e.2 ≠ 0 ∧ (findSurface s c e.1).isSome = true) →
         clipPlays s c g.id = false → g.d.bits 0 8 1 = 0 →
         ∃ t, exec (.clipListChecked c) s = .next t ∧ t = { s with ctx := t.ctx } ∧
           findClip t c g.id = some { id := g.id, loop := g.loop, entries := clipEntries g.read.bytes } ∧
           s.completedWith t c g.d 0)) ∧
     (∀ serial g, (vget s.ctx c.val).tloads = [g] → g.serial = serial → g.queued = false → g.read.done = true →
       (g.swap = true → ∃ t, exec (.tableLoadDataDone c serial) s = .next t ∧ (vget t.ctx c.val).tloads = [] ∧
         t.pix = { s.pix with swaps := s.pix.swaps ++
           [{ table := g.table, frame := g.frame, late := g.late, ctx := some c.val, d := g.d }] } ∧
         (vget t.ctx c.val).cplq = (vget s.ctx c.val).cplq) ∧
       (g.swap = false → g.d.bits 0 8 1 = 0 → ∃ t, exec (.tableLoadDataDone c serial) s = .next t ∧
         (vget t.ctx c.val).tloads = [] ∧ t.pix = s.pix ∧ s.completedWith t c g.d 0)) ∧
     (∀ x rest, (vget s.ctx c.val).queries = (x, none) :: rest → s.awake = true → portUp s c = true →
       ∃ t n, exec (.queryResume c) s = .next t ∧ (vget t.ctx c.val).queries = (x, some n) :: rest ∧
         t.regs = s.regs ∧ t.cur = s.cur) ∧
     (∀ f rest, (vget s.ctx c.val).fences = f :: rest → (f.mode = 1 → f.frame ≤ s.scn.frame) →
       (f.mode = 2 → f.frame ≤ s.scn.frame) → f.mode ≤ 2 →
       (f.mode ≠ 1 → (vget s.ctx c.val).pend = [] ∧ (vget s.ctx c.val).ingests = [] ∧
         (vget s.ctx c.val).tloads = [] ∧ (vget s.ctx c.val).clipReads = [] ∧ (vget s.ctx c.val).queries = [] ∧
         s.pix.swaps = []) → f.d.bits 0 8 1 = 0 →
       ∃ t, exec (.fenceComplete c) s = .next t ∧ (vget t.ctx c.val).fences = rest ∧ t = { s with ctx := t.ctx } ∧
         s.completedWith t c f.d 0) ∧
     ((vget s.ctx c.val).fences = [] → exec (.fenceComplete c) s = .next s))

/-- R27, R186, R285, R302: a frame boundary advances the frame counter by one and starts the frame's own state afresh
at line visit 0 of sub-frame 0, whatever else falls on it, and touches neither the safety cores nor the cell side;
without a scan clock there is none. The end of a composition (R29, R219, R231) queues the composed frame and makes its
bands and layer states the ones that are shown. -/
def Obligations.FrameAndComposition : Prop :=
  (∀ (b : BoundaryIn) (s : State), (s.awake = false ∨ (s.pwr.scanLock = false ∧ s.pwr.scanLost = false)) →
    exec (.frameBoundary b) s = .next s) ∧
  (∀ (b : BoundaryIn) (s : State), s.awake = true → (s.pwr.scanLock = true ∨ s.pwr.scanLost = true) →
    ∃ t, exec (.frameBoundary b) s = .next t ∧ t.scn.frame = s.scn.frame + 1 ∧ t.scn.subframe = 0 ∧ t.scn.line = 0 ∧
      t.scn.blanking = false ∧ t.scn.upload = none ∧ t.scn.deadlineDone = false ∧ t.saf = s.saf ∧ t.cel = s.cel ∧
      t.hb = s.hb ∧ t.aon = s.aon ∧ t.pending = s.pending) ∧
  (∀ (cycles : List Nat) (s : State) (c : Composed), s.awake = true → s.pix.composing = some c →
    ∃ t, exec (.compositionEnd cycles) s = .next t ∧ t.pix.composing = none ∧
      t.pix.composed = (s.pix.composed ++ [c]).drop (s.pix.composed.length - 1) ∧
      t.pix.bEnded = c.b ∧ t.pix.rampEnded = c.ramp ∧ t.pix.concCnt = c.conc ∧ t.pix.clipCnt = c.clip ∧
        t.cur.lastBands = s.cur.bands ∧
      t.layEnd = s.layComp ∧ t.cur.oldPages = [] ∧ t.cur.reading = [] ∧ t.scn = s.scn ∧ t.regs = s.regs) ∧
  (∀ (cycles : List Nat) (s : State), (s.awake = false ∨ s.pix.composing = none) →
    exec (.compositionEnd cycles) s = .next s)

/-- R213, R215, R221 to R223: two equal check values end a check; of two that differ the third engine decides which
engine retires, without a third the check stays unresolved, and where the third agrees with neither the frame is given
up and the check repeated; a command retires engines from the next composition unless none would be left; a flattened
run comes into use and `CUR_VIT_CTL` takes what is written within its limits. Model's choices: log entry 26. -/
def Obligations.BandChecks : Prop :=
  (∀ (agree : Bool) (third : Option Bool) (s : State), s.cur.dup = none →
    exec (.bandCheckCompare agree third) s = .next s) ∧
  (∀ (third : Option Bool) (s : State) (d : DupCheck), s.cur.dup = some d →
    exec (.bandCheckCompare true third) s = .next { s with cur := { s.cur with dup := none } } ∧
    (d.third = none → ∃ t, exec (.bandCheckCompare false third) s = .next t ∧ t.flagged Reg.CUR_ERR 4 ∧
      s.raisedOne t .core Ev.BAND_CHECK_UNRESOLVED d.engine ∧ t.cur = { s.cur with dup := none } ∧ t.pix = s.pix) ∧
    (∀ e good, d.third = some e → 2 ≤ (beList s).length → beInService s (if good then d.dup else d.engine) = true →
      ∃ t, exec (.bandCheckCompare false (some good)) s = .next t ∧ t.flagged Reg.CUR_ERR 2 ∧ t.flagged Reg.CUR_ERR 3 ∧
        t.waits .core Ev.BAND_CHECK_MISMATCH d.engine ∧
        t.waits .core Ev.BE_RETIRED (if good then d.dup else d.engine) ∧
        beInService t (if good then d.dup else d.engine) = false ∧
        (∀ x, x ≠ (if good then d.dup else d.engine) → beInService t x = beInService s x)) ∧
    (∀ e, d.third = some e → ∃ t, exec (.bandCheckCompare false none) s = .next t ∧ t.flagged Reg.CUR_ERR 4 ∧
      t.waits .core Ev.BAND_CHECK_UNRESOLVED d.engine ∧ t.cur.dupAgain = some d ∧ t.cur.dup = none ∧
      t.cur.retired = s.cur.retired ∧
      ((∃ k, (k ∈ s.pix.composed ∨ s.pix.composing = some k) ∧ k.frame = d.frame) →
        t.waits .core Ev.COMPOSE_OVERRUN 0 ∧ d.frame ∈ t.scn.skipped ∧ ∀ k ∈ t.pix.composed, k.frame ≠ d.frame) ∧
      ((∀ k, (k ∈ s.pix.composed ∨ s.pix.composing = some k) → k.frame ≠ d.frame) → t.scn = s.scn ∧ t.pix = s.pix))) ∧
  (∀ (data : Word) (s : State),
    ((∃ e, beInService s e = true ∧ (actionBits data ||| s.cur.retireReq).testBit e = false) →
      ∃ t, exec (.beRetireCmd data) s = .next t ∧ t = { s with cur := { s.cur with retireReq := t.cur.retireReq } } ∧
        ∀ e, e < 8 → t.cur.retireReq.testBit e = ((actionBits data).testBit e || s.cur.retireReq.testBit e)) ∧
    ((∀ e, beInService s e = true → (actionBits data).testBit e = true) → exec (.beRetireCmd data) s = .next s)) ∧
  (∀ (layers : List Nat) (s : State),
    ∃ t, exec (.vitrineFlattenDone layers) s = .next t ∧ t = { s with cur := { s.cur with vitrines := t.cur.vitrines } } ∧
      t.cur.vitrines.map (fun v => v.layers) = s.cur.vitrines.map (fun v => v.layers) ∧
      ∀ v ∈ t.cur.vitrines, v.layers = layers → v.flat = true) ∧
  (∀ (data : Word) (s : State),
    ∃ t, exec (.vitrineCtlWrite data) s = .next t ∧ t = { s with regs := t.regs } ∧
      t.rfld Reg.CUR_VIT_CTL 0 8 = (if fld data 0 8 = 1 then 2 else fld data 0 8) ∧
      t.rfld Reg.CUR_VIT_CTL 8 3 = min 4 (fld data 8 3) ∧ ∀ a, a ≠ Reg.CUR_VIT_CTL → t.reg a = s.reg a)

/-- R225 to R228: a corrected error counts and names its row; an uncorrectable one counts, names its row, raises
`ECC_UNCORRECTABLE`, and zeroes the 64-bit word of the surface that it lay in, leaving its other bytes; the patrol
scrub does what a read does, and nothing while its interval is 0. Model's choices: log entry 53. -/
def Obligations.EccErrors : Prop :=
  ∀ (row : RowAt) (use : DramUse) (s : State), rowReal row = true → s.awake = true →
    (∃ t, exec (.dramReadEccError row false use) s = .next t ∧ t.cur.ce = min 65535 (s.cur.ce + 1) ∧
      t.cur.ue = s.cur.ue ∧ t.cur.lastErr = some (row, false) ∧ t.regs = s.regs ∧ t.scn = s.scn ∧
      (s.cur.ceEvent.getD row.channel none ≠ some s.aon.opsec → t.waits .mem Ev.ECC_CORRECTED row.channel)) ∧
    (∃ t, exec (.dramReadEccError row true use) s = .next t ∧ t.cur.ue = min 65535 (s.cur.ue + 1) ∧
      t.cur.ce = s.cur.ce ∧ t.cur.lastErr = some (row, true) ∧ t.regs = s.regs ∧ t.flagged Reg.CUR_ERR 5 ∧
      t.waits .mem Ev.ECC_UNCORRECTABLE row.channel ∧
      (∀ c h off x, use = .surface c h off → findSurface s c h = some x → x.pages.get row.channel ≠ 0 →
        s.cur.mapped.contains row = true →
        ∃ y, findSurface t c h = some y ∧ y.pages = x.pages ∧ y.data.length = x.data.length ∧
          ∀ i, i < x.data.length → y.data.getD i 0 = if i / 8 = off / 8 then 0 else x.data.getD i 0)) ∧
    (s.rfld Reg.CUR_ECC_CTL 24 8 ≠ 0 →
      (∀ bad, exec (.patrolScrub row (some bad) use) s = exec (.dramReadEccError row bad use) s) ∧
      (s.cur.failedRows.contains row = false → exec (.patrolScrub row none use) s = .next s)) ∧
    (s.rfld Reg.CUR_ECC_CTL 24 8 = 0 → ∀ err, exec (.patrolScrub row err use) s = .next s)

/-- R183, R277, R280: the data port reads and writes the inactive bank of the table and word that `PIX_TBL_INDEX`
names and advances, a word beyond the table or a bank that is being copied sets its error bit and stores nothing; the
copy makes both banks hold the active content; a swap command waits for the next deadline; the archive takes the
active bank of a table that has swapped. Model's choices: log entry 32. -/
def Obligations.TablePort : Prop :=
  (∀ (r : Reader) (w : Option Word) (s : State), tableWords s (tblIndex s).1 ≤ (tblIndex s).2 →
    ∃ t, exec (.pixTblDataAccess r w) s = .next t ∧ t = { s with cbits := t.cbits } ∧ t.flagged Reg.PIX_ERR 0) ∧
  (∀ (r : Reader) (s : State), (tblIndex s).2 < tableWords s (tblIndex s).1 →
    (∃ t, exec (.pixTblDataAccess r none) s = .next t ∧ t = { s with regs := t.regs } ∧
      tblIndex t = ((tblIndex s).1, ((tblIndex s).2 + 1) % 2 ^ 23) ∧
      ∀ a, a ≠ Reg.PIX_TBL_INDEX → t.reg a = s.reg a) ∧
    (∀ w : Word, (tableOf s (tblIndex s).1).copying = true →
      ∃ t, exec (.pixTblDataAccess r (some w)) s = .next t ∧ t = { s with cbits := t.cbits } ∧
        t.flagged Reg.PIX_ERR 1) ∧
    (∀ w : Word, (tableOf s (tblIndex s).1).copying = false →
      ∃ t, exec (.pixTblDataAccess r (some w)) s = .next t ∧ t = { s with regs := t.regs, pix := t.pix } ∧
        (∀ i, inactiveWord t (tblIndex s).1 i = if i = (tblIndex s).2 then w else inactiveWord s (tblIndex s).1 i) ∧
        (∀ n i, 1 ≤ n → n ≤ 4 → activeWord t n i = activeWord s n i) ∧
        tblIndex t = ((tblIndex s).1, ((tblIndex s).2 + 1) % 2 ^ 23))) ∧
  (∀ (n : Nat) (s : State), 1 ≤ n → n ≤ 4 →
    (tableOf s n).copying = true →
      ∃ t, exec (.tableBankCopyDone n) s = .next t ∧ (tableOf t n).copying = false ∧
        (∀ i, activeWord t n i = activeWord s n i) ∧
        ((∀ c, c < 4 → ∀ g ∈ (vget s.ctx c).tloads, g.table = n → g.kept = []) →
          ∀ i, inactiveWord t n i = activeWord s n i)) ∧
  (∀ (n : Nat) (s : State), 1 ≤ n → n ≤ 4 →
    (s.docentRuns = true → (tableOf s n).dirty = true → (s.rfld Reg.PIX_TBL_CTL 0 4).testBit (n - 1) = true →
      ∃ t, exec (.tableArchive n) s = .next t ∧ (tableOf t n).dirty = false ∧
        vget t.arc.tables (n - 1) = some (arcTable s n) ∧
        (arcTable s n).words = (tableOf s n).bank true ∧ (arcTable s n).w = s.width ∧ (arcTable s n).h = s.height ∧
        (arcTable s n).d = panelDepth s ∧ (arcTable s n).crc = crc32c (arcTableBytes n (arcTable s n)) ∧ ∀ i,
          activeWord t n i = activeWord s n i) ∧
    ((s.docentRuns = false ∨ (tableOf s n).dirty = false ∨ (s.rfld Reg.PIX_TBL_CTL 0 4).testBit (n - 1) = false) →
      exec (.tableArchive n) s = .next s)) ∧
  (∀ (data : Word) (s : State),
    ∃ t, exec (.tableSwapCmd data) s = .next t ∧ t = { s with pix := { s.pix with swaps := t.pix.swaps } } ∧
      (∃ more, t.pix.swaps = s.pix.swaps ++ more ∧ ∀ r ∈ more, r.ctx = none ∧ 1 ≤ r.table ∧ r.table ≤ 4 ∧
        acts data (r.table - 1) = true) ∧
      ∀ i, i < 4 → acts data i = true → ∃ r ∈ t.pix.swaps, r.table = i + 1 ∧ r.ctx = none)

/-- R290 to R292, R301, R318: an upload starts only after the first accepted commit and while none runs, carries the
composed frame of the next number, and is complete at FDONE; the deadline sends the swap only for a complete upload of
a frame that is not decided dark, and decides once. Model's choices: log entry 52. -/
def Obligations.UploadRules : Prop :=
  ∀ s : State,
    ((s.scn.upload.isSome = true ∨ s.cmt.everAccepted = false ∨ outputsHeld s = true ∨ s.scn.deadlineDone = true ∨
        (s.scn.frame + 1) ∈ s.scn.skipped ∨ s.cch.statBusy = true) →
      ∀ bad, exec (.uploadStart bad) s = .next s) ∧
    (∀ bad c, uploadFrame s = some c →
      ∃ t u, exec (.uploadStart bad) s = .next t ∧ t.scn = { s.scn with upload := some u } ∧ u.frame = s.scn.frame + 1 ∧
        c.frame = s.scn.frame + 1 ∧ u.complete = false ∧ u.w = c.w ∧ u.h = c.h ∧ u.reads = c.reads ∧ t.regs = s.regs ∧
        t.cel = s.cel ∧ t.saf = s.saf ∧ t.cch.lastLineValid = false) ∧
    (∀ u, s.scn.upload = some u → scanRuns s = true → u.complete = false → s.scn.deadlineDone = false →
      ∃ t, exec .fdone s = .next t ∧ t = { s with scn := t.scn, cch := t.cch, evt := t.evt, free := t.free } ∧
        t.scn = { s.scn with upload := some { u with complete := true } } ∧
        t.cch = { s.cch with lastLineValid := true } ∧
        ((s.reg Reg.SCN_EVT_EN).toNat.testBit 2 = true → s.raisedOne t .scan Ev.FDONE 0) ∧
        ((s.reg Reg.SCN_EVT_EN).toNat.testBit 2 = false → t.evt = s.evt)) ∧
    ((s.scn.upload = none ∨ s.scn.deadlineDone = true) → exec .fdone s = .next s) ∧
    (scanRuns s = true → s.scn.deadlineDone = true → exec .uploadDeadline s = .next s) ∧
    (scanRuns s = true → s.scn.deadlineDone = false → outputsHeld s = false →
      ∃ t, exec .uploadDeadline s = .next t ∧ t.scn =
        { s.scn with deadlineDone := true, swapSent := t.scn.swapSent, glkOut := false } ∧
        (t.scn.swapSent = true ↔ (∃ u, s.scn.upload = some u ∧ u.complete = true) ∧ nextDark s = false) ∧
        t.out = s.out ++ (if s.scn.glkOut then [.glkOut false] else []) ++
          (if chainsLive s then (groupList (actSet s)).map (fun g =>
            if t.scn.swapSent then .driver g .frameSwap 4 else .driver g .frameSync 3) else []))

/-- R285, R286, R289, R292, R296, R299, R302, R330: line visits go through every line of every sub-frame in order, and
ROWEN rises only where the frame is not dark and the gate is above 0; a lowered light gate acts at once and a raised
one not before the next visit; in a visit ROWEN falls at edge 0, RA changes at edge RA_DLY, and ROWEN may rise at edge
LB; SOB ends the active part; LMATCH is raised by the visit that `SCN_LMATCH` names. -/
def Obligations.LineVisits : Prop :=
  ∀ s : State, scanRuns s = true → s.scn.blanking = false →
    (∀ j l, nextVisit s = some (j, l) →
      ∃ t, exec .lineVisitStart s = .next t ∧ t.scn.subframe = j ∧ t.scn.line = l ∧ t.scn.frame = s.scn.frame ∧
        t.scn.gateLine = min s.scn.gateA s.scn.gateB ∧ t.regs = s.regs ∧
        (t.scn.rowen = true ↔ s.scn.dark = none ∧ t.scn.gateLine ≠ 0 ∧ chainsDriven s = true) ∧
        (s.scn.dark = none → chainsDriven s = true → t.scn.ra = l ∧ ∃ rest,
          t.out = s.out ++ [.row (some 0) false s.scn.ra, .row (some (raDelay s)) false l,
            .row (some (tLb (actSet s))) t.scn.rowen l] ++ rest) ∧
        (s.scn.dark ≠ none → t.scn.ra = 0)) ∧
    (s.scn.line + 1 < tS (actSet s) → nextVisit s = some (s.scn.subframe, s.scn.line + 1)) ∧
    (s.scn.line + 1 = tS (actSet s) → s.scn.subframe + 1 < tNsf (actSet s) →
      nextVisit s = some (s.scn.subframe + 1, 0)) ∧
    (nextVisit s = none → exec .lineVisitStart s = .next s) ∧
    (∀ core, ∃ t, exec (.lightGateChange core) s = .next t ∧
      (core = .a → t.scn.gateA = safGate s ∧ t.scn.gateB = s.scn.gateB) ∧
      (core = .b → t.scn.gateB = safGate s ∧ t.scn.gateA = s.scn.gateA) ∧
      t.scn.gateLine = min s.scn.gateLine (min t.scn.gateA t.scn.gateB) ∧
      (t.scn.rowen = true → s.scn.rowen = true ∧ t.scn.gateLine ≠ 0) ∧ t.saf = s.saf) ∧
    (s.cmt.pend = false →
      ∃ t, exec .sob s = .next t ∧ t.scn =
        { s.scn with blanking := true, rowen := false, ra := 0, gck := false, glkOut := t.scn.glkOut } ∧
        (t.scn.glkOut = true → s.scn.glkOut = true) ∧ t.cmt = s.cmt ∧
        t.act = s.act ∧ ((s.reg Reg.SCN_EVT_EN).toNat.testBit 0 = true → s.raisedOne t .scan Ev.SOB 0)) ∧
    (s.scn.lmatch = 256 * s.scn.subframe + s.scn.line → (s.reg Reg.SCN_EVT_EN).toNat.testBit 1 = true →
      ∃ t, exec .lmatch s = .next t ∧ t = { s with evt := t.evt } ∧ s.raisedOne t .scan Ev.LMATCH 0) ∧
    ((s.scn.lmatch ≠ 256 * s.scn.subframe + s.scn.line ∨ (s.reg Reg.SCN_EVT_EN).toNat.testBit 1 = false) →
      exec .lmatch s = .next s) ∧
    (∃ t, exec .pwrFfUpdate s = .next t ∧ t = { s with fen := { s.fen with duty := t.fen.duty } } ∧
      (fenFld s Reg.FEN_CTL 0 1 = 0 → t.fen.duty = 0) ∧
      (fenFld s Reg.FEN_CTL 0 1 = 1 → nextDark s = true → t.fen.duty = darkDuty s))

/-- R298, R299, R524, R525: a request waits for SOB, where all staged items are captured and checked together; one
that fails a check is refused with its cause and changes no register in effect, one that passes is accepted and takes
effect no sooner than the next boundary; during the dark frames of R298 requests wait. Model's choice: the dark frames
in which requests wait (log entry 52). -/
def Obligations.CommitSample : Prop :=
  (∀ (data : Word) (s : State), s.awake = true →
    (data.getLsbD 0 = true → exec (.scnCommit data) s = .next { s with cmt := { s.cmt with pend := true } }) ∧
    (data.getLsbD 0 = false → exec (.scnCommit data) s = .next s)) ∧
  (∀ s : State, scanRuns s = true → s.scn.blanking = false → s.cmt.pend = true →
    (samplingWaits s = true → ∃ t, exec .sob s = .next t ∧ t.cmt = s.cmt ∧ t.scn.blanking = true) ∧
    (samplingWaits s = false →
      let g : Nat → Word := fun a => kget (resetWord s.pwr.legacy s.pwr.viocClass a)
        (s.regs.filter (fun p => stagedAddrs.contains p.1)) a
      (commitErr s g ≠ 0 → ∃ t, exec .sob s = .next t ∧ t.cmt.pend = false ∧ t.cmt.err = commitErr s g ∧
        t.cmt.window = s.cmt.window ∧ t.cmt.commits = s.cmt.commits ∧ t.cmt.due = s.cmt.due ∧ t.act = s.act ∧
        t.regs = s.regs ∧ t.flagged Reg.SCN_ERR 3 ∧ t.waits .scan Ev.TIMING_REFUSED 0) ∧
      (commitErr s g = 0 → ∃ t, exec .sob s = .next t ∧ t.cmt.pend = false ∧ t.cmt.err = 0 ∧ t.cmt.window = true ∧
        t.cmt.due = true ∧ t.cmt.everAccepted = true ∧ t.cmt.commits = min 65535 (s.cmt.commits + 1) ∧
        t.cmt.cost = commitCost s g ∧ t.act = s.act ∧ t.regs = s.regs ∧ t.waits .scan Ev.TIMING_COMMITTED 0))) ∧
  (∀ (s : State) (g : Nat → Word), commitErr s g = 0 →
    1666666 ≤ tFper g ∧ tFper g ≤ 16683334 ∧ fld (g Reg.PIX_GEOM) 0 12 % 16 = 0 ∧ 0 < fld (g Reg.PIX_GEOM) 0 12 ∧
    fld (g Reg.PIX_GEOM) 0 12 ≤ 2048 ∧ fld (g Reg.PIX_GEOM) 16 11 ≤ 1024 ∧ s.pwr.viocClass < 3 ∧
    cNd g * cC g ≤ 3072 ∧ tU s.pwr.legacy g * cDiv g + 1200 ≤ tFper g)

/-- R293, R294: a high pulse shorter than 100 ns is ignored; an interval within 5 % of the frame period is accepted,
the fourth in WAIT begins CAPTURE; any other, and a missing pulse, counts as rejected and takes TRACK back to WAIT
with `GENLOCK_LOST`. R74: the loss of the SCAN PLL lowers the outputs and drops the upload, and its lock alone does
not raise them. Model's choice: rejected intervals are counted in every state (log entry 51). -/
def Obligations.GenlockAndScanClock : Prop :=
  ∀ s : State, s.awake = true →
    (∀ cycles ns, ns < 100 → exec (.glkInEdge ⟨cycles, ns⟩) s = .next s) ∧
    (∀ cycles ns, s.pwr.scanLock = true → 100 ≤ ns →
      (19 * framePeriod s ≤ 20 * cycles → 20 * cycles ≤ 21 * framePeriod s →
        ∃ t, exec (.glkInEdge ⟨cycles, ns⟩) s = .next t ∧ t = { s with scn := t.scn } ∧ t.scn.glkSeen = true ∧
          t.scn.rejects = s.scn.rejects ∧
          (s.scn.genlock = .wait → 3 ≤ s.scn.accepted → t.scn.genlock = .capture) ∧
          (s.scn.genlock = .wait → s.scn.accepted < 3 →
            t.scn.genlock = .wait ∧ t.scn.accepted = s.scn.accepted + 1) ∧
          (s.scn.genlock ≠ .wait → t.scn.genlock = s.scn.genlock)) ∧
      ((20 * cycles < 19 * framePeriod s ∨ 21 * framePeriod s < 20 * cycles) →
        ∃ t, exec (.glkInEdge ⟨cycles, ns⟩) s = .next t ∧ t.scn.accepted = 0 ∧
          t.scn.rejects = min 15 (s.scn.rejects + 1) ∧
          (s.scn.genlock = .track → t.scn.genlock = .wait ∧ t.flagged Reg.SCN_ERR 2 ∧
            s.raisedOne t .scan Ev.GENLOCK_LOST 0) ∧
          (s.scn.genlock ≠ .track → t.scn.genlock = s.scn.genlock ∧ t.evt = s.evt))) ∧
    (s.pwr.scanLock = true → s.scn.glkSeen = true →
      ∃ t, exec .glkInMissing s = .next t ∧ t.scn.accepted = 0 ∧ t.scn.rejects = min 15 (s.scn.rejects + 1) ∧
        (s.scn.genlock = .track → t.scn.genlock = .wait ∧ s.raisedOne t .scan Ev.GENLOCK_LOST 0)) ∧
    (s.pwr.scanLock = true →
      ∃ t, exec .scanPllUnlock s = .next t ∧ t.pwr = { s.pwr with scanLock := false, scanLost := true } ∧
        t.scn.upload = none ∧ t.scn.rowen = false ∧ outputsHeld t = true ∧ t.scn.underruns = s.scn.underruns ∧
        t.saf = s.saf ∧ t.cel = s.cel ∧ s.raisedOne t .scan Ev.SCAN_PLL_UNLOCK 0) ∧
    (s.pwr.scanLock = false → s.pwr.scanLost = true →
      exec .scanPllRelock s = .next { s with pwr := { s.pwr with scanLock := true } })

/-- R321 to R324, R326, R327, R337, R346: a reload runs in the first of two dark frames only, sets the phase and
latency of each chain that trains, at a phase and an offset where the pattern came right, and marks those that do not;
a status read waits for FDONE and for an undisturbed frame, and stores the words it brings; a stolen read gives up the
upload of the next frame, unless a timing commit with dark frames is due; the data ports read and advance. Model's
choice: diagnostic reads (log entry 48). -/
def Obligations.ChainCommands : Prop :=
  (∀ (trained : List TrainIn) (s : State), trained.length = 32 → reloadFrame s = false →
    exec (.driverReload trained) s = .next s) ∧
  (∀ (trained : List TrainIn) (s : State), trained.length = 32 → reloadFrame s = true →
    ∃ t, exec (.driverReload trained) s = .next t ∧ t.cch.reloaded = true ∧ t.cch.statBusy = true ∧
      t.dia.phase = .idle ∧ t.dia.armed = none ∧ t.regs = s.regs ∧ t.scn = s.scn ∧
      (∀ n, n ∈ chainList (actSet s) → n < 32 → ∀ ph lat, trainResult (trained.getD n ⟨[], []⟩) = some (ph, lat) →
        (vget t.cch.lane n).phase = ph % 16 ∧ (vget t.cch.lane n).latency = lat % 64) ∧
      (∀ n, n ∈ chainList (actSet s) → n < 32 → trainResult (trained.getD n ⟨[], []⟩) = none →
        (vget t.cch.lane n).broken = true ∧ t.flagged Reg.CCH_ERR 2 ∧ t.waits .scan Ev.CHAIN_TRAIN_FAIL n)) ∧
  (∀ x : TrainIn,
    (trainResult x = none ↔ trainLatency x.seen = none ∨ ((trainGood x.tries).filter id).length < 4) ∧
    (∀ ph lat, trainResult x = some (ph, lat) →
      lat < 64 ∧ (x.seen.drop lat).take 127 = trainBits 127 ∧ (trainGood x.tries).getD ph false = true)) ∧
  (∀ s : State, (s.cch.statBusy = true ∨ s.scn.swapSent = true ∨ s.scn.dark ≠ none ∨ outputsHeld s = true ∨
      readDue s = false) → exec .statusRead s = .next s) ∧
  (∀ (s : State) (u : Upload), readDue s = true → s.cch.statBusy = false → s.scn.swapSent = false → s.scn.dark = none →
    outputsHeld s = false → s.scn.upload = some u → u.complete = true → s.dia.phase = .idle → readFits s 0 = true →
    ∃ t, exec .statusRead s = .next t ∧ t.cch.statBusy = true ∧ t.cch.statDue = false ∧ t.scn = s.scn ∧
      t.dia = { s.dia with reading := false, defer := 0 } ∧
      (chainsLive s = true → t.out = s.out ++ (groupList (actSet s)).map (fun g => .driver g .statusCapture 6) ++
        (chainList (actSet s)).map (fun n => .line n 0 (List.replicate (cNd (actSet s) * (cC (actSet s) + 1)) 0)))) ∧
  (∀ s : State, s.dia.phase = .awaiting → (s.reg Reg.DIA_CTL).toNat.testBit 1 = true → 4 ≤ s.dia.defer →
    s.scn.upload = none → s.scn.dark = none → s.cch.statBusy = false → outputsHeld s = false →
    (s.cmt.due = true → s.cmt.cost ≠ 0 → ∃ t, exec .diagSteal s = .next t ∧ t.scn = s.scn ∧ t.cch = s.cch ∧
      t.dia.phase = .idle ∧ t.flagged Reg.DIA_ERR 2) ∧
    ((s.cmt.due = false ∨ s.cmt.cost = 0) → ∃ t, exec .diagSteal s = .next t ∧ t.cch.statBusy = true ∧
      (s.scn.frame + 1) ∈ t.scn.skipped ∧
      t.dia.steals = (s.dia.steals + 1) % 256 ∧ t.dia.reading = true)) ∧
  (∀ (words : List (List Nat)) (s : State), words.length = 32 → s.cch.statBusy = true → s.dia.reading = false →
    ∃ t, exec (.statusReadDone words) s = .next t ∧ t.cch.statBusy = false ∧ t.dia.map = s.dia.map ∧
      t.dia.faults = s.dia.faults ∧ t.scn = s.scn ∧
      (∀ ch d, ch ∈ chainList (actSet s) → d < cNd (actSet s) →
        ((statusWord0 s (words.getD ch []) d).testBit 0 = true →
          t.flagged Reg.CCH_ERR 3 ∧ t.waits .scan Ev.CHAIN_LINE_CRC ch) ∧
        ((statusWord0 s (words.getD ch []) d).testBit 1 = true →
          t.flagged Reg.CCH_ERR 4 ∧ t.waits .scan Ev.DRIVER_CFG_ERROR ch))) ∧
  (∀ (r : Reader) (s : State),
    (∃ t, exec (.cchCfgDataAccess r none) s = .next t ∧ t.cch = s.cch ∧
      t.rfld Reg.CCH_CFG_INDEX 0 6 = (s.rfld Reg.CCH_CFG_INDEX 0 6 + 1) % 64) ∧
    (∀ w : Word, ∃ t, exec (.cchCfgDataAccess r (some w)) s = .next t ∧ t.cch = { s.cch with cfg := t.cch.cfg } ∧
      (∀ i, kget 0 t.cch.cfg i =
        if i = s.rfld Reg.CCH_CFG_INDEX 0 6 then w &&& 0xFFFF else kget 0 s.cch.cfg i) ∧
      t.rfld Reg.CCH_CFG_INDEX 0 6 = (s.rfld Reg.CCH_CFG_INDEX 0 6 + 1) % 64) ∧
    (∃ t, exec (.cchDstDataAccess r) s = .next t ∧ t = { s with regs := t.regs } ∧
      t.rfld Reg.CCH_DST_INDEX 0 12 = (s.rfld Reg.CCH_DST_INDEX 0 12 + 1) % 4096 ∧
      t.rfld Reg.CCH_DST_INDEX 24 5 = s.rfld Reg.CCH_DST_INDEX 24 5))

/-- R339, R341, R347, R351, R353, R355, R356: the queued bursts run in the blanking interval of the test frame only;
each group's GCK has 9 edges, 800 cycles after `SOB` and 1,056 later. A clear leaves every emitter UNTESTED, the list
and its archived copy empty but for the broken chains, which stay declared (R348, R353), and the cycle at round 0; a
restart touches neither map nor list; the archive takes map and standing faults where they have changed; the data
ports read and advance. Model's choices: log entries 45 and 48. -/
def Obligations.DiagnosticCommands : Prop :=
  (∀ s : State,
    (s.scn.blanking = true → s.scn.dark = none → s.dia.phase = .armed → s.dia.testFrame = s.scn.frame →
      s.dia.burstsSent = true → burstsFit s (roundBursts s s.dia.round) = true → s.scn.deadlineDone = false →
      chainsDriven s = true → exec .diagBurst s = .next { s with
        dia := { s.dia with phase := .awaiting, defer := 0 }
        out := s.out ++ (List.range (if s.dia.round = tS (actSet s) then 1 else 2)).flatMap (fun i =>
          (groupList (actSet s)).map (fun g => .gckBurst g (800 + 1056 * i) 9)) }) ∧
    ((s.scn.blanking = false ∨ s.scn.deadlineDone = true ∨ chainsDriven s = false ∨ s.scn.dark ≠ none ∨
        s.dia.phase ≠ .armed ∨ s.dia.testFrame ≠ s.scn.frame) →
      exec .diagBurst s = .next s)) ∧
  (∀ s : State,
    (cmtStep s ≠ 2 → ∃ t, exec .diaClear s = .next t ∧ t.dia.listFull = false ∧
      t.dia.faults = s.dia.faults.filter (fun x => x.cause == 9) ∧
      ((∀ x ∈ s.dia.faults, x.cause ≠ 9) → t.dia.map = []) ∧
      t.dia.round = 0 ∧ t.dia.phase = .idle ∧ t.arc = { s.arc with faults := none } ∧ t.regs = s.regs ∧
      t.pat = s.pat) ∧
    (cmtStep s = 2 → exec .diaClear s = .next { s with cmt := { s.cmt with deferClear := true } }) ∧
    (∃ t, exec .diaRestart s = .next t ∧ t = { s with dia := t.dia } ∧ t.dia.round = 0 ∧ t.dia.phase = .idle ∧
      t.dia.cycleStart = none ∧ t.dia.map = s.dia.map ∧ t.dia.faults = s.dia.faults) ∧
    (s.dia.dirty = true → s.docentRuns = true →
      ∃ t a, exec .faultmapArchive s = .next t ∧ t.arc = { s.arc with faults := some a } ∧
      t.dia = { s.dia with dirty := false } ∧ a.map = s.dia.map ∧ a.w = s.width ∧ a.h = s.height ∧ a.mapCrc = mapCrc s ∧
      a.crc = crc32c (arcFaultBytes a) ∧
      ∀ x, x ∈ a.declared ↔ x ∈ s.dia.faults ∧ x.st ≠ .candidate) ∧
    ((s.dia.dirty = false ∨ s.docentRuns = false) → exec .faultmapArchive s = .next s)) ∧
  (∀ (r : Reader) (s : State),
    (∃ t, exec (.diaMapDataAccess r) s = .next t ∧ t = { s with regs := t.regs } ∧
      t.rfld Reg.DIA_MAP_INDEX 0 18 = (s.rfld Reg.DIA_MAP_INDEX 0 18 + 1) % 2 ^ 18 ∧
      ∀ a, a ≠ Reg.DIA_MAP_INDEX → t.reg a = s.reg a) ∧
    (∃ t, exec (.diaFltDataAccess r) s = .next t ∧ t = { s with regs := t.regs } ∧
      t.rfld Reg.DIA_FLT_INDEX 0 13 = (s.rfld Reg.DIA_FLT_INDEX 0 13 + 1) % 2 ^ 13 ∧
      ∀ a, a ≠ Reg.DIA_FLT_INDEX → t.reg a = s.reg a))

/-- R362, R366, R367, R369, R370, R371, R373: an update changes the inactive bank only, no gain by more than MAXSTEP
except at the first update and after a zeroing, and waits for its swap; it does nothing before the restore. A snapshot
goes into the slot not written last, with its CRC, and leaves the other; a dose rounds down or up with the LFSR's
draw; while snapshots are held none is taken. The dose port writes only while integration is stopped. Model's choices:
log entry 50. -/
def Obligations.PatinaCommands : Prop :=
  (∀ s : State, s.pat.restored = true → patRun s = true → s.awake = true →
    ∃ t, exec .gainUpdate s = .next t ∧ t.pat.gainReady = true ∧ t.pat.firstDone = true ∧ t.pat.fresh = [] ∧
      t.pat.gainActive = s.pat.gainActive ∧ t.pat.dose = s.pat.dose ∧ (∀ e, activeGain t e = activeGain s e) ∧
      ∀ e, e < emitterCount s → s.pat.firstDone = true → e ∉ s.pat.fresh →
        (((kget 32768 (if t.pat.gainActive then t.pat.gain0 else t.pat.gain1) e : Nat) : Int) -
          ((activeGain s e : Nat) : Int)).natAbs ≤
          max 1 (s.rfld Reg.PAT_GAIN_CTL 16 16)) ∧
  (∀ s : State, (s.pat.restored = false ∨ patRun s = false ∨ s.awake = false) → exec .gainUpdate s = .next s) ∧
  (∀ s : State, s.awake = true →
    (s.pat.heldSnaps = true →
      exec .patinaSnapshotCopy s = .next { s with pat := { s.pat with snapDue := false } }) ∧
    (s.pat.heldSnaps = false → s.pat.staging = none →
      exec .patinaSnapshotCopy s = .next { s with pat := { s.pat with
        snapDue := false, staging := some (s.pat.dose, s.aon.opsec, s.scn.frame, s.width, s.height) } }) ∧
    (s.pat.heldSnaps = false → s.pat.staging ≠ none →
      exec .patinaSnapshotCopy s = .next { s with pat := { s.pat with snapDue := false, snapAgain := true } })) ∧
  (∀ (s : State) dose op f w h, s.pat.staging = some (dose, op, f, w, h) →
    (s.docentRuns = false → exec .patinaSnapshot s = .next s) ∧
    (s.docentRuns = true → s.pat.heldSnaps = false → ∃ t a, exec .patinaSnapshot s = .next t ∧
      t.arc.snapLast = 1 - s.arc.snapLast % 2 ∧ vget t.arc.snap t.arc.snapLast = some a ∧
      a = ⟨dose, op, f % 2 ^ 48, w, h, s.reg Reg.PAT_BOARD_ID, s.pat.curve, a.crc⟩ ∧ a.crc = crc32c (snapBytes a) ∧
      vget t.arc.snap s.arc.snapLast = vget s.arc.snap s.arc.snapLast ∧ t.pat.staging = none ∧
      s.raisedOne t .core Ev.PATINA_SNAPSHOT 0) ∧
    (s.docentRuns = true → s.pat.heldSnaps = true → ∃ t, exec .patinaSnapshot s = .next t ∧ t.arc = s.arc ∧
      t.pat.staging = none)) ∧
  (∀ s : State, exec .patSnapCmd s = .next { s with pat := { s.pat with snapDue := true } } ∧
    exec .patDiscardCmd s = .next { s with pat := { s.pat with heldSnaps := false } } ∧
    (cmtStep s ≠ 2 → exec .patZeroCmd s = .next { s with pat := { s.pat with zeroDue := true } }) ∧
    (cmtStep s = 2 → exec .patZeroCmd s = .next { s with cmt := { s.cmt with deferZero := true } })) ∧
  (∀ (s : State) (e d : Nat), s.pat.lfsr ≠ 0 → doseOf s e + d / 2 ^ 24 < 2 ^ 32 - 1 →
    (s.doseEmitter e d).pat.lfsr = doseDraw s.pat.lfsr ∧ (s.doseEmitter e d).pat.lfsr < 2 ^ 32 ∧
    doseOf s e + d / 2 ^ 24 ≤ doseOf (s.doseEmitter e d) e ∧ doseOf (s.doseEmitter e d) e ≤ doseOf s e + d / 2 ^ 24 + 1 ∧
    (d % 2 ^ 24 = 0 → doseOf (s.doseEmitter e d) e = doseOf s e + d / 2 ^ 24) ∧
    ∀ x, x ≠ e → doseOf (s.doseEmitter e d) x = doseOf s x) ∧
  (∀ (r : Reader) (w : Word) (s : State), s.rfld Reg.PAT_DOSE_INDEX 0 22 < 3145728 →
    (∃ t, exec (.patDoseDataAccess r none) s = .next t ∧ t = { s with regs := t.regs } ∧
      t.rfld Reg.PAT_DOSE_INDEX 0 22 = (s.rfld Reg.PAT_DOSE_INDEX 0 22 + 1) % 2 ^ 22) ∧
    (patRun s = true → ∃ t, exec (.patDoseDataAccess r (some w)) s = .next t ∧ t = { s with cbits := t.cbits } ∧
      t.flagged Reg.PAT_ERR 0) ∧
    (patRun s = false → ∃ t, exec (.patDoseDataAccess r (some w)) s = .next t ∧
      (∀ e, doseOf t e = if e = s.rfld Reg.PAT_DOSE_INDEX 0 22 then w.toNat else doseOf s e) ∧
      t.rfld Reg.PAT_DOSE_INDEX 0 22 = (s.rfld Reg.PAT_DOSE_INDEX 0 22 + 1) % 2 ^ 22)) ∧
  (∀ (r : Reader) (w : Word) (s : State),
    (194 < s.rfld Reg.PAT_CURVE_INDEX 0 8 → exec (.patCurveDataAccess r (some w)) s = .next s) ∧
    (s.rfld Reg.PAT_CURVE_INDEX 0 8 ≤ 194 → ∃ t, exec (.patCurveDataAccess r (some w)) s = .next t ∧
      (∀ i, kget 32768 t.pat.curve i =
        if i = s.rfld Reg.PAT_CURVE_INDEX 0 8 then w.toNat % 65536 else kget 32768 s.pat.curve i) ∧
      t.rfld Reg.PAT_CURVE_INDEX 0 8 = s.rfld Reg.PAT_CURVE_INDEX 0 8 + 1))

/-- R56, R65, R389, R390, R393, R399, R420: the cell side starts from its reset state and stops with its lines low,
its balance switches open and no echo to send; an aperture is taken 1 ms after the last where no trigger is pending,
and begins an epoch with a new balancing set; one result and one sample of each slot is taken in an epoch, and a
second changes nothing. The results of the aperture of a sweep are kept for the response. -/
def Obligations.CellEpochs : Prop :=
  (∀ s : State, s.cel.running = false →
    (∃ t, exec .cellSideStart s = .next t ∧ t.cel.running = true ∧ t.cel.apertures = 0 ∧ t.cel.epoch = 0 ∧
      t.cel.demand = false ∧ t.cel.coul = 0 ∧ t.hb = {} ∧ t.pwr = s.pwr ∧ t.aon = s.aon ∧ t.scn = s.scn ∧
      (∀ a, isCellAddr a = true → t.reg a = resetWord s.pwr.legacy s.pwr.viocClass a) ∧
      (∀ a, isCellAddr a = false → t.reg a = s.reg a)) ∧
    (∀ n, exec (.primaryAperture n) s = .next s) ∧ exec .balanceGuardOpen s = .next s ∧
    exec .balanceGuardClose s = .next s ∧ exec .celProtClear s = .next s ∧ exec .protClearEval s = .next s ∧
    exec .coulZero s = .next s ∧ exec .balExpired s = .next s ∧
    (∀ d, exec (.balReqWrite d) s = .next s ∧ exec (.protLockWrite d) s = .next s)) ∧
  (∀ s : State, exec .cellSideStop s = .next { s with
      cel := { s.cel with running := false, lines := false, bal := 0, defer := 0 },
        hb := { s.hb with echoDue := none } } ∧
    (s.cel.running = true → exec .cellSideStart s = .next s)) ∧
  (∀ (n : Nat) (s : State), s.cel.running = true → s.cel.trigger = none → n ≠ 100000 →
    exec (.primaryAperture n) s = .next s) ∧
  (∀ s : State, s.cel.running = true → s.cel.trigger = none → s.cel.calRun = none → s.cel.calAgain = false →
    ∃ t, exec (.primaryAperture 100000) s = .next t ∧ t.cel.apertures = (s.cel.apertures + 1) % 2 ^ 32 ∧
      t.cel.slots = 0 ∧ t.cel.coefNext = [] ∧ t.cel.demand = s.cel.demand ∧ t.cel.lines = s.cel.lines ∧
      t.cel.thru = (s.reg Reg.CEL_BAL_CTL).toNat.testBit 0 ∧ t.cel.guard = !t.cel.thru ∧
      (∀ n, n < 12 → (t.cel.bal.testBit n = true ∨ t.cel.defer.testBit n = true) →
        (s.reg Reg.CEL_BAL_REQ).toNat.testBit n = true ∧ celAnyUv s = false ∧ celAnyTemp s = false ∧
          (vget s.cel.cell n).valid = true ∧ s.rfld Reg.CEL_BAL_CTL 16 16 * 10 ≤ (vget s.cel.cell n).v ∧
          (vget s.cel.cell n).fail = false) ∧
      t.regs = s.regs ∧ t.saf = s.saf ∧ t.hb = s.hb ∧ t.evt = s.evt) ∧
  (∀ (cells : List Nat) (current cal : Int) (s : State), cells.length = 12 → (∀ v ∈ cells, v ≤ 65535) →
    (s.cel.epoch = s.cel.apertures → exec (.primaryResult cells current cal) s = .next s) ∧
    (s.cel.running = true → s.cel.epoch ≠ s.cel.apertures →
      ∃ t, exec (.primaryResult cells current cal) s = .next t ∧ t.cel.epoch = s.cel.apertures ∧
        t.cel.apertures = s.cel.apertures ∧ t.regs = s.regs ∧ t.saf = s.saf ∧ t.scn = s.scn ∧
        t.hb = { s.hb with sample := t.hb.sample } ∧ (s.cel.sweepOf = none → t.hb.sample = s.hb.sample) ∧
        (∀ n, s.cel.sweepOf = some n → hbTook t n = true ∧
          (t.hb.sample.getD hbNoSample).apt = s.hb.apt.getD 0 ∧ (t.hb.sample.getD hbNoSample).cells =
            t.cel.cell.toList.flatMap (fun c => bytesBE 2 (if c.valid then c.v else 0xFFFF))) ∧
        (calConv s ≠ some 12 → t.cel.current = clampInt (-8388608) 8388607 current) ∧
        (s.cel.thru = false → ∀ n, n < 12 → celFailed s n = false →
          (vget t.cel.cell n).v = cells.getD n 0 ∧ (vget t.cel.cell n).valid = true))) ∧
  (∀ (slot raw : Nat) (dev : Int) (s : State), slot ≤ 18 →
    ((s.cel.running = false ∨ s.cel.apertures = 0 ∨ s.cel.slots.testBit slot = true) →
      exec (.sweepSlot slot raw dev) s = .next s) ∧
    (s.cel.running = true → s.cel.apertures ≠ 0 → s.cel.slots.testBit slot = false →
      ∃ t, exec (.sweepSlot slot raw dev) s = .next t ∧ t.cel.slots.testBit slot = true ∧ t.regs = s.regs ∧
        t.saf = s.saf ∧ t.hb = s.hb ∧
        (slot = 0 → t.cel.refA = min raw 65535) ∧ (slot = 14 → t.cel.refB = min raw 65535) ∧
        (slot = 13 → t.cel.stack = min raw 65535))) ∧
  (∀ s : State, s.cel.running = true → s.cel.thru = false →
    exec .balanceGuardOpen s = .next { s with cel := { s.cel with guard := true } } ∧
    exec .balanceGuardClose s = .next { s with cel := { s.cel with guard := false } })

/-- R397, R398, R401 to R403: as many consecutive results past a threshold as the filter asks for latch the demand and
stop both protection lines; a CLEAR with a condition present changes nothing, and one that waits is evaluated after
the last result; a request mask, its expiry, the coulomb counter and the lock do what is written and no more. -/
def Obligations.CellProtection : Prop :=
  (∀ (n raw : Nat) (dev : Int) (s : State), n < 12 → s.cel.running = true → s.cel.apertures ≠ 0 →
    s.cel.slots.testBit (n + 1) = false → s.cel.refFault = false → s.cel.guard = true →
    let v := (clampInt 0 65535 (openRound ((raw : Int) - calValue s (0x9A + n)) 10)).toNat
    (vget s.cel.cell n).ov.on = false → celOv s ≤ v →
    (celVflt s ≤ (vget s.cel.cell n).ov.s + 1 →
      ∃ t, exec (.sweepSlot (n + 1) raw dev) s = .next t ∧ t.cel.demand = true ∧ t.cel.lines = false ∧
        (vget t.cel.cell n).ov.on = true ∧ t.waits .afe Ev.CELL_OV (n + 1)) ∧
    ((vget s.cel.cell n).ov.s + 1 < celVflt s → celUv s < v →
      ∃ t, exec (.sweepSlot (n + 1) raw dev) s = .next t ∧ t.cel.demand = s.cel.demand ∧ t.cel.lines = s.cel.lines ∧
        (vget t.cel.cell n).ov.s = (vget s.cel.cell n).ov.s + 1 ∧ t.evt = s.evt)) ∧
  (∀ s : State, s.cel.running = true →
    (celAny s = true → exec .celProtClear s = .next s) ∧
    (celAny s = false → s.cel.demand = true →
      exec .celProtClear s = .next { s with cel := { s.cel with clearPend := true } }) ∧
    (s.cel.clearPend = true → celAny s = true →
      exec .protClearEval s = .next { s with cel := { s.cel with clearPend := false } }) ∧
    (s.cel.clearPend = true → celAny s = false →
      ∃ t, exec .protClearEval s = .next t ∧ t.cel.demand = false ∧ t.cel.clearPend = false ∧
        (t.cel.lines = true ↔ t.hb.orphanDemand = false ∧ s.hb.leadOpen = false) ∧
        (t.cel.lines = true → s.raisedOne t .afe Ev.CELL_PROT_CLEARED 0)) ∧
    (s.cel.clearPend = false → exec .protClearEval s = .next s)) ∧
  (∀ (data : Word) (s : State), s.cel.running = true →
    exec .coulZero s = .next { s with cel := { s.cel with coul := 0, coulRem := 0 } } ∧
    exec (.balReqWrite data) s = .next (s.setReg Reg.CEL_BAL_REQ (data &&& 0xFFF)) ∧
    (∃ t, exec .balExpired s = .next t ∧ t.reg Reg.CEL_BAL_REQ = 0 ∧ s.raisedOne t .afe Ev.BAL_EXPIRED 0 ∧
      (s.mirrorOpen = true → t.flagged Reg.CEL_ERR 6) ∧ ∀ a, a ≠ Reg.CEL_BAL_REQ → t.reg a = s.reg a) ∧
    (Reg.CEL_PROT_LOCK ∈ s.acc.written → exec (.protLockWrite data) s = .next s) ∧
    (Reg.CEL_PROT_LOCK ∉ s.acc.written → ∃ t, exec (.protLockWrite data) s = .next t ∧
      t.reg Reg.CEL_PROT_LOCK = data &&& 1 ∧ Reg.CEL_PROT_LOCK ∈ t.acc.written ∧
      exec (.protLockWrite data) t = .next t))

/-- R84, R410, R411, R413, R415, R417, R419, R420, R424, R425, R429: what a member of the chain does with each frame.
Frames that are not for it alone are repeated unchanged, a repeat of the sender's last ALIVE is discarded, and every
frame of its own carries the next ALIVE. A member that has not heard the head, or a frame from it that passes through,
for 2 s is an orphan. Model's choices: broadcast frames and a misaddressed TRIGGER (log entry 66). -/
def Obligations.HatbandMember : Prop :=
  (∀ (a b c d : Nat) (s : State), a ≤ 31 → b ≤ 31 → c ≤ 31 → d ≤ 31 → s.cel.running = true → s.hb.addr = none →
    (a = b ∧ b = c ∧ c = d → exec (.haStrapSample [a, b, c, d]) s =
      .next { s with hb := { s.hb with addr := some a, listening := decide (a = 0) } }) ∧
    (¬(a = b ∧ b = c ∧ c = d) → exec (.haStrapSample [a, b, c, d]) s = .next s)) ∧
  (∀ (strap : Nat) (s : State), strap ≤ 31 → s.cel.running = true → ∀ a, s.hb.addr = some a →
    (strap = a → exec (.haStrapCheck strap) s = .next { s with hb := { s.hb with addrMismatch := false } }) ∧
    (strap ≠ a → ∃ t, exec (.haStrapCheck strap) s = .next t ∧ t.hb.addrMismatch = true ∧ t.hb.addr = s.hb.addr ∧
      s.raisedOne t .afe Ev.HBD_ADDR_CHANGED s.hb.pos ∧ s.chainOnly t)) ∧
  (∀ (up : Bool) (f : HbFrame) (rt : Nat) (s : State), hbMember s = true → f.bcast = false →
    f.dst ≠ hbAddr s →
    (f.payload.length = 1 → exec (.ident up f) s = .next ((s.hbHear f).repeated up f) ∧
      exec (.ping up f) s = .next ((s.hbHear f).repeated up f) ∧
        exec (.echo up f rt) s = .next ((s.hbHear f).repeated up f)) ∧
    (f.payload.length = 7 → exec (.setup up f) s = .next ((s.hbHear f).repeated up f) ∧
      exec (.identReply up f) s = .next ((s.hbHear f).repeated up f)) ∧
    (f.payload.length = 8 → exec (.read up f) s = .next ((s.hbHear f).repeated up f)) ∧
    (f.payload.length = 62 ∨ f.payload.length = 54 → exec (.response up f) s = .next ((s.hbHear f).repeated up f)) ∧
    (f.payload.length ≤ 64 → exec (.hbFrameRepeat up f) s = .next ((s.hbHear f).repeated up f))) ∧
  (∀ (up : Bool) (f : HbFrame) (s : State), hbMember s = true → f.payload.length ≤ 64 → (f.typ = 0 ∨ 9 < f.typ) →
    exec (.hbFrameRepeat up f) s = .next ((s.hbHear f).repeated up f)) ∧
  (∀ (up : Bool) (f : HbFrame) (s : State), hbMember s = true → f.bcast = false → f.dst = hbAddr s →
    kfind s.hb.aliveOf f.src = some f.alive → ∀ c, (c = .ident up f ∧ f.payload.length = 1) ∨
      (c = .ping up f ∧ f.payload.length = 1) ∨ (c = .setup up f ∧ f.payload.length = 7) ∨
      (c = .read up f ∧ f.payload.length = 8) →
    ∃ t, exec c s = .next t ∧ t.out = s.out ∧ s.chainOnly t ∧ t.hb =
      { s.hb with aliveAt := t.hb.aliveAt, silentMs := if f.src = 0 then 0 else s.hb.silentMs } ∧
      (s.mirrorOpen = true → t.flagged Reg.HBD_ERR 6) ∧ (s.hb.aliveAt = some s.opsec → t.evt = s.evt) ∧
      (s.hb.aliveAt ≠ some s.opsec → s.raisedOne t .afe Ev.HBD_ALIVE f.src ∧ t.hb.aliveAt = some s.opsec)) ∧
  (∀ (up : Bool) (f : HbFrame) (s : State), s.heeds f → f.payload.length = 1 →
    (∃ t, exec (.ident up f) s = .next t ∧ s.sent t up 3 false 0 ([s.hb.pos, hbAddr s, 2] ++ bytesBE 4 (hbDigest s)) ∧
      s.chainOnly t ∧ t.cel.demand = s.cel.demand ∧ kfind t.hb.aliveOf f.src = some f.alive) ∧
    (∃ t, exec (.ping up f) s = .next t ∧ t.hb.echoDue = some up ∧ t.out = s.out ∧ s.chainOnly t ∧
      ∃ u, exec .echoSend t = .next u ∧ t.sent u up 5 false 0 [s.hb.pos] ∧ u.hb.echoDue = none ∧ s.chainOnly u)) ∧
  (∀ s : State, s.hb.echoDue = none → exec .echoSend s = .next s) ∧
  (∀ (up : Bool) (f : HbFrame) (s : State), s.heeds f → f.payload.length = 7 →
    ∃ t, exec (.setup up f) s = .next t ∧ t.out = s.out ∧ s.chainOnly t ∧ t.cel.demand = s.cel.demand ∧
      t.hb.delayUp = pay f 1 * 256 + pay f 2 ∧ t.hb.delayDn = pay f 3 * 256 + pay f 4 ∧ t.hb.version = pay f 5 ∧
      t.hb.split = pay f 6 ∧ t.hb.pos = s.hb.pos ∧
      (pay f 5 < s.hb.version → s.raisedOne t .afe Ev.CHAIN_VERSION s.hb.pos) ∧
      (s.hb.version ≤ pay f 5 → t.evt = s.evt)) ∧
  (∀ (up : Bool) (f : HbFrame) (s : State), s.heeds f → f.payload.length = 8 →
    ∃ t r, exec (.read up f) s = .next t ∧ s.sent t up 9 false 0 r ∧
      r.length = (if s.hb.version = 1 then 54 else 62) ∧ r.take 4 = (f.payload.take 4).map (· % 256) ∧
      t.cel.demand = s.cel.demand ∧ t.saf = s.saf ∧ t.regs = s.regs ∧
      (pay f 6 % 2 = 1 → t.hb.x = sext 8 (pay f 5) ∧ t.hb.xHeld = true) ∧
      (pay f 6 % 2 = 0 → t.hb.x = s.hb.x ∧ t.hb.xHeld = s.hb.xHeld)) ∧
  (∀ (up : Bool) (f : HbFrame) (own phase : Nat) (s : State), hbMember s = true → f.payload.length = 11 →
    (f.bcast = true ∨ f.dst = hbAddr s) →
    kfind s.hb.aliveOf f.src ≠ some f.alive →
    let d := if up then s.hb.delayDn else s.hb.delayUp
    let lead := pay f 8 * 256 + pay f 9
    ∃ t, exec (.trigger up f own phase) s = .next t ∧ t.hb.sweep = payBE f 0 4 ∧
      t.hb.chainTime = (payBE f 4 4 + d / 100) % 2 ^ 32 ∧ t.hb.strOpen = pay f 10 % 4 ∧
      t.cel.trigger = some (phase + lead * 100 - d, (phase : Int)) ∧ t.cel.demand = s.cel.demand ∧
      t.hb.orphanDemand = s.hb.orphanDemand ∧ t.hb.silentMs = (if f.src = 0 then 0 else s.hb.silentMs) ∧ s.chainOnly t ∧
      t.out = s.out ++ (if f.bcast then
        [hbAgain up f] else []) ∧
      (s.hb.swept = true → payBE f 0 4 ≠ (s.hb.sweep + 1) % 2 ^ 32 →
        t.hb.corrSweeps = min (s.hb.corrSweeps + 1) 255 ∧ t.hb.tcorr = true) ∧
      (s.hb.swept = false → t.hb.corrSweeps = s.hb.corrSweeps ∧ t.hb.tcorr = false ∧ t.evt = s.evt) ∧
      (t.cel.lines = true ↔ s.cel.running = true ∧ s.cel.demand = false ∧ s.hb.orphanDemand = false ∧
        t.hb.leadOpen = false) ∧
      (t.hb.leadOpen = true ↔ s.hb.split ≠ 0 ∧ s.hb.pos = s.hb.split ∧ (pay f 10).testBit 1 = true)) ∧
  (∀ (f : HbFrame) (s : State), (s.hbHear f).hb.silentMs = if f.src = 0 then 0 else s.hb.silentMs) ∧
  (∀ s : State, (hbMember s = false ∨ s.hb.silentMs < 2000) → exec .hbdOrphan s = .next s) ∧
  (∀ s : State, hbMember s = true → 2000 ≤ s.hb.silentMs →
    ∃ t, exec .hbdOrphan s = .next t ∧ t.hb.role = .orphan ∧ t.hb.orphanDemand = true ∧ t.cel.lines = false ∧
      t.hb.x = 0 ∧ t.cel.clearPend = false ∧ s.raisedOne t .afe Ev.HBD_ORPHAN s.hb.pos ∧ s.chainOnly t ∧
      (s.mirrorOpen = true → t.flagged Reg.HBD_ERR 0)) ∧
  (∀ s : State, exec .xferHoldExpire s = .next { s with hb := { s.hb with x := 0, xHeld := false } }) ∧
  (∀ (x : HbRaw) (s : State), s.cel.running = true → s.hb.addr ≠ none → hbGood x.bytes = false →
    ∃ t, exec (.hbFrameDiscard x) s = .next t ∧ t.out = s.out ∧ t.hb = s.hb ∧ t.evt = s.evt ∧ s.chainOnly t ∧
      (s.mirrorOpen = true → t.flagged Reg.HBD_ERR 5))

/-- R412 to R415: the enumeration. A device of address 0 that has heard no ENUM becomes the head and sends ENUM on
HB_UP; a member takes the position after the hop and repeats the ENUM with the hop raised; a head that hears an ENUM
of another becomes a member; replies, time-outs and echoes lead from one position to the next. Model's choices: log
entry 66. -/
def Obligations.HatbandEnumeration : Prop :=
  (∀ s : State, s.cel.running = true → s.hb.addr = some 0 → s.hb.listening = true →
    ∃ t, exec .headListenEnd s = .next t ∧ t.hb.role = .head ∧ t.hb.pos = 0 ∧ t.hb.listening = false ∧ s.chainOnly t ∧
      t.evt = s.evt ∧ t.cel = s.cel ∧
      ((s.reg Reg.HBD_CTL).toNat.testBit 1 = true → s.sent t true 1 true 0 [0, 2] ∧ t.hb.phase = .ringEnum) ∧
      ((s.reg Reg.HBD_CTL).toNat.testBit 1 = false → t.hb.phase = .ident 1 false ∧
        t.out = s.out ++ [s.hbOut true 1 ((s.hb.alive + 1) % 16) true 0 [0, 2],
          s.hbOut true 2 ((s.hb.alive + 2) % 16) false 1 [1]])) ∧
  (∀ s : State, s.hb.listening = false → exec .headListenEnd s = .next s) ∧
  (∀ (f : HbFrame) (us a : Nat) (s : State), f.payload.length = 2 → s.cel.running = true → s.hb.addr = some a →
    s.hb.role ≠ .head → kfind s.hb.aliveOf f.src ≠ some f.alive →
    (31 ≤ pay f 0 → ∃ t, exec (.enum false f us) s = .next t ∧ t.hb.role = .unenumerated ∧ t.out = s.out ∧
      t.evt = s.evt ∧ s.chainOnly t) ∧
    (pay f 0 < 31 → ∃ t, exec (.enum false f us) s = .next t ∧ t.hb.pos = pay f 0 + 1 ∧ s.chainOnly t ∧
      t.out = s.out ++ [hbAgain false { f with payload := [pay f 0 + 1, pay f 1] }] ∧
      t.cel = { s.cel with hbErrPend := t.cel.hbErrPend } ∧ t.hb.orphanDemand = s.hb.orphanDemand ∧
      (a = pay f 0 + 1 → t.hb.role = .member) ∧
      (a ≠ pay f 0 + 1 → t.hb.role = .addrFault ∧ t.waits .afe Ev.CHAIN_ADDR_FAULT (pay f 0 + 1)))) ∧
  (∀ (f : HbFrame) (us : Nat) (s : State), f.payload.length = 2 → s.cel.running = true → s.hb.addr = some 0 →
    s.hb.role = .head →
    (pay f 0 < 31 → kfind s.hb.aliveOf f.src ≠ some f.alive → ¬(us ≤ 2000 ∧ s.hb.enumSent = true ∧ f.src = 0 ∧
      f.alive = s.hb.enumAlive) →
      ∃ t, exec (.enum false f us) s = .next t ∧ t.hb.role = .addrFault ∧ t.hb.phase = .idle ∧ t.hb.members = [] ∧
        s.raisedOne t .afe Ev.CHAIN_ADDR_FAULT (pay f 0 + 1) ∧ s.chainOnly t) ∧
    (us ≤ 2000 → s.hb.enumSent = true → f.src = 0 → f.alive = s.hb.enumAlive → s.hb.phase = .ringEnum →
      ∃ t, exec (.enum false f us) s = .next t ∧ t.hb.role = .head ∧ t.hb.count = pay f 0 + 1 ∧
        t.hb.ringBroken = false ∧ t.hb.phase = .ident 1 false ∧ s.sent t true 2 false 1 [1] ∧ s.chainOnly t)) ∧
  (∀ s : State, hbHead s = true →
    (s.hb.phase = .ringEnum → ∃ t, exec .ringEnumTimeout s = .next t ∧ t.hb.ringBroken = true ∧
      t.hb.phase = .ident 1 false ∧ s.sent t true 2 false 1 [1] ∧ s.chainOnly t) ∧
    exec .hbdReenumCmd s = .next { s with hb := { s.hb with enumDue := true } } ∧
    (s.rfld Reg.HBD_CTL 16 8 ≠ 0 →
      exec .reenumerate s = .next { s with hb := { s.hb with enumDue := true } }) ∧
    (s.rfld Reg.HBD_CTL 16 8 = 0 → exec .reenumerate s = .next s)) ∧
  (∀ (f : HbFrame) (p : Nat) (s : State), hbHead s = true → f.bcast = false → f.dst = hbAddr s →
    kfind s.hb.aliveOf f.src ≠ some f.alive → f.payload.length = 7 → pay f 0 = p → p < 31 →
    s.hb.phase = .ident p false → (s.reg Reg.HBD_CTL).toNat.testBit 1 = false →
    ∃ t, exec (.identReply true f) s = .next t ∧ (memberAt t p).enumerated = true ∧ (memberAt t p).addr = pay f 1 ∧
      (memberAt t p).version = pay f 2 ∧ (memberAt t p).digest = payBE f 3 4 ∧
      ((memberAt t p).out = true ↔ pay f 1 ≠ p) ∧ t.hb.phase = .ident (p + 1) false ∧
      s.sent t true 2 false (p + 1) [p + 1] ∧ s.chainOnly t ∧
      (pay f 1 ≠ p → t.waits .afe Ev.CHAIN_ADDR_FAULT p) ∧
      (payBE f 3 4 ≠ hbDigest s → payBE f 3 4 ≠ (memberAt s p).digest → t.waits .afe Ev.CHAIN_CFG_MISMATCH p)) ∧
  (∀ (p : Nat) (s : State), hbHead s = true → s.hb.phase = .ident p false →
    (s.reg Reg.HBD_CTL).toNat.testBit 1 = false → ∃ t, exec .identTimeout s = .next t ∧ t.hb.role = .head ∧
      s.chainOnly t ∧
      (hbMembers s = [] → t.hb.phase = .idle ∧ t.hb.count = 1 ∧ t.waits .afe Ev.CHAIN_ENUMERATED 0) ∧
      (∀ m ms, hbMembers s = m :: ms → t.hb.phase = .ping m.pos m.viaDn [] ∧
        s.sent t (!m.viaDn) 4 false (memberAt s m.pos).addr [m.pos])) ∧
  (∀ (f : HbFrame) (rt p : Nat) (down : Bool) (got : List Nat) (s : State), hbHead s = true → f.bcast = false →
    f.dst = hbAddr s → kfind s.hb.aliveOf f.src ≠ some f.alive → f.payload.length = 1 → pay f 0 = p →
    s.hb.phase = .ping p down got → got.length < 3 →
    ∃ t d, exec (.echo (!down) f rt) s = .next t ∧ t.hb.phase = .ping p down (got ++ [d]) ∧
      (3000 ≤ rt → 2 * d ≤ rt - 3000 + 1 ∧ rt - 3000 ≤ 2 * d + 1) ∧
      s.sent t (!down) 4 false (memberAt s p).addr [p] ∧ s.chainOnly t)

/-- R20, R416, R421 to R423, R426 to R428: the head's sweeps. A sweep has the next number and its TRIGGER the head's
chain time and lead; a response is kept and the next READ follows; without a ring two missing positions in a row end
the reading; a string with an active request opens at the sweep's end, stays open while one is active, and only a
release ends it; the Docent copies the results into the HBD window while it runs; the member port reads on. Model's
choices: log entry 66. -/
def Obligations.HatbandSweeps : Prop :=
  (∀ (now phase : Nat) (s : State), hbHead s = true → s.hb.phase = .idle →
    (s.hb.enumDue = false → (s.reg Reg.HBD_CTL).toNat.testBit 0 = false →
      exec (.sweepStart now phase) s = .next s) ∧
    (s.hb.enumDue = true → ∃ t x, exec (.sweepStart now phase) s = .next t ∧ t.hb.sweep = s.hb.sweep ∧
      t.cel = s.cel ∧ t.out = s.out ++ s.hbOut true 1 ((s.hb.alive + 1) % 16) true 0 [0, 2] :: x) ∧
    (s.hb.enumDue = false → (s.reg Reg.HBD_CTL).toNat.testBit 0 = true →
      let lead := s.rfld Reg.HBD_SWEEP 16 10
      let n := (s.hb.sweep + 1) % 2 ^ 32
      let v := (s.hbDecide 0).hbDecide 1
      ∃ t x, exec (.sweepStart now phase) s = .next t ∧ t.hb.sweep = n ∧ t.hb.chainTime = now % 2 ^ 32 ∧
        t.hb.tap = (now + lead) % 2 ^ 32 ∧ t.cel.trigger = some (phase + lead * 100, (phase : Int)) ∧
        t.out = s.out ++ s.hbOut true 7 ((s.hb.alive + 1) % 16) true 0
          (bytesBE 4 n ++ bytesBE 4 (now % 2 ^ 32) ++ bytesBE 2 lead ++ [v.hb.strOpen]) :: x ∧
        t.evt = v.evt ∧ t.hb.strOpen = v.hb.strOpen ∧ (s.cel.demand = true → v.hb.strOpen.testBit 0 = true) ∧
          s.chainOnly t ∧ (hbMembers s = [] → t.hb.phase = .reading none []))) ∧
  (∀ (f : HbFrame) (p : Nat) (down : Bool) (rest : List (Nat × Bool)) (s : State), hbHead s = true →
    f.bcast = false → f.dst = hbAddr s → kfind s.hb.aliveOf f.src ≠ some f.alive →
    (f.payload.length = 62 ∨ f.payload.length = 54) → s.hb.phase = .reading (some (p, down)) rest →
    f.src = (memberAt s p).addr → ∃ t, exec (.response (!down) f) s = .next t ∧ (memberAt t p).answered = true ∧
      (memberAt t p).missing = false ∧ (f.payload.length = 62 → (memberAt t p).resp = f.payload.map (· % 256)) ∧
      t.hb.missRun = 0 ∧ s.chainOnly t ∧ ((memberAt s p).missing = true → t.hb.enumDue = true) ∧
      (rest = [] → t.hb.phase = .reading none []) ∧
      (∀ q qs, rest = q :: qs → t.hb.phase = .reading (some q) qs)) ∧
  (∀ (p : Nat) (down : Bool) (rest : List (Nat × Bool)) (s : State), hbHead s = true →
    s.hb.phase = .reading (some (p, down)) rest → (s.reg Reg.HBD_CTL).toNat.testBit 1 = false →
    ∃ t, exec .responseMissing s = .next t ∧ (memberAt t p).missing = true ∧ s.chainOnly t ∧ t.evt = s.evt ∧
      (s.mirrorOpen = true → t.flagged Reg.HBD_ERR 3) ∧
      (1 ≤ s.hb.missRun → t.hb.phase = .reading none [] ∧ t.out = s.out ∧
        ∀ q ∈ rest, (memberAt t q.1).missing = true) ∧
      (s.hb.missRun = 0 → t.hb.missRun = 1 ∧ ∀ q qs, rest = q :: qs → t.hb.phase = .reading (some q) qs)) ∧
  (∀ s : State, hbHead s = true → s.hb.phase = .reading none [] → ∃ t, exec .sweepEnd s = .next t ∧
    t.hb.phase = .idle ∧ (t.hb.result = 1 ∨ t.hb.result = 2) ∧ t.saf = s.saf ∧ t.regs = s.regs ∧
    t.cel.demand = s.cel.demand ∧
    (∀ n, n < 2 → s.hb.strOpen.testBit n = true → t.hb.strOpen.testBit n = true) ∧
    t.hb.window = (if s.docentRuns = true ∧ s.pwr.barrierOk = true then t.hb.members else s.hb.window) ∧
    (s.cel.demand = true → t.hb.strOpen.testBit 0 = true) ∧
    (s.cel.demand = true → s.hb.strOpen.testBit 0 = false → t.waits .afe Ev.STRING_OPEN 0 ∧ t.cel.lines = false)) ∧
  (∀ (data : Word) (s : State), hbHead s = true →
    (acts data 0 = false → acts data 1 = false → exec (.stringRelease data) s = .next s) ∧
    (acts data 0 = true → acts data 1 = false → (s.hb.strOpen.testBit 0 = false ∨ hbRequest s 0 = true) →
      exec (.stringRelease data) s = .next s) ∧
    (acts data 0 = true → acts data 1 = false → s.hb.strOpen.testBit 0 = true → hbRequest s 0 = false →
      ∃ t, exec (.stringRelease data) s = .next t ∧ t.hb.strOpen.testBit 0 = false ∧ t.hb.leadOpen = false ∧
        t.hb.strOpen.testBit 1 = s.hb.strOpen.testBit 1 ∧ s.raisedOne t .afe Ev.STRING_RELEASED 0 ∧
        t.cel.demand = s.cel.demand ∧ s.chainOnly t)) ∧
  (∀ (r : Reader) (s : State), ∃ t, exec (.hbdMemDataAccess r) s = .next t ∧
    t.rfld Reg.HBD_MEM_INDEX 0 10 = (s.rfld Reg.HBD_MEM_INDEX 0 10 + 1) % 1024 ∧
    (∀ a, a ≠ Reg.HBD_MEM_INDEX → t.reg a = s.reg a) ∧ t.hb = s.hb ∧ t.out = s.out ∧ t.evt = s.evt)

/-- R500, R502, R504 to R508: a background step is accepted strictly inside the range and within 16 of the last
foreground value, and rejected otherwise, when the value in force stays and the third rejection in a row asks for
recovery; runs are requested; coefficient access opens with the key and a cause only; a written lane word waits for
the alignment marker. -/
def Obligations.Calibration : Prop :=
  (∀ (p : Fin 4) (l : Fin 2) (w : Nat) (d : Int) (s : State), w ≤ 8 → d.natAbs ≤ 1 → calBackAllowed s p l = true →
    (s.reg Reg.CAL_CTL).toNat.testBit 0 = true → s.rfld Reg.CAL_LANE_CTL 0 16 ≠ 0 →
    (∀ q ∈ s.cal.laneNext, q.1 / 16 ≠ 2 * p.val + l.val) →
    let lane := 2 * p.val + l.val
    let old := calValue s (16 * lane + w)
    let top : Int := if w = 8 then 16 else 63
    let fg : Int := kget old s.cal.fg (16 * lane + w)
    ∃ t, exec (.laneBackgroundCal p l [(w, d)]) s = .next t ∧ t.cal.laneRuns = min (s.cal.laneRuns + 1) 65535 ∧
      t.cal.laneTime = s.opsec ∧ t.waits .core Ev.CAL_LANE_DONE lane ∧ t.cal.fg = s.cal.fg ∧ t.regs = s.regs ∧
      t.port = s.port ∧ t.cel = s.cel ∧ t.saf = s.saf ∧
      (∀ x, x ≠ 16 * lane + w → calValue t x = calValue s x) ∧
      (-top < old + d ∧ old + d < top ∧ (old + d - fg).natAbs ≤ 16 →
        calValue t (16 * lane + w) = old + d ∧ kget 0 t.cal.rejRun (16 * lane + w) = 0 ∧
        t.cal.laneRejects = s.cal.laneRejects) ∧
      (¬(-top < old + d ∧ old + d < top ∧ (old + d - fg).natAbs ≤ 16) →
        calValue t (16 * lane + w) = old ∧ t.flagged Reg.CAL_ERR 0 ∧ t.waits .core Ev.CAL_LANE_REJECT lane ∧
        kget 0 t.cal.rejRun (16 * lane + w) = kget 0 s.cal.rejRun (16 * lane + w) + 1 ∧
        (t.cal.recovery = true ↔ s.cal.recovery = true ∨ 2 ≤ kget 0 s.cal.rejRun (16 * lane + w)))) ∧
  (∀ (p : Fin 4) (l : Fin 2) (steps : List (Nat × Int)) (s : State),
    (∀ q ∈ steps, q.1 ≤ 8 ∧ q.2.natAbs ≤ 1) → calBackAllowed s p l = false →
    exec (.laneBackgroundCal p l steps) s = .next { s with cal := { s.cal with
      passes := s.cal.passes.filter (fun q => q.1 != 2 * p.val + l.val) } }) ∧
  (∀ s : State, ∃ t, exec .calLaneRunCmd s = .next t ∧ t = { s with cal := { s.cal with passes := t.cal.passes } } ∧
    ∀ n, n ∈ t.cal.passes.map (·.1) ↔ n < 8 ∧ (vget s.port (n / 2)).st = .up ∧
      (vget s.port (n / 2)).active.testBit (n % 2) = true) ∧
  (∀ (byTemp : Bool) (s : State),
    ((s.reg Reg.CAL_CTL).toNat.testBit 1 = true → s.pwr.barrierOk = true → s.cel.running = true →
      s.rfld Reg.CAL_CELL_CTL (if byTemp then 8 else 0) 8 ≠ 0 →
      exec (.cellCalRun byTemp) s = .next { s with cel := { s.cel with calAgain := true } }) ∧
    ((s.reg Reg.CAL_CTL).toNat.testBit 1 = false ∨ s.rfld Reg.CAL_CELL_CTL (if byTemp then 8 else 0) 8 = 0 →
      exec (.cellCalRun byTemp) s = .next s) ∧
    (s.pwr.barrierOk = true → s.cel.running = true →
      exec .calCellRunCmd s = .next { s with cel := { s.cel with calAgain := true } })) ∧
  (∀ (data : Word) (s : State), (acts data 0 = false ∨ keyed data 0x96 = false) →
    exec (.calAccessOpen data) s = .next s) ∧
  (∀ (data : Word) (s : State), acts data 0 = true → keyed data 0x96 = true →
    (s.cmt.everAccepted = true → lifecycle s ≠ 0 → s.cal.recovery = false →
      ∃ t, exec (.calAccessOpen data) s = .next t ∧ t.cal = s.cal ∧
        t.cCopy Reg.RAC_STATUS 4 = s.cCopy Reg.RAC_STATUS 4 ||| 2 ∧
        (∀ r, r < 4 → t.cCopy Reg.RAC_STATUS r = s.cCopy Reg.RAC_STATUS r) ∧
        s.raisedOne t .core Ev.REG_WRITE_LOCKED 0) ∧
    (s.cmt.everAccepted = false ∨ lifecycle s = 0 ∨ s.cal.recovery = true →
      ∃ t c, exec (.calAccessOpen data) s = .next t ∧ t.cal = { s.cal with access := some c } ∧ 1 ≤ c ∧ c ≤ 3 ∧
        (c = 1 ↔ s.cmt.everAccepted = false) ∧ s.raisedOne t .core Ev.CAL_ACCESS_OPENED 12 ∧ t.regs = s.regs)) ∧
  (∀ s : State, exec .calAccessClose s = .next { s with cal := { s.cal with access := none } }) ∧
  (∀ (r : Reader) (d : Word) (s : State),
    let w := s.rfld Reg.CAL_COEF_INDEX 0 8
    let v := sext 16 (d.toNat % 2 ^ 16)
    (s.cal.access = none → exec (.calCoefDataAccess r none) s = .next s ∧
      ∃ t, exec (.calCoefDataAccess r (some d)) s = .next t ∧ t.cal = s.cal ∧ t.cel = s.cel ∧ t.regs = s.regs ∧
        t.cCopy Reg.RAC_STATUS (readerNo r) = s.cCopy Reg.RAC_STATUS (readerNo r) ||| 2) ∧
    (s.cal.access ≠ none → 0xA5 < w → ∀ x, ∃ t, exec (.calCoefDataAccess r x) s = .next t ∧ t.flagged Reg.CAL_ERR 3 ∧
      t.cal = s.cal ∧ t.cel = s.cel ∧ t.regs = s.regs ∧ t.evt = s.evt) ∧
    (s.cal.access ≠ none → w ≤ 0xA5 → ∃ t, exec (.calCoefDataAccess r none) s = .next t ∧ t.cal = s.cal ∧
      t.evt = s.evt ∧ t.rfld Reg.CAL_COEF_INDEX 0 8 = w + 1 ∧
      ∀ a, a ≠ Reg.CAL_COEF_INDEX → t.reg a = s.reg a) ∧
    (s.cal.access ≠ none → w < 0x80 → w % 16 ≤ 8 →
      let top : Int := if w % 16 = 8 then 16 else 63
      (-top < v ∧ v < top → ∃ t, exec (.calCoefDataAccess r (some d)) s = .next t ∧
        kget 0 t.cal.laneNext w = v ∧ (∀ x, calValue t x = calValue s x) ∧
        t.rfld Reg.CAL_COEF_INDEX 0 8 = w + 1 ∧ s.raisedOne t .core Ev.CAL_COEF_WRITTEN (w / 16) ∧ t.cel = s.cel) ∧
      (¬(-top < v ∧ v < top) → ∃ t, exec (.calCoefDataAccess r (some d)) s = .next t ∧ t.flagged Reg.CAL_ERR 3 ∧
        t.cal = s.cal ∧ t.regs = s.regs ∧ t.evt = s.evt)) ∧
    (s.cal.access ≠ none → 0x80 ≤ w → w ≤ 0x8B → -100 < v → v < 100 →
      ∃ t, exec (.calCoefDataAccess r (some d)) s = .next t ∧ kget 0 t.cel.coefNext w = v ∧
        t.cal.laneNext = s.cal.laneNext ∧ s.raisedOne t .core Ev.CAL_COEF_WRITTEN 12 ∧
        t.rfld Reg.CAL_COEF_INDEX 0 8 = w + 1)) ∧
  (∀ s : State, (s.docentRuns = true → ∃ t, exec .calArchive s = .next t ∧
      t.arc.cal = some (s.cal.coef, crc32c (calBytes s.cal.coef)) ∧ t.cal = { s.cal with dirty := false } ∧
        t.regs = s.regs ∧
      t.arc.fw = s.arc.fw) ∧
    (s.docentRuns = false → exec .calArchive s = .next s))

/-- The block's step: the command at the front of the queue leaves the queue and has its effect on the rest. The queue
is the model's form of the block (log entry 67). -/
def Obligations.StepRunsFront : Prop :=
  ∀ (c : Instr) (rest : List Instr) (s : State),
    step { s with pending := c :: rest } = exec c { s with pending := rest }

/-- The model's choice, log entry 5: with no command waiting a step is a millisecond of AON's time, a thousand of
which are one operating second (R66); the count saturates (R11). The cell side counts the time since it heard the head
(R425), and a context being disabled whose port is not UP loses its completions and raises `CTX_DISABLED` (R195, log
entry 33); nothing else changes. -/
def Obligations.IdleTick : Prop :=
  ∀ s : State, s.pending = [] → ∃ t, step s = .next t ∧ t =
    { s with aon := t.aon, hb := t.hb, ctx := t.ctx, evt := t.evt } ∧
    t.hb = { s.hb with silentMs := if s.cel.running then min 2000 (s.hb.silentMs + 1) else s.hb.silentMs } ∧
    ((∀ c, c < 4 → (vget s.ctx c).closing = false) → t.ctx = s.ctx ∧ t.evt = s.evt) ∧
    t.aon.pwrcyc = s.aon.pwrcyc ∧ t.aon.running = s.aon.running ∧
    (s.aon.running = false → t.aon = s.aon) ∧
    (s.aon.running = true → s.aon.ms < 999 → t.aon.ms = s.aon.ms + 1 ∧ t.aon.opsec = s.aon.opsec) ∧
    (s.aon.running = true → 999 ≤ s.aon.ms → t.aon.ms = 0 ∧
      (s.aon.opsec < 2 ^ 32 - 1 → t.aon.opsec = s.aon.opsec + 1) ∧
      (s.aon.opsec = 2 ^ 32 - 1 → t.aon.opsec = 2 ^ 32 - 1))

/-- Every command that can be sent has an effect in every state, and only a command whose operands no sender can send
stops, by the fault `illFormed`. No command touches the queue of commands that wait. What counts as well formed is the
model's (log entry 68). -/
def Obligations.CommandsComplete : Prop :=
  (∀ (c : Instr) (s : State), (c.wf = true → ∃ t, exec c s = .next t) ∧
     (c.wf = false → ∃ m, exec c s = .fault (.illFormed m))) ∧
  (∀ (c : Instr) (s t : State), exec c s = .next t → t.pending = s.pending)

/-- Every step keeps the canonical form of the registers, of the captured registers and of the class C copies. The
canonical form is the model's (log entry 69). -/
def Obligations.StepKeepsCanonical : Prop :=
  ∀ s t : State, s.canonical = true → step s = .next t → t.canonical = true

/-- The block after reset is canonical. The canonical form is the model's (log entry 69). -/
def Obligations.ResetCanonical : Prop :=
  State.reset.canonical = true

/-- R50, R52, R78, R83, R466, R544: in a reset every output ball is at its reset state, but for the safety outputs,
which a soft reset leaves to the safety cores; while the outputs are held, or the VIOC class is invalid, the column
chains and the row bus are low; a hard cut holds PWR_FF low, and EXTEST gives the other digital outputs to the
boundary register (which these are is the model's choice, log entry 104). -/
def Obligations.Pins : Prop :=
  (∀ s : State, s.pwr.inReset = true →
    (∀ b : Ball, (∀ n, b ≠ .sq n) → ballLevel s b = ballReset b) ∧
    (s.pwr.soft = false → ∀ n, ballLevel s (.sq n) = .low) ∧
    (s.pwr.soft = true → ∀ n, ballLevel s (.sq n) = if safOut s n.val then .high else .low)) ∧
  (∀ s : State, (outputsHeld s = true ∨ 3 ≤ s.pwr.viocClass) →
    (∀ n, ballLevel s (.cd n) = .low) ∧ (∀ g, ballLevel s (.dck g) = .low ∧ ballLevel s (.lat g) = .low ∧
      ballLevel s (.gck g) = .low) ∧ (∀ i, ballLevel s (.ra i) = .low) ∧ ballLevel s .rowen = .low ∧
    ∀ c : DrvCmd, s.command c = s) ∧
  (∀ s : State, s.thm.hardCut = true → s.dbg.ir ≠ .extest → ballLevel s .pwrFf = .low) ∧
  (∀ (s : State) (b : Ball), s.pwr.inReset = false → s.dbg.ir = .extest → boundaryDrives b = true → ballLevel s b = .active)

/-- R402, R419, R78: a protective demand of the cell side is latched. No step ends it but the evaluation of a CLEAR,
with no condition present, and a cell-side power-on. -/
def Obligations.DemandLatched : Prop :=
  ∀ s t : State, s.cel.running = true → s.cel.demand = true → step s = .next t → t.cel.demand = false →
    ∃ rest, s.pending = .protClearEval :: rest ∧ s.cel.clearPend = true ∧ celAny s = false

/-- R75, R78, R434 and the reset values of the register tables: what the block holds right after the release of a
power-on reset. Where the spec gives no reset value, the default of a field is the model's (log entries 10 and 11). -/
def Obligations.ResetValues : Prop :=
  let s := State.reset
  (∀ r, r < 5 → s.cCopy Reg.GLB_RST_CAUSE r = 1) ∧
  s.pending = [] ∧ s.act = [] ∧ s.saf = {} ∧ s.cel = {} ∧ s.hb = {} ∧ s.evt.mq = [] ∧ s.out = [] ∧
  s.port = Vector.replicate 4 {} ∧ s.ctx = Vector.replicate 4 {} ∧
  s.pwr.coreLock = false ∧ s.pwr.docent = .off ∧ s.pwr.standby = false ∧
  (∀ a, s.reg a = resetWord s.pwr.legacy s.pwr.viocClass a)
end

