-- ==== Sys2Proof/Laws/Maps.lean ====
section
/-! SUPPORT. What the keyed maps do: what a key holds after a change, and that every change keeps the canonical
form. -/

namespace Sys2Proof.Machine

variable {α : Type}

@[simp] theorem kget_nil (d : α) (q : Nat) : kget d [] q = d := rfl

theorem kget_kdel_self (d : α) (m : List (Nat × α)) (q : Nat) : kget d (kdel m q) q = d := by
  induction m with
  | nil => rfl
  | cons p m ih =>
    obtain ⟨k, v⟩ := p
    by_cases h : k = q <;> simp [kdel, kget, h, ih]

theorem kget_kdel_of_ne (d : α) (m : List (Nat × α)) {q k : Nat} (h : k ≠ q) :
    kget d (kdel m q) k = kget d m k := by
  induction m with
  | nil => rfl
  | cons p m ih =>
    obtain ⟨a, v⟩ := p
    by_cases ha : a = q
    · have h' : ¬ q = k := fun e => h e.symm
      simp [kdel, kget, ha, ih, h']
    · simp [kdel, kget, ha, ih]

theorem kget_kins_self (d : α) (m : List (Nat × α)) (q : Nat) (x : α) :
    (∀ p ∈ m, p.1 ≠ q) → kget d (kins m q x) q = x := by
  intro hm

  induction m with
  | nil => simp [kins, kget]
  | cons p m ih =>
    obtain ⟨a, v⟩ := p
    have ha : a ≠ q := hm (a, v) (by simp)
    by_cases hq : q < a
    · simp [kins, kget, hq]
    · simp [kins, kget, hq, ha]
      exact ih (fun p hp => hm p (by simp [hp]))

theorem kget_kins_of_ne (d : α) (m : List (Nat × α)) {q k : Nat} (x : α) (h : k ≠ q) :
    kget d (kins m q x) k = kget d m k := by
  have h' : ¬ q = k := fun e => h e.symm
  induction m with
  | nil => simp [kins, kget, h']
  | cons p m ih =>
    obtain ⟨a, v⟩ := p
    by_cases hq : q < a
    · simp [kins, kget, hq, h']
    · simp [kins, kget, hq, ih]

theorem kdel_ne (m : List (Nat × α)) (q : Nat) : ∀ p ∈ kdel m q, p.1 ≠ q := by
  induction m with
  | nil => simp [kdel]
  | cons p m ih =>
    obtain ⟨a, v⟩ := p
    by_cases h : a = q
    · simpa [kdel, h] using ih
    · intro p hp
      simp only [kdel, h, if_false, List.mem_cons] at hp
      rcases hp with rfl | hp
      · exact h
      · exact ih p hp

/-- What a key holds after one key has been given a value. -/
theorem kget_kput [DecidableEq α] (d : α) (m : List (Nat × α)) (q k : Nat) (x : α) :
    kget d (kput d m q x) k = if k = q then x else kget d m k := by
  unfold kput
  by_cases hk : k = q
  · subst hk
    by_cases hx : x = d
    · simp [hx, kget_kdel_self]
    · simp only [hx, if_false, if_true]
      exact kget_kins_self d _ _ _ (kdel_ne m k)
  · by_cases hx : x = d
    · simp [hx, hk, kget_kdel_of_ne d m hk]
    · simp [hx, hk, kget_kins_of_ne d _ x hk, kget_kdel_of_ne d m hk]

/-- What a key holds after the keys that fail a test have been dropped. -/
theorem kget_filter (d : α) (m : List (Nat × α)) (p : Nat → Bool) (k : Nat) :
    kget d (m.filter (fun q => p q.1)) k = if p k then kget d m k else d := by
  induction m with
  | nil => simp
  | cons a m ih =>
    obtain ⟨a, v⟩ := a
    by_cases ha : p a
    · by_cases hk : a = k
      · subst hk; simp [kget, ha]
      · simp [ha, kget, hk, ih]
    · by_cases hk : a = k
      · subst hk; simp [ha, ih]
      · simp [ha, kget, hk, ih]

/-! ## The canonical form -/

theorem kdel_subset (m : List (Nat × α)) (q : Nat) : ∀ p ∈ kdel m q, p ∈ m := by
  induction m with
  | nil => simp [kdel]
  | cons a m ih =>
    intro p hp
    obtain ⟨a, v⟩ := a
    by_cases h : a = q
    · simp only [kdel, h, if_true] at hp
      exact List.mem_cons_of_mem _ (ih p hp)
    · simp only [kdel, h, if_false, List.mem_cons] at hp
      rcases hp with rfl | hp
      · simp
      · exact List.mem_cons_of_mem _ (ih p hp)

theorem kSorted_kdel (m : List (Nat × α)) (q : Nat) (h : kSorted m = true) : kSorted (kdel m q) = true := by
  induction m with
  | nil => rfl
  | cons a m ih =>
    obtain ⟨a, v⟩ := a
    simp only [kSorted, Bool.and_eq_true, List.all_eq_true] at h
    by_cases ha : a = q
    · simpa [kdel, ha] using ih h.2
    · simp only [kdel, ha, if_false, kSorted, Bool.and_eq_true, List.all_eq_true]
      exact ⟨fun p hp => h.1 p (kdel_subset m q p hp), ih h.2⟩

theorem kins_mem (m : List (Nat × α)) (q : Nat) (x : α) : ∀ p ∈ kins m q x, p = (q, x) ∨ p ∈ m := by
  induction m with
  | nil => simp [kins]
  | cons a m ih =>
    obtain ⟨a, v⟩ := a
    intro p hp
    by_cases h : q < a
    · simpa [kins, h] using hp
    · simp only [kins, h, if_false, List.mem_cons] at hp
      rcases hp with rfl | hp
      · simp
      · rcases ih p hp with h | h <;> simp [h]

theorem kSorted_kins (m : List (Nat × α)) (q : Nat) (x : α) (hq : ∀ p ∈ m, p.1 ≠ q) (h : kSorted m = true) :
    kSorted (kins m q x) = true := by
  induction m with
  | nil => simp [kins, kSorted]
  | cons a m ih =>
    obtain ⟨a, v⟩ := a
    have ha : a ≠ q := hq (a, v) (by simp)
    simp only [kSorted, Bool.and_eq_true, List.all_eq_true, decide_eq_true_eq] at h
    by_cases hlt : q < a
    · simp only [kins, hlt, if_true, kSorted, Bool.and_eq_true, List.all_eq_true, decide_eq_true_eq, List.mem_cons]
      refine ⟨?_, fun p hp => h.1 p hp, h.2⟩
      rintro p (rfl | hp)
      · exact hlt
      · exact Nat.lt_trans hlt (h.1 p hp)
    · simp only [kins, hlt, if_false, kSorted, Bool.and_eq_true, List.all_eq_true, decide_eq_true_eq]
      refine ⟨fun p hp => ?_, ih (fun p hp => hq p (by simp [hp])) h.2⟩
      rcases kins_mem m q x p hp with rfl | hp
      · show a < q
        omega
      · exact h.1 p hp

theorem kSorted_kset (m : List (Nat × α)) (q : Nat) (x : α) (h : kSorted m = true) : kSorted (kset m q x) = true :=
  kSorted_kins _ q x (kdel_ne m q) (kSorted_kdel m q h)

theorem kSorted_kput [DecidableEq α] (d : α) (m : List (Nat × α)) (q : Nat) (x : α) (h : kSorted m = true) :
    kSorted (kput d m q x) = true := by
  unfold kput
  split
  · exact kSorted_kdel m q h
  · exact kSorted_kins _ q x (kdel_ne m q) (kSorted_kdel m q h)

theorem kSorted_filter (m : List (Nat × α)) (p : Nat × α → Bool) (h : kSorted m = true) :
    kSorted (m.filter p) = true := by
  induction m with
  | nil => rfl
  | cons a m ih =>
    obtain ⟨a, v⟩ := a
    simp only [kSorted, Bool.and_eq_true, List.all_eq_true] at h
    by_cases ha : p (a, v)
    · simp only [List.filter_cons, ha, if_true, kSorted, Bool.and_eq_true, List.all_eq_true]
      exact ⟨fun q hq => h.1 q (List.mem_of_mem_filter hq), ih h.2⟩
    · simpa [List.filter_cons, ha] using ih h.2

/-- A put keeps the canonical form. -/
theorem kWf_kput [DecidableEq α] (d : α) (m : List (Nat × α)) (q : Nat) (x : α) (h : kWf (fun _ => d) m = true) :
    kWf (fun _ => d) (kput d m q x) = true := by
  simp only [kWf, Bool.and_eq_true, List.all_eq_true, bne_iff_ne] at h ⊢
  refine ⟨kSorted_kput d m q x h.1, fun p hp => ?_⟩
  unfold kput at hp
  split at hp
  · exact h.2 p (kdel_subset m q p hp)
  · rcases kins_mem _ q x p hp with rfl | hp
    · assumption
    · exact h.2 p (kdel_subset m q p hp)

/-- Dropping entries keeps the canonical form. -/
theorem kWf_filter [DecidableEq α] (d : Nat → α) (m : List (Nat × α)) (p : Nat × α → Bool) (h : kWf d m = true) :
    kWf d (m.filter p) = true := by
  simp only [kWf, Bool.and_eq_true, List.all_eq_true] at h ⊢
  exact ⟨kSorted_filter m p h.1, fun q hq => h.2 q (List.mem_of_mem_filter hq)⟩

end Sys2Proof.Machine
end

