-- ==== Sys2Proof/Laws/State.lean ====
section
/-! SUPPORT. What the shared operations leave alone, one lemma per field and operation, and what they change. -/

namespace Sys2Proof.Machine

variable (s : State)

/-! `State.setReg` -/

@[simp] theorem setReg_pending (a : Nat) (w : Word) : (s.setReg a w).pending = s.pending := rfl
@[simp] theorem setReg_out (a : Nat) (w : Word) : (s.setReg a w).out = s.out := rfl
@[simp] theorem setReg_free (a : Nat) (w : Word) : (s.setReg a w).free = s.free := rfl
@[simp] theorem setReg_act (a : Nat) (w : Word) : (s.setReg a w).act = s.act := rfl
@[simp] theorem setReg_cbits (a : Nat) (w : Word) : (s.setReg a w).cbits = s.cbits := rfl
@[simp] theorem setReg_evt (a : Nat) (w : Word) : (s.setReg a w).evt = s.evt := rfl
@[simp] theorem setReg_rgs (a : Nat) (w : Word) : (s.setReg a w).rgs = s.rgs := rfl
@[simp] theorem setReg_hnd (a : Nat) (w : Word) : (s.setReg a w).hnd = s.hnd := rfl
@[simp] theorem setReg_aon (a : Nat) (w : Word) : (s.setReg a w).aon = s.aon := rfl
@[simp] theorem setReg_pwr (a : Nat) (w : Word) : (s.setReg a w).pwr = s.pwr := rfl
@[simp] theorem setReg_acc (a : Nat) (w : Word) : (s.setReg a w).acc = s.acc := rfl
@[simp] theorem setReg_port (a : Nat) (w : Word) : (s.setReg a w).port = s.port := rfl
@[simp] theorem setReg_ctx (a : Nat) (w : Word) : (s.setReg a w).ctx = s.ctx := rfl
@[simp] theorem setReg_cur (a : Nat) (w : Word) : (s.setReg a w).cur = s.cur := rfl
@[simp] theorem setReg_layer (a : Nat) (w : Word) : (s.setReg a w).layer = s.layer := rfl
@[simp] theorem setReg_layComp (a : Nat) (w : Word) : (s.setReg a w).layComp = s.layComp := rfl
@[simp] theorem setReg_layEnd (a : Nat) (w : Word) : (s.setReg a w).layEnd = s.layEnd := rfl
@[simp] theorem setReg_pix (a : Nat) (w : Word) : (s.setReg a w).pix = s.pix := rfl
@[simp] theorem setReg_scn (a : Nat) (w : Word) : (s.setReg a w).scn = s.scn := rfl
@[simp] theorem setReg_cmt (a : Nat) (w : Word) : (s.setReg a w).cmt = s.cmt := rfl
@[simp] theorem setReg_cch (a : Nat) (w : Word) : (s.setReg a w).cch = s.cch := rfl
@[simp] theorem setReg_dia (a : Nat) (w : Word) : (s.setReg a w).dia = s.dia := rfl
@[simp] theorem setReg_pat (a : Nat) (w : Word) : (s.setReg a w).pat = s.pat := rfl
@[simp] theorem setReg_fen (a : Nat) (w : Word) : (s.setReg a w).fen = s.fen := rfl
@[simp] theorem setReg_cel (a : Nat) (w : Word) : (s.setReg a w).cel = s.cel := rfl
@[simp] theorem setReg_hb (a : Nat) (w : Word) : (s.setReg a w).hb = s.hb := rfl
@[simp] theorem setReg_saf (a : Nat) (w : Word) : (s.setReg a w).saf = s.saf := rfl
@[simp] theorem setReg_thm (a : Nat) (w : Word) : (s.setReg a w).thm = s.thm := rfl
@[simp] theorem setReg_cvu (a : Nat) (w : Word) : (s.setReg a w).cvu = s.cvu := rfl
@[simp] theorem setReg_cal (a : Nat) (w : Word) : (s.setReg a w).cal = s.cal := rfl
@[simp] theorem setReg_fw (a : Nat) (w : Word) : (s.setReg a w).fw = s.fw := rfl
@[simp] theorem setReg_fuse (a : Nat) (w : Word) : (s.setReg a w).fuse = s.fuse := rfl
@[simp] theorem setReg_dbg (a : Nat) (w : Word) : (s.setReg a w).dbg = s.dbg := rfl
@[simp] theorem setReg_arc (a : Nat) (w : Word) : (s.setReg a w).arc = s.arc := rfl

/-! `State.putC` -/

@[simp] theorem putC_pending (a r : Nat) (w : Word) : (s.putC a r w).pending = s.pending := rfl
@[simp] theorem putC_out (a r : Nat) (w : Word) : (s.putC a r w).out = s.out := rfl
@[simp] theorem putC_free (a r : Nat) (w : Word) : (s.putC a r w).free = s.free := rfl
@[simp] theorem putC_regs (a r : Nat) (w : Word) : (s.putC a r w).regs = s.regs := rfl
@[simp] theorem putC_act (a r : Nat) (w : Word) : (s.putC a r w).act = s.act := rfl
@[simp] theorem putC_evt (a r : Nat) (w : Word) : (s.putC a r w).evt = s.evt := rfl
@[simp] theorem putC_rgs (a r : Nat) (w : Word) : (s.putC a r w).rgs = s.rgs := rfl
@[simp] theorem putC_hnd (a r : Nat) (w : Word) : (s.putC a r w).hnd = s.hnd := rfl
@[simp] theorem putC_aon (a r : Nat) (w : Word) : (s.putC a r w).aon = s.aon := rfl
@[simp] theorem putC_pwr (a r : Nat) (w : Word) : (s.putC a r w).pwr = s.pwr := rfl
@[simp] theorem putC_acc (a r : Nat) (w : Word) : (s.putC a r w).acc = s.acc := rfl
@[simp] theorem putC_port (a r : Nat) (w : Word) : (s.putC a r w).port = s.port := rfl
@[simp] theorem putC_ctx (a r : Nat) (w : Word) : (s.putC a r w).ctx = s.ctx := rfl
@[simp] theorem putC_cur (a r : Nat) (w : Word) : (s.putC a r w).cur = s.cur := rfl
@[simp] theorem putC_layer (a r : Nat) (w : Word) : (s.putC a r w).layer = s.layer := rfl
@[simp] theorem putC_layComp (a r : Nat) (w : Word) : (s.putC a r w).layComp = s.layComp := rfl
@[simp] theorem putC_layEnd (a r : Nat) (w : Word) : (s.putC a r w).layEnd = s.layEnd := rfl
@[simp] theorem putC_pix (a r : Nat) (w : Word) : (s.putC a r w).pix = s.pix := rfl
@[simp] theorem putC_scn (a r : Nat) (w : Word) : (s.putC a r w).scn = s.scn := rfl
@[simp] theorem putC_cmt (a r : Nat) (w : Word) : (s.putC a r w).cmt = s.cmt := rfl
@[simp] theorem putC_cch (a r : Nat) (w : Word) : (s.putC a r w).cch = s.cch := rfl
@[simp] theorem putC_dia (a r : Nat) (w : Word) : (s.putC a r w).dia = s.dia := rfl
@[simp] theorem putC_pat (a r : Nat) (w : Word) : (s.putC a r w).pat = s.pat := rfl
@[simp] theorem putC_fen (a r : Nat) (w : Word) : (s.putC a r w).fen = s.fen := rfl
@[simp] theorem putC_cel (a r : Nat) (w : Word) : (s.putC a r w).cel = s.cel := rfl
@[simp] theorem putC_hb (a r : Nat) (w : Word) : (s.putC a r w).hb = s.hb := rfl
@[simp] theorem putC_saf (a r : Nat) (w : Word) : (s.putC a r w).saf = s.saf := rfl
@[simp] theorem putC_thm (a r : Nat) (w : Word) : (s.putC a r w).thm = s.thm := rfl
@[simp] theorem putC_cvu (a r : Nat) (w : Word) : (s.putC a r w).cvu = s.cvu := rfl
@[simp] theorem putC_cal (a r : Nat) (w : Word) : (s.putC a r w).cal = s.cal := rfl
@[simp] theorem putC_fw (a r : Nat) (w : Word) : (s.putC a r w).fw = s.fw := rfl
@[simp] theorem putC_fuse (a r : Nat) (w : Word) : (s.putC a r w).fuse = s.fuse := rfl
@[simp] theorem putC_dbg (a r : Nat) (w : Word) : (s.putC a r w).dbg = s.dbg := rfl
@[simp] theorem putC_arc (a r : Nat) (w : Word) : (s.putC a r w).arc = s.arc := rfl

/-! `State.setC1` -/

@[simp] theorem setC1_pending (a r m : Nat) : (s.setC1 a r m).pending = s.pending := rfl
@[simp] theorem setC1_out (a r m : Nat) : (s.setC1 a r m).out = s.out := rfl
@[simp] theorem setC1_free (a r m : Nat) : (s.setC1 a r m).free = s.free := rfl
@[simp] theorem setC1_regs (a r m : Nat) : (s.setC1 a r m).regs = s.regs := rfl
@[simp] theorem setC1_act (a r m : Nat) : (s.setC1 a r m).act = s.act := rfl
@[simp] theorem setC1_evt (a r m : Nat) : (s.setC1 a r m).evt = s.evt := rfl
@[simp] theorem setC1_rgs (a r m : Nat) : (s.setC1 a r m).rgs = s.rgs := rfl
@[simp] theorem setC1_hnd (a r m : Nat) : (s.setC1 a r m).hnd = s.hnd := rfl
@[simp] theorem setC1_aon (a r m : Nat) : (s.setC1 a r m).aon = s.aon := rfl
@[simp] theorem setC1_pwr (a r m : Nat) : (s.setC1 a r m).pwr = s.pwr := rfl
@[simp] theorem setC1_acc (a r m : Nat) : (s.setC1 a r m).acc = s.acc := rfl
@[simp] theorem setC1_port (a r m : Nat) : (s.setC1 a r m).port = s.port := rfl
@[simp] theorem setC1_ctx (a r m : Nat) : (s.setC1 a r m).ctx = s.ctx := rfl
@[simp] theorem setC1_cur (a r m : Nat) : (s.setC1 a r m).cur = s.cur := rfl
@[simp] theorem setC1_layer (a r m : Nat) : (s.setC1 a r m).layer = s.layer := rfl
@[simp] theorem setC1_layComp (a r m : Nat) : (s.setC1 a r m).layComp = s.layComp := rfl
@[simp] theorem setC1_layEnd (a r m : Nat) : (s.setC1 a r m).layEnd = s.layEnd := rfl
@[simp] theorem setC1_pix (a r m : Nat) : (s.setC1 a r m).pix = s.pix := rfl
@[simp] theorem setC1_scn (a r m : Nat) : (s.setC1 a r m).scn = s.scn := rfl
@[simp] theorem setC1_cmt (a r m : Nat) : (s.setC1 a r m).cmt = s.cmt := rfl
@[simp] theorem setC1_cch (a r m : Nat) : (s.setC1 a r m).cch = s.cch := rfl
@[simp] theorem setC1_dia (a r m : Nat) : (s.setC1 a r m).dia = s.dia := rfl
@[simp] theorem setC1_pat (a r m : Nat) : (s.setC1 a r m).pat = s.pat := rfl
@[simp] theorem setC1_fen (a r m : Nat) : (s.setC1 a r m).fen = s.fen := rfl
@[simp] theorem setC1_cel (a r m : Nat) : (s.setC1 a r m).cel = s.cel := rfl
@[simp] theorem setC1_hb (a r m : Nat) : (s.setC1 a r m).hb = s.hb := rfl
@[simp] theorem setC1_saf (a r m : Nat) : (s.setC1 a r m).saf = s.saf := rfl
@[simp] theorem setC1_thm (a r m : Nat) : (s.setC1 a r m).thm = s.thm := rfl
@[simp] theorem setC1_cvu (a r m : Nat) : (s.setC1 a r m).cvu = s.cvu := rfl
@[simp] theorem setC1_cal (a r m : Nat) : (s.setC1 a r m).cal = s.cal := rfl
@[simp] theorem setC1_fw (a r m : Nat) : (s.setC1 a r m).fw = s.fw := rfl
@[simp] theorem setC1_fuse (a r m : Nat) : (s.setC1 a r m).fuse = s.fuse := rfl
@[simp] theorem setC1_dbg (a r m : Nat) : (s.setC1 a r m).dbg = s.dbg := rfl
@[simp] theorem setC1_arc (a r m : Nat) : (s.setC1 a r m).arc = s.arc := rfl

/-! `State.setC` -/

@[simp] theorem setC_pending (a m : Nat) : (s.setC a m).pending = s.pending := rfl
@[simp] theorem setC_out (a m : Nat) : (s.setC a m).out = s.out := rfl
@[simp] theorem setC_free (a m : Nat) : (s.setC a m).free = s.free := rfl
@[simp] theorem setC_regs (a m : Nat) : (s.setC a m).regs = s.regs := rfl
@[simp] theorem setC_act (a m : Nat) : (s.setC a m).act = s.act := rfl
@[simp] theorem setC_evt (a m : Nat) : (s.setC a m).evt = s.evt := rfl
@[simp] theorem setC_rgs (a m : Nat) : (s.setC a m).rgs = s.rgs := rfl
@[simp] theorem setC_hnd (a m : Nat) : (s.setC a m).hnd = s.hnd := rfl
@[simp] theorem setC_aon (a m : Nat) : (s.setC a m).aon = s.aon := rfl
@[simp] theorem setC_pwr (a m : Nat) : (s.setC a m).pwr = s.pwr := rfl
@[simp] theorem setC_acc (a m : Nat) : (s.setC a m).acc = s.acc := rfl
@[simp] theorem setC_port (a m : Nat) : (s.setC a m).port = s.port := rfl
@[simp] theorem setC_ctx (a m : Nat) : (s.setC a m).ctx = s.ctx := rfl
@[simp] theorem setC_cur (a m : Nat) : (s.setC a m).cur = s.cur := rfl
@[simp] theorem setC_layer (a m : Nat) : (s.setC a m).layer = s.layer := rfl
@[simp] theorem setC_layComp (a m : Nat) : (s.setC a m).layComp = s.layComp := rfl
@[simp] theorem setC_layEnd (a m : Nat) : (s.setC a m).layEnd = s.layEnd := rfl
@[simp] theorem setC_pix (a m : Nat) : (s.setC a m).pix = s.pix := rfl
@[simp] theorem setC_scn (a m : Nat) : (s.setC a m).scn = s.scn := rfl
@[simp] theorem setC_cmt (a m : Nat) : (s.setC a m).cmt = s.cmt := rfl
@[simp] theorem setC_cch (a m : Nat) : (s.setC a m).cch = s.cch := rfl
@[simp] theorem setC_dia (a m : Nat) : (s.setC a m).dia = s.dia := rfl
@[simp] theorem setC_pat (a m : Nat) : (s.setC a m).pat = s.pat := rfl
@[simp] theorem setC_fen (a m : Nat) : (s.setC a m).fen = s.fen := rfl
@[simp] theorem setC_cel (a m : Nat) : (s.setC a m).cel = s.cel := rfl
@[simp] theorem setC_hb (a m : Nat) : (s.setC a m).hb = s.hb := rfl
@[simp] theorem setC_saf (a m : Nat) : (s.setC a m).saf = s.saf := rfl
@[simp] theorem setC_thm (a m : Nat) : (s.setC a m).thm = s.thm := rfl
@[simp] theorem setC_cvu (a m : Nat) : (s.setC a m).cvu = s.cvu := rfl
@[simp] theorem setC_cal (a m : Nat) : (s.setC a m).cal = s.cal := rfl
@[simp] theorem setC_fw (a m : Nat) : (s.setC a m).fw = s.fw := rfl
@[simp] theorem setC_fuse (a m : Nat) : (s.setC a m).fuse = s.fuse := rfl
@[simp] theorem setC_dbg (a m : Nat) : (s.setC a m).dbg = s.dbg := rfl
@[simp] theorem setC_arc (a m : Nat) : (s.setC a m).arc = s.arc := rfl

/-! `State.clearC1` -/

@[simp] theorem clearC1_pending (a r : Nat) (m : Word) : (s.clearC1 a r m).pending = s.pending := rfl
@[simp] theorem clearC1_out (a r : Nat) (m : Word) : (s.clearC1 a r m).out = s.out := rfl
@[simp] theorem clearC1_free (a r : Nat) (m : Word) : (s.clearC1 a r m).free = s.free := rfl
@[simp] theorem clearC1_regs (a r : Nat) (m : Word) : (s.clearC1 a r m).regs = s.regs := rfl
@[simp] theorem clearC1_act (a r : Nat) (m : Word) : (s.clearC1 a r m).act = s.act := rfl
@[simp] theorem clearC1_evt (a r : Nat) (m : Word) : (s.clearC1 a r m).evt = s.evt := rfl
@[simp] theorem clearC1_rgs (a r : Nat) (m : Word) : (s.clearC1 a r m).rgs = s.rgs := rfl
@[simp] theorem clearC1_hnd (a r : Nat) (m : Word) : (s.clearC1 a r m).hnd = s.hnd := rfl
@[simp] theorem clearC1_aon (a r : Nat) (m : Word) : (s.clearC1 a r m).aon = s.aon := rfl
@[simp] theorem clearC1_pwr (a r : Nat) (m : Word) : (s.clearC1 a r m).pwr = s.pwr := rfl
@[simp] theorem clearC1_acc (a r : Nat) (m : Word) : (s.clearC1 a r m).acc = s.acc := rfl
@[simp] theorem clearC1_port (a r : Nat) (m : Word) : (s.clearC1 a r m).port = s.port := rfl
@[simp] theorem clearC1_ctx (a r : Nat) (m : Word) : (s.clearC1 a r m).ctx = s.ctx := rfl
@[simp] theorem clearC1_cur (a r : Nat) (m : Word) : (s.clearC1 a r m).cur = s.cur := rfl
@[simp] theorem clearC1_layer (a r : Nat) (m : Word) : (s.clearC1 a r m).layer = s.layer := rfl
@[simp] theorem clearC1_layComp (a r : Nat) (m : Word) : (s.clearC1 a r m).layComp = s.layComp := rfl
@[simp] theorem clearC1_layEnd (a r : Nat) (m : Word) : (s.clearC1 a r m).layEnd = s.layEnd := rfl
@[simp] theorem clearC1_pix (a r : Nat) (m : Word) : (s.clearC1 a r m).pix = s.pix := rfl
@[simp] theorem clearC1_scn (a r : Nat) (m : Word) : (s.clearC1 a r m).scn = s.scn := rfl
@[simp] theorem clearC1_cmt (a r : Nat) (m : Word) : (s.clearC1 a r m).cmt = s.cmt := rfl
@[simp] theorem clearC1_cch (a r : Nat) (m : Word) : (s.clearC1 a r m).cch = s.cch := rfl
@[simp] theorem clearC1_dia (a r : Nat) (m : Word) : (s.clearC1 a r m).dia = s.dia := rfl
@[simp] theorem clearC1_pat (a r : Nat) (m : Word) : (s.clearC1 a r m).pat = s.pat := rfl
@[simp] theorem clearC1_fen (a r : Nat) (m : Word) : (s.clearC1 a r m).fen = s.fen := rfl
@[simp] theorem clearC1_cel (a r : Nat) (m : Word) : (s.clearC1 a r m).cel = s.cel := rfl
@[simp] theorem clearC1_hb (a r : Nat) (m : Word) : (s.clearC1 a r m).hb = s.hb := rfl
@[simp] theorem clearC1_saf (a r : Nat) (m : Word) : (s.clearC1 a r m).saf = s.saf := rfl
@[simp] theorem clearC1_thm (a r : Nat) (m : Word) : (s.clearC1 a r m).thm = s.thm := rfl
@[simp] theorem clearC1_cvu (a r : Nat) (m : Word) : (s.clearC1 a r m).cvu = s.cvu := rfl
@[simp] theorem clearC1_cal (a r : Nat) (m : Word) : (s.clearC1 a r m).cal = s.cal := rfl
@[simp] theorem clearC1_fw (a r : Nat) (m : Word) : (s.clearC1 a r m).fw = s.fw := rfl
@[simp] theorem clearC1_fuse (a r : Nat) (m : Word) : (s.clearC1 a r m).fuse = s.fuse := rfl
@[simp] theorem clearC1_dbg (a r : Nat) (m : Word) : (s.clearC1 a r m).dbg = s.dbg := rfl
@[simp] theorem clearC1_arc (a r : Nat) (m : Word) : (s.clearC1 a r m).arc = s.arc := rfl

/-! `State.raiseEv` -/

@[simp] theorem raiseEv_pending (c : Source) (e : Event) : (s.raiseEv c e).pending = s.pending := rfl
@[simp] theorem raiseEv_out (c : Source) (e : Event) : (s.raiseEv c e).out = s.out := rfl
@[simp] theorem raiseEv_free (c : Source) (e : Event) : (s.raiseEv c e).free = s.free := rfl
@[simp] theorem raiseEv_regs (c : Source) (e : Event) : (s.raiseEv c e).regs = s.regs := rfl
@[simp] theorem raiseEv_act (c : Source) (e : Event) : (s.raiseEv c e).act = s.act := rfl
@[simp] theorem raiseEv_cbits (c : Source) (e : Event) : (s.raiseEv c e).cbits = s.cbits := rfl
@[simp] theorem raiseEv_rgs (c : Source) (e : Event) : (s.raiseEv c e).rgs = s.rgs := rfl
@[simp] theorem raiseEv_hnd (c : Source) (e : Event) : (s.raiseEv c e).hnd = s.hnd := rfl
@[simp] theorem raiseEv_aon (c : Source) (e : Event) : (s.raiseEv c e).aon = s.aon := rfl
@[simp] theorem raiseEv_pwr (c : Source) (e : Event) : (s.raiseEv c e).pwr = s.pwr := rfl
@[simp] theorem raiseEv_acc (c : Source) (e : Event) : (s.raiseEv c e).acc = s.acc := rfl
@[simp] theorem raiseEv_port (c : Source) (e : Event) : (s.raiseEv c e).port = s.port := rfl
@[simp] theorem raiseEv_ctx (c : Source) (e : Event) : (s.raiseEv c e).ctx = s.ctx := rfl
@[simp] theorem raiseEv_cur (c : Source) (e : Event) : (s.raiseEv c e).cur = s.cur := rfl
@[simp] theorem raiseEv_layer (c : Source) (e : Event) : (s.raiseEv c e).layer = s.layer := rfl
@[simp] theorem raiseEv_layComp (c : Source) (e : Event) : (s.raiseEv c e).layComp = s.layComp := rfl
@[simp] theorem raiseEv_layEnd (c : Source) (e : Event) : (s.raiseEv c e).layEnd = s.layEnd := rfl
@[simp] theorem raiseEv_pix (c : Source) (e : Event) : (s.raiseEv c e).pix = s.pix := rfl
@[simp] theorem raiseEv_scn (c : Source) (e : Event) : (s.raiseEv c e).scn = s.scn := rfl
@[simp] theorem raiseEv_cmt (c : Source) (e : Event) : (s.raiseEv c e).cmt = s.cmt := rfl
@[simp] theorem raiseEv_cch (c : Source) (e : Event) : (s.raiseEv c e).cch = s.cch := rfl
@[simp] theorem raiseEv_dia (c : Source) (e : Event) : (s.raiseEv c e).dia = s.dia := rfl
@[simp] theorem raiseEv_pat (c : Source) (e : Event) : (s.raiseEv c e).pat = s.pat := rfl
@[simp] theorem raiseEv_fen (c : Source) (e : Event) : (s.raiseEv c e).fen = s.fen := rfl
@[simp] theorem raiseEv_cel (c : Source) (e : Event) : (s.raiseEv c e).cel = s.cel := rfl
@[simp] theorem raiseEv_hb (c : Source) (e : Event) : (s.raiseEv c e).hb = s.hb := rfl
@[simp] theorem raiseEv_saf (c : Source) (e : Event) : (s.raiseEv c e).saf = s.saf := rfl
@[simp] theorem raiseEv_thm (c : Source) (e : Event) : (s.raiseEv c e).thm = s.thm := rfl
@[simp] theorem raiseEv_cvu (c : Source) (e : Event) : (s.raiseEv c e).cvu = s.cvu := rfl
@[simp] theorem raiseEv_cal (c : Source) (e : Event) : (s.raiseEv c e).cal = s.cal := rfl
@[simp] theorem raiseEv_fw (c : Source) (e : Event) : (s.raiseEv c e).fw = s.fw := rfl
@[simp] theorem raiseEv_fuse (c : Source) (e : Event) : (s.raiseEv c e).fuse = s.fuse := rfl
@[simp] theorem raiseEv_dbg (c : Source) (e : Event) : (s.raiseEv c e).dbg = s.dbg := rfl
@[simp] theorem raiseEv_arc (c : Source) (e : Event) : (s.raiseEv c e).arc = s.arc := rfl

/-! `State.raise` -/

@[simp] theorem raise_pending (c : Source) (k : EvKind) (i d e f : Nat) : (s.raise c k i d e f).pending = s.pending := rfl
@[simp] theorem raise_out (c : Source) (k : EvKind) (i d e f : Nat) : (s.raise c k i d e f).out = s.out := rfl
@[simp] theorem raise_free (c : Source) (k : EvKind) (i d e f : Nat) : (s.raise c k i d e f).free = s.free := rfl
@[simp] theorem raise_regs (c : Source) (k : EvKind) (i d e f : Nat) : (s.raise c k i d e f).regs = s.regs := rfl
@[simp] theorem raise_act (c : Source) (k : EvKind) (i d e f : Nat) : (s.raise c k i d e f).act = s.act := rfl
@[simp] theorem raise_cbits (c : Source) (k : EvKind) (i d e f : Nat) : (s.raise c k i d e f).cbits = s.cbits := rfl
@[simp] theorem raise_rgs (c : Source) (k : EvKind) (i d e f : Nat) : (s.raise c k i d e f).rgs = s.rgs := rfl
@[simp] theorem raise_hnd (c : Source) (k : EvKind) (i d e f : Nat) : (s.raise c k i d e f).hnd = s.hnd := rfl
@[simp] theorem raise_aon (c : Source) (k : EvKind) (i d e f : Nat) : (s.raise c k i d e f).aon = s.aon := rfl
@[simp] theorem raise_pwr (c : Source) (k : EvKind) (i d e f : Nat) : (s.raise c k i d e f).pwr = s.pwr := rfl
@[simp] theorem raise_acc (c : Source) (k : EvKind) (i d e f : Nat) : (s.raise c k i d e f).acc = s.acc := rfl
@[simp] theorem raise_port (c : Source) (k : EvKind) (i d e f : Nat) : (s.raise c k i d e f).port = s.port := rfl
@[simp] theorem raise_ctx (c : Source) (k : EvKind) (i d e f : Nat) : (s.raise c k i d e f).ctx = s.ctx := rfl
@[simp] theorem raise_cur (c : Source) (k : EvKind) (i d e f : Nat) : (s.raise c k i d e f).cur = s.cur := rfl
@[simp] theorem raise_layer (c : Source) (k : EvKind) (i d e f : Nat) : (s.raise c k i d e f).layer = s.layer := rfl
@[simp] theorem raise_layComp (c : Source) (k : EvKind) (i d e f : Nat) : (s.raise c k i d e f).layComp = s.layComp := rfl
@[simp] theorem raise_layEnd (c : Source) (k : EvKind) (i d e f : Nat) : (s.raise c k i d e f).layEnd = s.layEnd := rfl
@[simp] theorem raise_pix (c : Source) (k : EvKind) (i d e f : Nat) : (s.raise c k i d e f).pix = s.pix := rfl
@[simp] theorem raise_scn (c : Source) (k : EvKind) (i d e f : Nat) : (s.raise c k i d e f).scn = s.scn := rfl
@[simp] theorem raise_cmt (c : Source) (k : EvKind) (i d e f : Nat) : (s.raise c k i d e f).cmt = s.cmt := rfl
@[simp] theorem raise_cch (c : Source) (k : EvKind) (i d e f : Nat) : (s.raise c k i d e f).cch = s.cch := rfl
@[simp] theorem raise_dia (c : Source) (k : EvKind) (i d e f : Nat) : (s.raise c k i d e f).dia = s.dia := rfl
@[simp] theorem raise_pat (c : Source) (k : EvKind) (i d e f : Nat) : (s.raise c k i d e f).pat = s.pat := rfl
@[simp] theorem raise_fen (c : Source) (k : EvKind) (i d e f : Nat) : (s.raise c k i d e f).fen = s.fen := rfl
@[simp] theorem raise_cel (c : Source) (k : EvKind) (i d e f : Nat) : (s.raise c k i d e f).cel = s.cel := rfl
@[simp] theorem raise_hb (c : Source) (k : EvKind) (i d e f : Nat) : (s.raise c k i d e f).hb = s.hb := rfl
@[simp] theorem raise_saf (c : Source) (k : EvKind) (i d e f : Nat) : (s.raise c k i d e f).saf = s.saf := rfl
@[simp] theorem raise_thm (c : Source) (k : EvKind) (i d e f : Nat) : (s.raise c k i d e f).thm = s.thm := rfl
@[simp] theorem raise_cvu (c : Source) (k : EvKind) (i d e f : Nat) : (s.raise c k i d e f).cvu = s.cvu := rfl
@[simp] theorem raise_cal (c : Source) (k : EvKind) (i d e f : Nat) : (s.raise c k i d e f).cal = s.cal := rfl
@[simp] theorem raise_fw (c : Source) (k : EvKind) (i d e f : Nat) : (s.raise c k i d e f).fw = s.fw := rfl
@[simp] theorem raise_fuse (c : Source) (k : EvKind) (i d e f : Nat) : (s.raise c k i d e f).fuse = s.fuse := rfl
@[simp] theorem raise_dbg (c : Source) (k : EvKind) (i d e f : Nat) : (s.raise c k i d e f).dbg = s.dbg := rfl
@[simp] theorem raise_arc (c : Source) (k : EvKind) (i d e f : Nat) : (s.raise c k i d e f).arc = s.arc := rfl

/-! `State.raiseTo` -/

@[simp] theorem raiseTo_pending (n : Nat) (c : Source) (k : EvKind) (i d e f : Nat) : (s.raiseTo n c k i d e f).pending = s.pending := rfl
@[simp] theorem raiseTo_out (n : Nat) (c : Source) (k : EvKind) (i d e f : Nat) : (s.raiseTo n c k i d e f).out = s.out := rfl
@[simp] theorem raiseTo_free (n : Nat) (c : Source) (k : EvKind) (i d e f : Nat) : (s.raiseTo n c k i d e f).free = s.free := rfl
@[simp] theorem raiseTo_regs (n : Nat) (c : Source) (k : EvKind) (i d e f : Nat) : (s.raiseTo n c k i d e f).regs = s.regs := rfl
@[simp] theorem raiseTo_act (n : Nat) (c : Source) (k : EvKind) (i d e f : Nat) : (s.raiseTo n c k i d e f).act = s.act := rfl
@[simp] theorem raiseTo_cbits (n : Nat) (c : Source) (k : EvKind) (i d e f : Nat) : (s.raiseTo n c k i d e f).cbits = s.cbits := rfl
@[simp] theorem raiseTo_rgs (n : Nat) (c : Source) (k : EvKind) (i d e f : Nat) : (s.raiseTo n c k i d e f).rgs = s.rgs := rfl
@[simp] theorem raiseTo_hnd (n : Nat) (c : Source) (k : EvKind) (i d e f : Nat) : (s.raiseTo n c k i d e f).hnd = s.hnd := rfl
@[simp] theorem raiseTo_aon (n : Nat) (c : Source) (k : EvKind) (i d e f : Nat) : (s.raiseTo n c k i d e f).aon = s.aon := rfl
@[simp] theorem raiseTo_pwr (n : Nat) (c : Source) (k : EvKind) (i d e f : Nat) : (s.raiseTo n c k i d e f).pwr = s.pwr := rfl
@[simp] theorem raiseTo_acc (n : Nat) (c : Source) (k : EvKind) (i d e f : Nat) : (s.raiseTo n c k i d e f).acc = s.acc := rfl
@[simp] theorem raiseTo_port (n : Nat) (c : Source) (k : EvKind) (i d e f : Nat) : (s.raiseTo n c k i d e f).port = s.port := rfl
@[simp] theorem raiseTo_ctx (n : Nat) (c : Source) (k : EvKind) (i d e f : Nat) : (s.raiseTo n c k i d e f).ctx = s.ctx := rfl
@[simp] theorem raiseTo_cur (n : Nat) (c : Source) (k : EvKind) (i d e f : Nat) : (s.raiseTo n c k i d e f).cur = s.cur := rfl
@[simp] theorem raiseTo_layer (n : Nat) (c : Source) (k : EvKind) (i d e f : Nat) : (s.raiseTo n c k i d e f).layer = s.layer := rfl
@[simp] theorem raiseTo_layComp (n : Nat) (c : Source) (k : EvKind) (i d e f : Nat) : (s.raiseTo n c k i d e f).layComp = s.layComp := rfl
@[simp] theorem raiseTo_layEnd (n : Nat) (c : Source) (k : EvKind) (i d e f : Nat) : (s.raiseTo n c k i d e f).layEnd = s.layEnd := rfl
@[simp] theorem raiseTo_pix (n : Nat) (c : Source) (k : EvKind) (i d e f : Nat) : (s.raiseTo n c k i d e f).pix = s.pix := rfl
@[simp] theorem raiseTo_scn (n : Nat) (c : Source) (k : EvKind) (i d e f : Nat) : (s.raiseTo n c k i d e f).scn = s.scn := rfl
@[simp] theorem raiseTo_cmt (n : Nat) (c : Source) (k : EvKind) (i d e f : Nat) : (s.raiseTo n c k i d e f).cmt = s.cmt := rfl
@[simp] theorem raiseTo_cch (n : Nat) (c : Source) (k : EvKind) (i d e f : Nat) : (s.raiseTo n c k i d e f).cch = s.cch := rfl
@[simp] theorem raiseTo_dia (n : Nat) (c : Source) (k : EvKind) (i d e f : Nat) : (s.raiseTo n c k i d e f).dia = s.dia := rfl
@[simp] theorem raiseTo_pat (n : Nat) (c : Source) (k : EvKind) (i d e f : Nat) : (s.raiseTo n c k i d e f).pat = s.pat := rfl
@[simp] theorem raiseTo_fen (n : Nat) (c : Source) (k : EvKind) (i d e f : Nat) : (s.raiseTo n c k i d e f).fen = s.fen := rfl
@[simp] theorem raiseTo_cel (n : Nat) (c : Source) (k : EvKind) (i d e f : Nat) : (s.raiseTo n c k i d e f).cel = s.cel := rfl
@[simp] theorem raiseTo_hb (n : Nat) (c : Source) (k : EvKind) (i d e f : Nat) : (s.raiseTo n c k i d e f).hb = s.hb := rfl
@[simp] theorem raiseTo_saf (n : Nat) (c : Source) (k : EvKind) (i d e f : Nat) : (s.raiseTo n c k i d e f).saf = s.saf := rfl
@[simp] theorem raiseTo_thm (n : Nat) (c : Source) (k : EvKind) (i d e f : Nat) : (s.raiseTo n c k i d e f).thm = s.thm := rfl
@[simp] theorem raiseTo_cvu (n : Nat) (c : Source) (k : EvKind) (i d e f : Nat) : (s.raiseTo n c k i d e f).cvu = s.cvu := rfl
@[simp] theorem raiseTo_cal (n : Nat) (c : Source) (k : EvKind) (i d e f : Nat) : (s.raiseTo n c k i d e f).cal = s.cal := rfl
@[simp] theorem raiseTo_fw (n : Nat) (c : Source) (k : EvKind) (i d e f : Nat) : (s.raiseTo n c k i d e f).fw = s.fw := rfl
@[simp] theorem raiseTo_fuse (n : Nat) (c : Source) (k : EvKind) (i d e f : Nat) : (s.raiseTo n c k i d e f).fuse = s.fuse := rfl
@[simp] theorem raiseTo_dbg (n : Nat) (c : Source) (k : EvKind) (i d e f : Nat) : (s.raiseTo n c k i d e f).dbg = s.dbg := rfl
@[simp] theorem raiseTo_arc (n : Nat) (c : Source) (k : EvKind) (i d e f : Nat) : (s.raiseTo n c k i d e f).arc = s.arc := rfl

/-! `State.emit` -/

@[simp] theorem emit_pending (o : Output) : (s.emit o).pending = s.pending := rfl
@[simp] theorem emit_free (o : Output) : (s.emit o).free = s.free := rfl
@[simp] theorem emit_regs (o : Output) : (s.emit o).regs = s.regs := rfl
@[simp] theorem emit_act (o : Output) : (s.emit o).act = s.act := rfl
@[simp] theorem emit_cbits (o : Output) : (s.emit o).cbits = s.cbits := rfl
@[simp] theorem emit_evt (o : Output) : (s.emit o).evt = s.evt := rfl
@[simp] theorem emit_rgs (o : Output) : (s.emit o).rgs = s.rgs := rfl
@[simp] theorem emit_hnd (o : Output) : (s.emit o).hnd = s.hnd := rfl
@[simp] theorem emit_aon (o : Output) : (s.emit o).aon = s.aon := rfl
@[simp] theorem emit_pwr (o : Output) : (s.emit o).pwr = s.pwr := rfl
@[simp] theorem emit_acc (o : Output) : (s.emit o).acc = s.acc := rfl
@[simp] theorem emit_port (o : Output) : (s.emit o).port = s.port := rfl
@[simp] theorem emit_ctx (o : Output) : (s.emit o).ctx = s.ctx := rfl
@[simp] theorem emit_cur (o : Output) : (s.emit o).cur = s.cur := rfl
@[simp] theorem emit_layer (o : Output) : (s.emit o).layer = s.layer := rfl
@[simp] theorem emit_layComp (o : Output) : (s.emit o).layComp = s.layComp := rfl
@[simp] theorem emit_layEnd (o : Output) : (s.emit o).layEnd = s.layEnd := rfl
@[simp] theorem emit_pix (o : Output) : (s.emit o).pix = s.pix := rfl
@[simp] theorem emit_scn (o : Output) : (s.emit o).scn = s.scn := rfl
@[simp] theorem emit_cmt (o : Output) : (s.emit o).cmt = s.cmt := rfl
@[simp] theorem emit_cch (o : Output) : (s.emit o).cch = s.cch := rfl
@[simp] theorem emit_dia (o : Output) : (s.emit o).dia = s.dia := rfl
@[simp] theorem emit_pat (o : Output) : (s.emit o).pat = s.pat := rfl
@[simp] theorem emit_fen (o : Output) : (s.emit o).fen = s.fen := rfl
@[simp] theorem emit_cel (o : Output) : (s.emit o).cel = s.cel := rfl
@[simp] theorem emit_hb (o : Output) : (s.emit o).hb = s.hb := rfl
@[simp] theorem emit_saf (o : Output) : (s.emit o).saf = s.saf := rfl
@[simp] theorem emit_thm (o : Output) : (s.emit o).thm = s.thm := rfl
@[simp] theorem emit_cvu (o : Output) : (s.emit o).cvu = s.cvu := rfl
@[simp] theorem emit_cal (o : Output) : (s.emit o).cal = s.cal := rfl
@[simp] theorem emit_fw (o : Output) : (s.emit o).fw = s.fw := rfl
@[simp] theorem emit_fuse (o : Output) : (s.emit o).fuse = s.fuse := rfl
@[simp] theorem emit_dbg (o : Output) : (s.emit o).dbg = s.dbg := rfl
@[simp] theorem emit_arc (o : Output) : (s.emit o).arc = s.arc := rfl

/-! `State.emits` -/

@[simp] theorem emits_pending (o : List Output) : (s.emits o).pending = s.pending := rfl
@[simp] theorem emits_free (o : List Output) : (s.emits o).free = s.free := rfl
@[simp] theorem emits_regs (o : List Output) : (s.emits o).regs = s.regs := rfl
@[simp] theorem emits_act (o : List Output) : (s.emits o).act = s.act := rfl
@[simp] theorem emits_cbits (o : List Output) : (s.emits o).cbits = s.cbits := rfl
@[simp] theorem emits_evt (o : List Output) : (s.emits o).evt = s.evt := rfl
@[simp] theorem emits_rgs (o : List Output) : (s.emits o).rgs = s.rgs := rfl
@[simp] theorem emits_hnd (o : List Output) : (s.emits o).hnd = s.hnd := rfl
@[simp] theorem emits_aon (o : List Output) : (s.emits o).aon = s.aon := rfl
@[simp] theorem emits_pwr (o : List Output) : (s.emits o).pwr = s.pwr := rfl
@[simp] theorem emits_acc (o : List Output) : (s.emits o).acc = s.acc := rfl
@[simp] theorem emits_port (o : List Output) : (s.emits o).port = s.port := rfl
@[simp] theorem emits_ctx (o : List Output) : (s.emits o).ctx = s.ctx := rfl
@[simp] theorem emits_cur (o : List Output) : (s.emits o).cur = s.cur := rfl
@[simp] theorem emits_layer (o : List Output) : (s.emits o).layer = s.layer := rfl
@[simp] theorem emits_layComp (o : List Output) : (s.emits o).layComp = s.layComp := rfl
@[simp] theorem emits_layEnd (o : List Output) : (s.emits o).layEnd = s.layEnd := rfl
@[simp] theorem emits_pix (o : List Output) : (s.emits o).pix = s.pix := rfl
@[simp] theorem emits_scn (o : List Output) : (s.emits o).scn = s.scn := rfl
@[simp] theorem emits_cmt (o : List Output) : (s.emits o).cmt = s.cmt := rfl
@[simp] theorem emits_cch (o : List Output) : (s.emits o).cch = s.cch := rfl
@[simp] theorem emits_dia (o : List Output) : (s.emits o).dia = s.dia := rfl
@[simp] theorem emits_pat (o : List Output) : (s.emits o).pat = s.pat := rfl
@[simp] theorem emits_fen (o : List Output) : (s.emits o).fen = s.fen := rfl
@[simp] theorem emits_cel (o : List Output) : (s.emits o).cel = s.cel := rfl
@[simp] theorem emits_hb (o : List Output) : (s.emits o).hb = s.hb := rfl
@[simp] theorem emits_saf (o : List Output) : (s.emits o).saf = s.saf := rfl
@[simp] theorem emits_thm (o : List Output) : (s.emits o).thm = s.thm := rfl
@[simp] theorem emits_cvu (o : List Output) : (s.emits o).cvu = s.cvu := rfl
@[simp] theorem emits_cal (o : List Output) : (s.emits o).cal = s.cal := rfl
@[simp] theorem emits_fw (o : List Output) : (s.emits o).fw = s.fw := rfl
@[simp] theorem emits_fuse (o : List Output) : (s.emits o).fuse = s.fuse := rfl
@[simp] theorem emits_dbg (o : List Output) : (s.emits o).dbg = s.dbg := rfl
@[simp] theorem emits_arc (o : List Output) : (s.emits o).arc = s.arc := rfl

/-! `State.modPort` -/

@[simp] theorem modPort_pending (p : Nat) (f : PortState → PortState) : (s.modPort p f).pending = s.pending := rfl
@[simp] theorem modPort_out (p : Nat) (f : PortState → PortState) : (s.modPort p f).out = s.out := rfl
@[simp] theorem modPort_free (p : Nat) (f : PortState → PortState) : (s.modPort p f).free = s.free := rfl
@[simp] theorem modPort_regs (p : Nat) (f : PortState → PortState) : (s.modPort p f).regs = s.regs := rfl
@[simp] theorem modPort_act (p : Nat) (f : PortState → PortState) : (s.modPort p f).act = s.act := rfl
@[simp] theorem modPort_cbits (p : Nat) (f : PortState → PortState) : (s.modPort p f).cbits = s.cbits := rfl
@[simp] theorem modPort_evt (p : Nat) (f : PortState → PortState) : (s.modPort p f).evt = s.evt := rfl
@[simp] theorem modPort_rgs (p : Nat) (f : PortState → PortState) : (s.modPort p f).rgs = s.rgs := rfl
@[simp] theorem modPort_hnd (p : Nat) (f : PortState → PortState) : (s.modPort p f).hnd = s.hnd := rfl
@[simp] theorem modPort_aon (p : Nat) (f : PortState → PortState) : (s.modPort p f).aon = s.aon := rfl
@[simp] theorem modPort_pwr (p : Nat) (f : PortState → PortState) : (s.modPort p f).pwr = s.pwr := rfl
@[simp] theorem modPort_acc (p : Nat) (f : PortState → PortState) : (s.modPort p f).acc = s.acc := rfl
@[simp] theorem modPort_ctx (p : Nat) (f : PortState → PortState) : (s.modPort p f).ctx = s.ctx := rfl
@[simp] theorem modPort_cur (p : Nat) (f : PortState → PortState) : (s.modPort p f).cur = s.cur := rfl
@[simp] theorem modPort_layer (p : Nat) (f : PortState → PortState) : (s.modPort p f).layer = s.layer := rfl
@[simp] theorem modPort_layComp (p : Nat) (f : PortState → PortState) : (s.modPort p f).layComp = s.layComp := rfl
@[simp] theorem modPort_layEnd (p : Nat) (f : PortState → PortState) : (s.modPort p f).layEnd = s.layEnd := rfl
@[simp] theorem modPort_pix (p : Nat) (f : PortState → PortState) : (s.modPort p f).pix = s.pix := rfl
@[simp] theorem modPort_scn (p : Nat) (f : PortState → PortState) : (s.modPort p f).scn = s.scn := rfl
@[simp] theorem modPort_cmt (p : Nat) (f : PortState → PortState) : (s.modPort p f).cmt = s.cmt := rfl
@[simp] theorem modPort_cch (p : Nat) (f : PortState → PortState) : (s.modPort p f).cch = s.cch := rfl
@[simp] theorem modPort_dia (p : Nat) (f : PortState → PortState) : (s.modPort p f).dia = s.dia := rfl
@[simp] theorem modPort_pat (p : Nat) (f : PortState → PortState) : (s.modPort p f).pat = s.pat := rfl
@[simp] theorem modPort_fen (p : Nat) (f : PortState → PortState) : (s.modPort p f).fen = s.fen := rfl
@[simp] theorem modPort_cel (p : Nat) (f : PortState → PortState) : (s.modPort p f).cel = s.cel := rfl
@[simp] theorem modPort_hb (p : Nat) (f : PortState → PortState) : (s.modPort p f).hb = s.hb := rfl
@[simp] theorem modPort_saf (p : Nat) (f : PortState → PortState) : (s.modPort p f).saf = s.saf := rfl
@[simp] theorem modPort_thm (p : Nat) (f : PortState → PortState) : (s.modPort p f).thm = s.thm := rfl
@[simp] theorem modPort_cvu (p : Nat) (f : PortState → PortState) : (s.modPort p f).cvu = s.cvu := rfl
@[simp] theorem modPort_cal (p : Nat) (f : PortState → PortState) : (s.modPort p f).cal = s.cal := rfl
@[simp] theorem modPort_fw (p : Nat) (f : PortState → PortState) : (s.modPort p f).fw = s.fw := rfl
@[simp] theorem modPort_fuse (p : Nat) (f : PortState → PortState) : (s.modPort p f).fuse = s.fuse := rfl
@[simp] theorem modPort_dbg (p : Nat) (f : PortState → PortState) : (s.modPort p f).dbg = s.dbg := rfl
@[simp] theorem modPort_arc (p : Nat) (f : PortState → PortState) : (s.modPort p f).arc = s.arc := rfl

/-! `State.modLane` -/

@[simp] theorem modLane_pending (p l : Nat) (f : LaneState → LaneState) : (s.modLane p l f).pending = s.pending := rfl
@[simp] theorem modLane_out (p l : Nat) (f : LaneState → LaneState) : (s.modLane p l f).out = s.out := rfl
@[simp] theorem modLane_free (p l : Nat) (f : LaneState → LaneState) : (s.modLane p l f).free = s.free := rfl
@[simp] theorem modLane_regs (p l : Nat) (f : LaneState → LaneState) : (s.modLane p l f).regs = s.regs := rfl
@[simp] theorem modLane_act (p l : Nat) (f : LaneState → LaneState) : (s.modLane p l f).act = s.act := rfl
@[simp] theorem modLane_cbits (p l : Nat) (f : LaneState → LaneState) : (s.modLane p l f).cbits = s.cbits := rfl
@[simp] theorem modLane_evt (p l : Nat) (f : LaneState → LaneState) : (s.modLane p l f).evt = s.evt := rfl
@[simp] theorem modLane_rgs (p l : Nat) (f : LaneState → LaneState) : (s.modLane p l f).rgs = s.rgs := rfl
@[simp] theorem modLane_hnd (p l : Nat) (f : LaneState → LaneState) : (s.modLane p l f).hnd = s.hnd := rfl
@[simp] theorem modLane_aon (p l : Nat) (f : LaneState → LaneState) : (s.modLane p l f).aon = s.aon := rfl
@[simp] theorem modLane_pwr (p l : Nat) (f : LaneState → LaneState) : (s.modLane p l f).pwr = s.pwr := rfl
@[simp] theorem modLane_acc (p l : Nat) (f : LaneState → LaneState) : (s.modLane p l f).acc = s.acc := rfl
@[simp] theorem modLane_ctx (p l : Nat) (f : LaneState → LaneState) : (s.modLane p l f).ctx = s.ctx := rfl
@[simp] theorem modLane_cur (p l : Nat) (f : LaneState → LaneState) : (s.modLane p l f).cur = s.cur := rfl
@[simp] theorem modLane_layer (p l : Nat) (f : LaneState → LaneState) : (s.modLane p l f).layer = s.layer := rfl
@[simp] theorem modLane_layComp (p l : Nat) (f : LaneState → LaneState) : (s.modLane p l f).layComp = s.layComp := rfl
@[simp] theorem modLane_layEnd (p l : Nat) (f : LaneState → LaneState) : (s.modLane p l f).layEnd = s.layEnd := rfl
@[simp] theorem modLane_pix (p l : Nat) (f : LaneState → LaneState) : (s.modLane p l f).pix = s.pix := rfl
@[simp] theorem modLane_scn (p l : Nat) (f : LaneState → LaneState) : (s.modLane p l f).scn = s.scn := rfl
@[simp] theorem modLane_cmt (p l : Nat) (f : LaneState → LaneState) : (s.modLane p l f).cmt = s.cmt := rfl
@[simp] theorem modLane_cch (p l : Nat) (f : LaneState → LaneState) : (s.modLane p l f).cch = s.cch := rfl
@[simp] theorem modLane_dia (p l : Nat) (f : LaneState → LaneState) : (s.modLane p l f).dia = s.dia := rfl
@[simp] theorem modLane_pat (p l : Nat) (f : LaneState → LaneState) : (s.modLane p l f).pat = s.pat := rfl
@[simp] theorem modLane_fen (p l : Nat) (f : LaneState → LaneState) : (s.modLane p l f).fen = s.fen := rfl
@[simp] theorem modLane_cel (p l : Nat) (f : LaneState → LaneState) : (s.modLane p l f).cel = s.cel := rfl
@[simp] theorem modLane_hb (p l : Nat) (f : LaneState → LaneState) : (s.modLane p l f).hb = s.hb := rfl
@[simp] theorem modLane_saf (p l : Nat) (f : LaneState → LaneState) : (s.modLane p l f).saf = s.saf := rfl
@[simp] theorem modLane_thm (p l : Nat) (f : LaneState → LaneState) : (s.modLane p l f).thm = s.thm := rfl
@[simp] theorem modLane_cvu (p l : Nat) (f : LaneState → LaneState) : (s.modLane p l f).cvu = s.cvu := rfl
@[simp] theorem modLane_cal (p l : Nat) (f : LaneState → LaneState) : (s.modLane p l f).cal = s.cal := rfl
@[simp] theorem modLane_fw (p l : Nat) (f : LaneState → LaneState) : (s.modLane p l f).fw = s.fw := rfl
@[simp] theorem modLane_fuse (p l : Nat) (f : LaneState → LaneState) : (s.modLane p l f).fuse = s.fuse := rfl
@[simp] theorem modLane_dbg (p l : Nat) (f : LaneState → LaneState) : (s.modLane p l f).dbg = s.dbg := rfl
@[simp] theorem modLane_arc (p l : Nat) (f : LaneState → LaneState) : (s.modLane p l f).arc = s.arc := rfl

/-! `State.modCtx` -/

@[simp] theorem modCtx_pending (c : Nat) (f : CtxState → CtxState) : (s.modCtx c f).pending = s.pending := rfl
@[simp] theorem modCtx_out (c : Nat) (f : CtxState → CtxState) : (s.modCtx c f).out = s.out := rfl
@[simp] theorem modCtx_free (c : Nat) (f : CtxState → CtxState) : (s.modCtx c f).free = s.free := rfl
@[simp] theorem modCtx_regs (c : Nat) (f : CtxState → CtxState) : (s.modCtx c f).regs = s.regs := rfl
@[simp] theorem modCtx_act (c : Nat) (f : CtxState → CtxState) : (s.modCtx c f).act = s.act := rfl
@[simp] theorem modCtx_cbits (c : Nat) (f : CtxState → CtxState) : (s.modCtx c f).cbits = s.cbits := rfl
@[simp] theorem modCtx_evt (c : Nat) (f : CtxState → CtxState) : (s.modCtx c f).evt = s.evt := rfl
@[simp] theorem modCtx_rgs (c : Nat) (f : CtxState → CtxState) : (s.modCtx c f).rgs = s.rgs := rfl
@[simp] theorem modCtx_hnd (c : Nat) (f : CtxState → CtxState) : (s.modCtx c f).hnd = s.hnd := rfl
@[simp] theorem modCtx_aon (c : Nat) (f : CtxState → CtxState) : (s.modCtx c f).aon = s.aon := rfl
@[simp] theorem modCtx_pwr (c : Nat) (f : CtxState → CtxState) : (s.modCtx c f).pwr = s.pwr := rfl
@[simp] theorem modCtx_acc (c : Nat) (f : CtxState → CtxState) : (s.modCtx c f).acc = s.acc := rfl
@[simp] theorem modCtx_port (c : Nat) (f : CtxState → CtxState) : (s.modCtx c f).port = s.port := rfl
@[simp] theorem modCtx_cur (c : Nat) (f : CtxState → CtxState) : (s.modCtx c f).cur = s.cur := rfl
@[simp] theorem modCtx_layer (c : Nat) (f : CtxState → CtxState) : (s.modCtx c f).layer = s.layer := rfl
@[simp] theorem modCtx_layComp (c : Nat) (f : CtxState → CtxState) : (s.modCtx c f).layComp = s.layComp := rfl
@[simp] theorem modCtx_layEnd (c : Nat) (f : CtxState → CtxState) : (s.modCtx c f).layEnd = s.layEnd := rfl
@[simp] theorem modCtx_pix (c : Nat) (f : CtxState → CtxState) : (s.modCtx c f).pix = s.pix := rfl
@[simp] theorem modCtx_scn (c : Nat) (f : CtxState → CtxState) : (s.modCtx c f).scn = s.scn := rfl
@[simp] theorem modCtx_cmt (c : Nat) (f : CtxState → CtxState) : (s.modCtx c f).cmt = s.cmt := rfl
@[simp] theorem modCtx_cch (c : Nat) (f : CtxState → CtxState) : (s.modCtx c f).cch = s.cch := rfl
@[simp] theorem modCtx_dia (c : Nat) (f : CtxState → CtxState) : (s.modCtx c f).dia = s.dia := rfl
@[simp] theorem modCtx_pat (c : Nat) (f : CtxState → CtxState) : (s.modCtx c f).pat = s.pat := rfl
@[simp] theorem modCtx_fen (c : Nat) (f : CtxState → CtxState) : (s.modCtx c f).fen = s.fen := rfl
@[simp] theorem modCtx_cel (c : Nat) (f : CtxState → CtxState) : (s.modCtx c f).cel = s.cel := rfl
@[simp] theorem modCtx_hb (c : Nat) (f : CtxState → CtxState) : (s.modCtx c f).hb = s.hb := rfl
@[simp] theorem modCtx_saf (c : Nat) (f : CtxState → CtxState) : (s.modCtx c f).saf = s.saf := rfl
@[simp] theorem modCtx_thm (c : Nat) (f : CtxState → CtxState) : (s.modCtx c f).thm = s.thm := rfl
@[simp] theorem modCtx_cvu (c : Nat) (f : CtxState → CtxState) : (s.modCtx c f).cvu = s.cvu := rfl
@[simp] theorem modCtx_cal (c : Nat) (f : CtxState → CtxState) : (s.modCtx c f).cal = s.cal := rfl
@[simp] theorem modCtx_fw (c : Nat) (f : CtxState → CtxState) : (s.modCtx c f).fw = s.fw := rfl
@[simp] theorem modCtx_fuse (c : Nat) (f : CtxState → CtxState) : (s.modCtx c f).fuse = s.fuse := rfl
@[simp] theorem modCtx_dbg (c : Nat) (f : CtxState → CtxState) : (s.modCtx c f).dbg = s.dbg := rfl
@[simp] theorem modCtx_arc (c : Nat) (f : CtxState → CtxState) : (s.modCtx c f).arc = s.arc := rfl

/-! `State.modLayer` -/

@[simp] theorem modLayer_pending (n : Nat) (f : LayerState → LayerState) : (s.modLayer n f).pending = s.pending := rfl
@[simp] theorem modLayer_out (n : Nat) (f : LayerState → LayerState) : (s.modLayer n f).out = s.out := rfl
@[simp] theorem modLayer_free (n : Nat) (f : LayerState → LayerState) : (s.modLayer n f).free = s.free := rfl
@[simp] theorem modLayer_regs (n : Nat) (f : LayerState → LayerState) : (s.modLayer n f).regs = s.regs := rfl
@[simp] theorem modLayer_act (n : Nat) (f : LayerState → LayerState) : (s.modLayer n f).act = s.act := rfl
@[simp] theorem modLayer_cbits (n : Nat) (f : LayerState → LayerState) : (s.modLayer n f).cbits = s.cbits := rfl
@[simp] theorem modLayer_evt (n : Nat) (f : LayerState → LayerState) : (s.modLayer n f).evt = s.evt := rfl
@[simp] theorem modLayer_rgs (n : Nat) (f : LayerState → LayerState) : (s.modLayer n f).rgs = s.rgs := rfl
@[simp] theorem modLayer_hnd (n : Nat) (f : LayerState → LayerState) : (s.modLayer n f).hnd = s.hnd := rfl
@[simp] theorem modLayer_aon (n : Nat) (f : LayerState → LayerState) : (s.modLayer n f).aon = s.aon := rfl
@[simp] theorem modLayer_pwr (n : Nat) (f : LayerState → LayerState) : (s.modLayer n f).pwr = s.pwr := rfl
@[simp] theorem modLayer_acc (n : Nat) (f : LayerState → LayerState) : (s.modLayer n f).acc = s.acc := rfl
@[simp] theorem modLayer_port (n : Nat) (f : LayerState → LayerState) : (s.modLayer n f).port = s.port := rfl
@[simp] theorem modLayer_ctx (n : Nat) (f : LayerState → LayerState) : (s.modLayer n f).ctx = s.ctx := rfl
@[simp] theorem modLayer_cur (n : Nat) (f : LayerState → LayerState) : (s.modLayer n f).cur = s.cur := rfl
@[simp] theorem modLayer_layComp (n : Nat) (f : LayerState → LayerState) : (s.modLayer n f).layComp = s.layComp := rfl
@[simp] theorem modLayer_layEnd (n : Nat) (f : LayerState → LayerState) : (s.modLayer n f).layEnd = s.layEnd := rfl
@[simp] theorem modLayer_pix (n : Nat) (f : LayerState → LayerState) : (s.modLayer n f).pix = s.pix := rfl
@[simp] theorem modLayer_scn (n : Nat) (f : LayerState → LayerState) : (s.modLayer n f).scn = s.scn := rfl
@[simp] theorem modLayer_cmt (n : Nat) (f : LayerState → LayerState) : (s.modLayer n f).cmt = s.cmt := rfl
@[simp] theorem modLayer_cch (n : Nat) (f : LayerState → LayerState) : (s.modLayer n f).cch = s.cch := rfl
@[simp] theorem modLayer_dia (n : Nat) (f : LayerState → LayerState) : (s.modLayer n f).dia = s.dia := rfl
@[simp] theorem modLayer_pat (n : Nat) (f : LayerState → LayerState) : (s.modLayer n f).pat = s.pat := rfl
@[simp] theorem modLayer_fen (n : Nat) (f : LayerState → LayerState) : (s.modLayer n f).fen = s.fen := rfl
@[simp] theorem modLayer_cel (n : Nat) (f : LayerState → LayerState) : (s.modLayer n f).cel = s.cel := rfl
@[simp] theorem modLayer_hb (n : Nat) (f : LayerState → LayerState) : (s.modLayer n f).hb = s.hb := rfl
@[simp] theorem modLayer_saf (n : Nat) (f : LayerState → LayerState) : (s.modLayer n f).saf = s.saf := rfl
@[simp] theorem modLayer_thm (n : Nat) (f : LayerState → LayerState) : (s.modLayer n f).thm = s.thm := rfl
@[simp] theorem modLayer_cvu (n : Nat) (f : LayerState → LayerState) : (s.modLayer n f).cvu = s.cvu := rfl
@[simp] theorem modLayer_cal (n : Nat) (f : LayerState → LayerState) : (s.modLayer n f).cal = s.cal := rfl
@[simp] theorem modLayer_fw (n : Nat) (f : LayerState → LayerState) : (s.modLayer n f).fw = s.fw := rfl
@[simp] theorem modLayer_fuse (n : Nat) (f : LayerState → LayerState) : (s.modLayer n f).fuse = s.fuse := rfl
@[simp] theorem modLayer_dbg (n : Nat) (f : LayerState → LayerState) : (s.modLayer n f).dbg = s.dbg := rfl
@[simp] theorem modLayer_arc (n : Nat) (f : LayerState → LayerState) : (s.modLayer n f).arc = s.arc := rfl

/-! `State.modCell` -/

@[simp] theorem modCell_pending (n : Nat) (f : CellChan → CellChan) : (s.modCell n f).pending = s.pending := rfl
@[simp] theorem modCell_out (n : Nat) (f : CellChan → CellChan) : (s.modCell n f).out = s.out := rfl
@[simp] theorem modCell_free (n : Nat) (f : CellChan → CellChan) : (s.modCell n f).free = s.free := rfl
@[simp] theorem modCell_regs (n : Nat) (f : CellChan → CellChan) : (s.modCell n f).regs = s.regs := rfl
@[simp] theorem modCell_act (n : Nat) (f : CellChan → CellChan) : (s.modCell n f).act = s.act := rfl
@[simp] theorem modCell_cbits (n : Nat) (f : CellChan → CellChan) : (s.modCell n f).cbits = s.cbits := rfl
@[simp] theorem modCell_evt (n : Nat) (f : CellChan → CellChan) : (s.modCell n f).evt = s.evt := rfl
@[simp] theorem modCell_rgs (n : Nat) (f : CellChan → CellChan) : (s.modCell n f).rgs = s.rgs := rfl
@[simp] theorem modCell_hnd (n : Nat) (f : CellChan → CellChan) : (s.modCell n f).hnd = s.hnd := rfl
@[simp] theorem modCell_aon (n : Nat) (f : CellChan → CellChan) : (s.modCell n f).aon = s.aon := rfl
@[simp] theorem modCell_pwr (n : Nat) (f : CellChan → CellChan) : (s.modCell n f).pwr = s.pwr := rfl
@[simp] theorem modCell_acc (n : Nat) (f : CellChan → CellChan) : (s.modCell n f).acc = s.acc := rfl
@[simp] theorem modCell_port (n : Nat) (f : CellChan → CellChan) : (s.modCell n f).port = s.port := rfl
@[simp] theorem modCell_ctx (n : Nat) (f : CellChan → CellChan) : (s.modCell n f).ctx = s.ctx := rfl
@[simp] theorem modCell_cur (n : Nat) (f : CellChan → CellChan) : (s.modCell n f).cur = s.cur := rfl
@[simp] theorem modCell_layer (n : Nat) (f : CellChan → CellChan) : (s.modCell n f).layer = s.layer := rfl
@[simp] theorem modCell_layComp (n : Nat) (f : CellChan → CellChan) : (s.modCell n f).layComp = s.layComp := rfl
@[simp] theorem modCell_layEnd (n : Nat) (f : CellChan → CellChan) : (s.modCell n f).layEnd = s.layEnd := rfl
@[simp] theorem modCell_pix (n : Nat) (f : CellChan → CellChan) : (s.modCell n f).pix = s.pix := rfl
@[simp] theorem modCell_scn (n : Nat) (f : CellChan → CellChan) : (s.modCell n f).scn = s.scn := rfl
@[simp] theorem modCell_cmt (n : Nat) (f : CellChan → CellChan) : (s.modCell n f).cmt = s.cmt := rfl
@[simp] theorem modCell_cch (n : Nat) (f : CellChan → CellChan) : (s.modCell n f).cch = s.cch := rfl
@[simp] theorem modCell_dia (n : Nat) (f : CellChan → CellChan) : (s.modCell n f).dia = s.dia := rfl
@[simp] theorem modCell_pat (n : Nat) (f : CellChan → CellChan) : (s.modCell n f).pat = s.pat := rfl
@[simp] theorem modCell_fen (n : Nat) (f : CellChan → CellChan) : (s.modCell n f).fen = s.fen := rfl
@[simp] theorem modCell_hb (n : Nat) (f : CellChan → CellChan) : (s.modCell n f).hb = s.hb := rfl
@[simp] theorem modCell_saf (n : Nat) (f : CellChan → CellChan) : (s.modCell n f).saf = s.saf := rfl
@[simp] theorem modCell_thm (n : Nat) (f : CellChan → CellChan) : (s.modCell n f).thm = s.thm := rfl
@[simp] theorem modCell_cvu (n : Nat) (f : CellChan → CellChan) : (s.modCell n f).cvu = s.cvu := rfl
@[simp] theorem modCell_cal (n : Nat) (f : CellChan → CellChan) : (s.modCell n f).cal = s.cal := rfl
@[simp] theorem modCell_fw (n : Nat) (f : CellChan → CellChan) : (s.modCell n f).fw = s.fw := rfl
@[simp] theorem modCell_fuse (n : Nat) (f : CellChan → CellChan) : (s.modCell n f).fuse = s.fuse := rfl
@[simp] theorem modCell_dbg (n : Nat) (f : CellChan → CellChan) : (s.modCell n f).dbg = s.dbg := rfl
@[simp] theorem modCell_arc (n : Nat) (f : CellChan → CellChan) : (s.modCell n f).arc = s.arc := rfl

/-! `State.modSensor` -/

@[simp] theorem modSensor_pending (n : Nat) (f : CellSensor → CellSensor) : (s.modSensor n f).pending = s.pending := rfl
@[simp] theorem modSensor_out (n : Nat) (f : CellSensor → CellSensor) : (s.modSensor n f).out = s.out := rfl
@[simp] theorem modSensor_free (n : Nat) (f : CellSensor → CellSensor) : (s.modSensor n f).free = s.free := rfl
@[simp] theorem modSensor_regs (n : Nat) (f : CellSensor → CellSensor) : (s.modSensor n f).regs = s.regs := rfl
@[simp] theorem modSensor_act (n : Nat) (f : CellSensor → CellSensor) : (s.modSensor n f).act = s.act := rfl
@[simp] theorem modSensor_cbits (n : Nat) (f : CellSensor → CellSensor) : (s.modSensor n f).cbits = s.cbits := rfl
@[simp] theorem modSensor_evt (n : Nat) (f : CellSensor → CellSensor) : (s.modSensor n f).evt = s.evt := rfl
@[simp] theorem modSensor_rgs (n : Nat) (f : CellSensor → CellSensor) : (s.modSensor n f).rgs = s.rgs := rfl
@[simp] theorem modSensor_hnd (n : Nat) (f : CellSensor → CellSensor) : (s.modSensor n f).hnd = s.hnd := rfl
@[simp] theorem modSensor_aon (n : Nat) (f : CellSensor → CellSensor) : (s.modSensor n f).aon = s.aon := rfl
@[simp] theorem modSensor_pwr (n : Nat) (f : CellSensor → CellSensor) : (s.modSensor n f).pwr = s.pwr := rfl
@[simp] theorem modSensor_acc (n : Nat) (f : CellSensor → CellSensor) : (s.modSensor n f).acc = s.acc := rfl
@[simp] theorem modSensor_port (n : Nat) (f : CellSensor → CellSensor) : (s.modSensor n f).port = s.port := rfl
@[simp] theorem modSensor_ctx (n : Nat) (f : CellSensor → CellSensor) : (s.modSensor n f).ctx = s.ctx := rfl
@[simp] theorem modSensor_cur (n : Nat) (f : CellSensor → CellSensor) : (s.modSensor n f).cur = s.cur := rfl
@[simp] theorem modSensor_layer (n : Nat) (f : CellSensor → CellSensor) : (s.modSensor n f).layer = s.layer := rfl
@[simp] theorem modSensor_layComp (n : Nat) (f : CellSensor → CellSensor) : (s.modSensor n f).layComp = s.layComp := rfl
@[simp] theorem modSensor_layEnd (n : Nat) (f : CellSensor → CellSensor) : (s.modSensor n f).layEnd = s.layEnd := rfl
@[simp] theorem modSensor_pix (n : Nat) (f : CellSensor → CellSensor) : (s.modSensor n f).pix = s.pix := rfl
@[simp] theorem modSensor_scn (n : Nat) (f : CellSensor → CellSensor) : (s.modSensor n f).scn = s.scn := rfl
@[simp] theorem modSensor_cmt (n : Nat) (f : CellSensor → CellSensor) : (s.modSensor n f).cmt = s.cmt := rfl
@[simp] theorem modSensor_cch (n : Nat) (f : CellSensor → CellSensor) : (s.modSensor n f).cch = s.cch := rfl
@[simp] theorem modSensor_dia (n : Nat) (f : CellSensor → CellSensor) : (s.modSensor n f).dia = s.dia := rfl
@[simp] theorem modSensor_pat (n : Nat) (f : CellSensor → CellSensor) : (s.modSensor n f).pat = s.pat := rfl
@[simp] theorem modSensor_fen (n : Nat) (f : CellSensor → CellSensor) : (s.modSensor n f).fen = s.fen := rfl
@[simp] theorem modSensor_hb (n : Nat) (f : CellSensor → CellSensor) : (s.modSensor n f).hb = s.hb := rfl
@[simp] theorem modSensor_saf (n : Nat) (f : CellSensor → CellSensor) : (s.modSensor n f).saf = s.saf := rfl
@[simp] theorem modSensor_thm (n : Nat) (f : CellSensor → CellSensor) : (s.modSensor n f).thm = s.thm := rfl
@[simp] theorem modSensor_cvu (n : Nat) (f : CellSensor → CellSensor) : (s.modSensor n f).cvu = s.cvu := rfl
@[simp] theorem modSensor_cal (n : Nat) (f : CellSensor → CellSensor) : (s.modSensor n f).cal = s.cal := rfl
@[simp] theorem modSensor_fw (n : Nat) (f : CellSensor → CellSensor) : (s.modSensor n f).fw = s.fw := rfl
@[simp] theorem modSensor_fuse (n : Nat) (f : CellSensor → CellSensor) : (s.modSensor n f).fuse = s.fuse := rfl
@[simp] theorem modSensor_dbg (n : Nat) (f : CellSensor → CellSensor) : (s.modSensor n f).dbg = s.dbg := rfl
@[simp] theorem modSensor_arc (n : Nat) (f : CellSensor → CellSensor) : (s.modSensor n f).arc = s.arc := rfl

/-! `State.modCvu` -/

@[simp] theorem modCvu_pending (n : Nat) (f : CvuState → CvuState) : (s.modCvu n f).pending = s.pending := rfl
@[simp] theorem modCvu_out (n : Nat) (f : CvuState → CvuState) : (s.modCvu n f).out = s.out := rfl
@[simp] theorem modCvu_free (n : Nat) (f : CvuState → CvuState) : (s.modCvu n f).free = s.free := rfl
@[simp] theorem modCvu_regs (n : Nat) (f : CvuState → CvuState) : (s.modCvu n f).regs = s.regs := rfl
@[simp] theorem modCvu_act (n : Nat) (f : CvuState → CvuState) : (s.modCvu n f).act = s.act := rfl
@[simp] theorem modCvu_cbits (n : Nat) (f : CvuState → CvuState) : (s.modCvu n f).cbits = s.cbits := rfl
@[simp] theorem modCvu_evt (n : Nat) (f : CvuState → CvuState) : (s.modCvu n f).evt = s.evt := rfl
@[simp] theorem modCvu_rgs (n : Nat) (f : CvuState → CvuState) : (s.modCvu n f).rgs = s.rgs := rfl
@[simp] theorem modCvu_hnd (n : Nat) (f : CvuState → CvuState) : (s.modCvu n f).hnd = s.hnd := rfl
@[simp] theorem modCvu_aon (n : Nat) (f : CvuState → CvuState) : (s.modCvu n f).aon = s.aon := rfl
@[simp] theorem modCvu_pwr (n : Nat) (f : CvuState → CvuState) : (s.modCvu n f).pwr = s.pwr := rfl
@[simp] theorem modCvu_acc (n : Nat) (f : CvuState → CvuState) : (s.modCvu n f).acc = s.acc := rfl
@[simp] theorem modCvu_port (n : Nat) (f : CvuState → CvuState) : (s.modCvu n f).port = s.port := rfl
@[simp] theorem modCvu_ctx (n : Nat) (f : CvuState → CvuState) : (s.modCvu n f).ctx = s.ctx := rfl
@[simp] theorem modCvu_cur (n : Nat) (f : CvuState → CvuState) : (s.modCvu n f).cur = s.cur := rfl
@[simp] theorem modCvu_layer (n : Nat) (f : CvuState → CvuState) : (s.modCvu n f).layer = s.layer := rfl
@[simp] theorem modCvu_layComp (n : Nat) (f : CvuState → CvuState) : (s.modCvu n f).layComp = s.layComp := rfl
@[simp] theorem modCvu_layEnd (n : Nat) (f : CvuState → CvuState) : (s.modCvu n f).layEnd = s.layEnd := rfl
@[simp] theorem modCvu_pix (n : Nat) (f : CvuState → CvuState) : (s.modCvu n f).pix = s.pix := rfl
@[simp] theorem modCvu_scn (n : Nat) (f : CvuState → CvuState) : (s.modCvu n f).scn = s.scn := rfl
@[simp] theorem modCvu_cmt (n : Nat) (f : CvuState → CvuState) : (s.modCvu n f).cmt = s.cmt := rfl
@[simp] theorem modCvu_cch (n : Nat) (f : CvuState → CvuState) : (s.modCvu n f).cch = s.cch := rfl
@[simp] theorem modCvu_dia (n : Nat) (f : CvuState → CvuState) : (s.modCvu n f).dia = s.dia := rfl
@[simp] theorem modCvu_pat (n : Nat) (f : CvuState → CvuState) : (s.modCvu n f).pat = s.pat := rfl
@[simp] theorem modCvu_fen (n : Nat) (f : CvuState → CvuState) : (s.modCvu n f).fen = s.fen := rfl
@[simp] theorem modCvu_cel (n : Nat) (f : CvuState → CvuState) : (s.modCvu n f).cel = s.cel := rfl
@[simp] theorem modCvu_hb (n : Nat) (f : CvuState → CvuState) : (s.modCvu n f).hb = s.hb := rfl
@[simp] theorem modCvu_saf (n : Nat) (f : CvuState → CvuState) : (s.modCvu n f).saf = s.saf := rfl
@[simp] theorem modCvu_thm (n : Nat) (f : CvuState → CvuState) : (s.modCvu n f).thm = s.thm := rfl
@[simp] theorem modCvu_cal (n : Nat) (f : CvuState → CvuState) : (s.modCvu n f).cal = s.cal := rfl
@[simp] theorem modCvu_fw (n : Nat) (f : CvuState → CvuState) : (s.modCvu n f).fw = s.fw := rfl
@[simp] theorem modCvu_fuse (n : Nat) (f : CvuState → CvuState) : (s.modCvu n f).fuse = s.fuse := rfl
@[simp] theorem modCvu_dbg (n : Nat) (f : CvuState → CvuState) : (s.modCvu n f).dbg = s.dbg := rfl
@[simp] theorem modCvu_arc (n : Nat) (f : CvuState → CvuState) : (s.modCvu n f).arc = s.arc := rfl

/-! `State.modTable` -/

@[simp] theorem modTable_pending (n : Nat) (f : TableState → TableState) : (s.modTable n f).pending = s.pending := rfl
@[simp] theorem modTable_out (n : Nat) (f : TableState → TableState) : (s.modTable n f).out = s.out := rfl
@[simp] theorem modTable_free (n : Nat) (f : TableState → TableState) : (s.modTable n f).free = s.free := rfl
@[simp] theorem modTable_regs (n : Nat) (f : TableState → TableState) : (s.modTable n f).regs = s.regs := rfl
@[simp] theorem modTable_act (n : Nat) (f : TableState → TableState) : (s.modTable n f).act = s.act := rfl
@[simp] theorem modTable_cbits (n : Nat) (f : TableState → TableState) : (s.modTable n f).cbits = s.cbits := rfl
@[simp] theorem modTable_evt (n : Nat) (f : TableState → TableState) : (s.modTable n f).evt = s.evt := rfl
@[simp] theorem modTable_rgs (n : Nat) (f : TableState → TableState) : (s.modTable n f).rgs = s.rgs := rfl
@[simp] theorem modTable_hnd (n : Nat) (f : TableState → TableState) : (s.modTable n f).hnd = s.hnd := rfl
@[simp] theorem modTable_aon (n : Nat) (f : TableState → TableState) : (s.modTable n f).aon = s.aon := rfl
@[simp] theorem modTable_pwr (n : Nat) (f : TableState → TableState) : (s.modTable n f).pwr = s.pwr := rfl
@[simp] theorem modTable_acc (n : Nat) (f : TableState → TableState) : (s.modTable n f).acc = s.acc := rfl
@[simp] theorem modTable_port (n : Nat) (f : TableState → TableState) : (s.modTable n f).port = s.port := rfl
@[simp] theorem modTable_ctx (n : Nat) (f : TableState → TableState) : (s.modTable n f).ctx = s.ctx := rfl
@[simp] theorem modTable_cur (n : Nat) (f : TableState → TableState) : (s.modTable n f).cur = s.cur := rfl
@[simp] theorem modTable_layer (n : Nat) (f : TableState → TableState) : (s.modTable n f).layer = s.layer := rfl
@[simp] theorem modTable_layComp (n : Nat) (f : TableState → TableState) : (s.modTable n f).layComp = s.layComp := rfl
@[simp] theorem modTable_layEnd (n : Nat) (f : TableState → TableState) : (s.modTable n f).layEnd = s.layEnd := rfl
@[simp] theorem modTable_scn (n : Nat) (f : TableState → TableState) : (s.modTable n f).scn = s.scn := rfl
@[simp] theorem modTable_cmt (n : Nat) (f : TableState → TableState) : (s.modTable n f).cmt = s.cmt := rfl
@[simp] theorem modTable_cch (n : Nat) (f : TableState → TableState) : (s.modTable n f).cch = s.cch := rfl
@[simp] theorem modTable_dia (n : Nat) (f : TableState → TableState) : (s.modTable n f).dia = s.dia := rfl
@[simp] theorem modTable_pat (n : Nat) (f : TableState → TableState) : (s.modTable n f).pat = s.pat := rfl
@[simp] theorem modTable_fen (n : Nat) (f : TableState → TableState) : (s.modTable n f).fen = s.fen := rfl
@[simp] theorem modTable_cel (n : Nat) (f : TableState → TableState) : (s.modTable n f).cel = s.cel := rfl
@[simp] theorem modTable_hb (n : Nat) (f : TableState → TableState) : (s.modTable n f).hb = s.hb := rfl
@[simp] theorem modTable_saf (n : Nat) (f : TableState → TableState) : (s.modTable n f).saf = s.saf := rfl
@[simp] theorem modTable_thm (n : Nat) (f : TableState → TableState) : (s.modTable n f).thm = s.thm := rfl
@[simp] theorem modTable_cvu (n : Nat) (f : TableState → TableState) : (s.modTable n f).cvu = s.cvu := rfl
@[simp] theorem modTable_cal (n : Nat) (f : TableState → TableState) : (s.modTable n f).cal = s.cal := rfl
@[simp] theorem modTable_fw (n : Nat) (f : TableState → TableState) : (s.modTable n f).fw = s.fw := rfl
@[simp] theorem modTable_fuse (n : Nat) (f : TableState → TableState) : (s.modTable n f).fuse = s.fuse := rfl
@[simp] theorem modTable_dbg (n : Nat) (f : TableState → TableState) : (s.modTable n f).dbg = s.dbg := rfl
@[simp] theorem modTable_arc (n : Nat) (f : TableState → TableState) : (s.modTable n f).arc = s.arc := rfl

/-! `State.modChain` -/

@[simp] theorem modChain_pending (n : Nat) (f : ChainLane → ChainLane) : (s.modChain n f).pending = s.pending := rfl
@[simp] theorem modChain_out (n : Nat) (f : ChainLane → ChainLane) : (s.modChain n f).out = s.out := rfl
@[simp] theorem modChain_free (n : Nat) (f : ChainLane → ChainLane) : (s.modChain n f).free = s.free := rfl
@[simp] theorem modChain_regs (n : Nat) (f : ChainLane → ChainLane) : (s.modChain n f).regs = s.regs := rfl
@[simp] theorem modChain_act (n : Nat) (f : ChainLane → ChainLane) : (s.modChain n f).act = s.act := rfl
@[simp] theorem modChain_cbits (n : Nat) (f : ChainLane → ChainLane) : (s.modChain n f).cbits = s.cbits := rfl
@[simp] theorem modChain_evt (n : Nat) (f : ChainLane → ChainLane) : (s.modChain n f).evt = s.evt := rfl
@[simp] theorem modChain_rgs (n : Nat) (f : ChainLane → ChainLane) : (s.modChain n f).rgs = s.rgs := rfl
@[simp] theorem modChain_hnd (n : Nat) (f : ChainLane → ChainLane) : (s.modChain n f).hnd = s.hnd := rfl
@[simp] theorem modChain_aon (n : Nat) (f : ChainLane → ChainLane) : (s.modChain n f).aon = s.aon := rfl
@[simp] theorem modChain_pwr (n : Nat) (f : ChainLane → ChainLane) : (s.modChain n f).pwr = s.pwr := rfl
@[simp] theorem modChain_acc (n : Nat) (f : ChainLane → ChainLane) : (s.modChain n f).acc = s.acc := rfl
@[simp] theorem modChain_port (n : Nat) (f : ChainLane → ChainLane) : (s.modChain n f).port = s.port := rfl
@[simp] theorem modChain_ctx (n : Nat) (f : ChainLane → ChainLane) : (s.modChain n f).ctx = s.ctx := rfl
@[simp] theorem modChain_cur (n : Nat) (f : ChainLane → ChainLane) : (s.modChain n f).cur = s.cur := rfl
@[simp] theorem modChain_layer (n : Nat) (f : ChainLane → ChainLane) : (s.modChain n f).layer = s.layer := rfl
@[simp] theorem modChain_layComp (n : Nat) (f : ChainLane → ChainLane) : (s.modChain n f).layComp = s.layComp := rfl
@[simp] theorem modChain_layEnd (n : Nat) (f : ChainLane → ChainLane) : (s.modChain n f).layEnd = s.layEnd := rfl
@[simp] theorem modChain_pix (n : Nat) (f : ChainLane → ChainLane) : (s.modChain n f).pix = s.pix := rfl
@[simp] theorem modChain_scn (n : Nat) (f : ChainLane → ChainLane) : (s.modChain n f).scn = s.scn := rfl
@[simp] theorem modChain_cmt (n : Nat) (f : ChainLane → ChainLane) : (s.modChain n f).cmt = s.cmt := rfl
@[simp] theorem modChain_dia (n : Nat) (f : ChainLane → ChainLane) : (s.modChain n f).dia = s.dia := rfl
@[simp] theorem modChain_pat (n : Nat) (f : ChainLane → ChainLane) : (s.modChain n f).pat = s.pat := rfl
@[simp] theorem modChain_fen (n : Nat) (f : ChainLane → ChainLane) : (s.modChain n f).fen = s.fen := rfl
@[simp] theorem modChain_cel (n : Nat) (f : ChainLane → ChainLane) : (s.modChain n f).cel = s.cel := rfl
@[simp] theorem modChain_hb (n : Nat) (f : ChainLane → ChainLane) : (s.modChain n f).hb = s.hb := rfl
@[simp] theorem modChain_saf (n : Nat) (f : ChainLane → ChainLane) : (s.modChain n f).saf = s.saf := rfl
@[simp] theorem modChain_thm (n : Nat) (f : ChainLane → ChainLane) : (s.modChain n f).thm = s.thm := rfl
@[simp] theorem modChain_cvu (n : Nat) (f : ChainLane → ChainLane) : (s.modChain n f).cvu = s.cvu := rfl
@[simp] theorem modChain_cal (n : Nat) (f : ChainLane → ChainLane) : (s.modChain n f).cal = s.cal := rfl
@[simp] theorem modChain_fw (n : Nat) (f : ChainLane → ChainLane) : (s.modChain n f).fw = s.fw := rfl
@[simp] theorem modChain_fuse (n : Nat) (f : ChainLane → ChainLane) : (s.modChain n f).fuse = s.fuse := rfl
@[simp] theorem modChain_dbg (n : Nat) (f : ChainLane → ChainLane) : (s.modChain n f).dbg = s.dbg := rfl
@[simp] theorem modChain_arc (n : Nat) (f : ChainLane → ChainLane) : (s.modChain n f).arc = s.arc := rfl

@[simp] theorem fresh_pending : s.fresh.2.pending = s.pending := rfl
@[simp] theorem fresh_out : s.fresh.2.out = s.out := rfl
@[simp] theorem fresh_regs : s.fresh.2.regs = s.regs := rfl
@[simp] theorem fresh_act : s.fresh.2.act = s.act := rfl
@[simp] theorem fresh_cbits : s.fresh.2.cbits = s.cbits := rfl
@[simp] theorem fresh_evt : s.fresh.2.evt = s.evt := rfl
@[simp] theorem fresh_rgs : s.fresh.2.rgs = s.rgs := rfl
@[simp] theorem fresh_hnd : s.fresh.2.hnd = s.hnd := rfl
@[simp] theorem fresh_aon : s.fresh.2.aon = s.aon := rfl
@[simp] theorem fresh_pwr : s.fresh.2.pwr = s.pwr := rfl
@[simp] theorem fresh_acc : s.fresh.2.acc = s.acc := rfl
@[simp] theorem fresh_port : s.fresh.2.port = s.port := rfl
@[simp] theorem fresh_ctx : s.fresh.2.ctx = s.ctx := rfl
@[simp] theorem fresh_cur : s.fresh.2.cur = s.cur := rfl
@[simp] theorem fresh_layer : s.fresh.2.layer = s.layer := rfl
@[simp] theorem fresh_layComp : s.fresh.2.layComp = s.layComp := rfl
@[simp] theorem fresh_layEnd : s.fresh.2.layEnd = s.layEnd := rfl
@[simp] theorem fresh_pix : s.fresh.2.pix = s.pix := rfl
@[simp] theorem fresh_scn : s.fresh.2.scn = s.scn := rfl
@[simp] theorem fresh_cmt : s.fresh.2.cmt = s.cmt := rfl
@[simp] theorem fresh_cch : s.fresh.2.cch = s.cch := rfl
@[simp] theorem fresh_dia : s.fresh.2.dia = s.dia := rfl
@[simp] theorem fresh_pat : s.fresh.2.pat = s.pat := rfl
@[simp] theorem fresh_fen : s.fresh.2.fen = s.fen := rfl
@[simp] theorem fresh_cel : s.fresh.2.cel = s.cel := rfl
@[simp] theorem fresh_hb : s.fresh.2.hb = s.hb := rfl
@[simp] theorem fresh_saf : s.fresh.2.saf = s.saf := rfl
@[simp] theorem fresh_thm : s.fresh.2.thm = s.thm := rfl
@[simp] theorem fresh_cvu : s.fresh.2.cvu = s.cvu := rfl
@[simp] theorem fresh_cal : s.fresh.2.cal = s.cal := rfl
@[simp] theorem fresh_fw : s.fresh.2.fw = s.fw := rfl
@[simp] theorem fresh_fuse : s.fresh.2.fuse = s.fuse := rfl
@[simp] theorem fresh_dbg : s.fresh.2.dbg = s.dbg := rfl
@[simp] theorem fresh_arc : s.fresh.2.arc = s.arc := rfl

/-! ## What they change -/

@[simp] theorem raiseEv_waiting (c : Source) (e : Event) :
    (s.raiseEv c e).evt.waiting = s.evt.waiting ++ [(c, e)] := rfl

@[simp] theorem emit_out_eq (o : Output) : (s.emit o).out = s.out ++ [o] := rfl

/-- A register after a write of one. -/
theorem reg_setReg (a b : Nat) (w : Word) : (s.setReg a w).reg b = if b = a then w else s.reg b := by
  show kget (resetWord s.pwr.legacy s.pwr.viocClass b) (kput (resetWord s.pwr.legacy s.pwr.viocClass a) s.regs a w) b
    = _
  by_cases h : b = a
  · subst h; simp [kget_kput]
  · simp only [h, if_false, State.reg]
    unfold kput
    split
    · exact kget_kdel_of_ne _ _ h
    · rw [kget_kins_of_ne _ _ _ h, kget_kdel_of_ne _ _ h]

/-- The copies after one has been replaced. -/
theorem cCopy_putC (a r b q : Nat) (w : Word) :
    (s.putC a r w).cCopy b q = if copyKey b q = copyKey a r then w else s.cCopy b q := by
  simp [State.putC, State.cCopy, kget_kput]

/-- Two copies of readers are one exactly when register and reader agree. -/
theorem copyKey_inj {a b r q : Nat} (hr : r < 8) (hq : q < 8) : copyKey b q = copyKey a r ↔ b = a ∧ q = r := by
  unfold copyKey; omega

/-- The copies after bits of a register have been set in all five (R100). -/
theorem cCopy_setC (a b q m : Nat) (hq : q < 5) :
    (s.setC a m).cCopy b q = if b = a then s.cCopy b q ||| BitVec.ofNat 32 m else s.cCopy b q := by
  have h8 : q < 8 := by omega
  unfold State.setC State.cCopy
  simp only [orCopy, kget_kput, copyKey_inj (show 4 < 8 by decide) h8, copyKey_inj (show 3 < 8 by decide) h8,
    copyKey_inj (show 2 < 8 by decide) h8, copyKey_inj (show 1 < 8 by decide) h8,
    copyKey_inj (show 0 < 8 by decide) h8]
  by_cases hb : b = a
  · subst hb
    have : q = 0 ∨ q = 1 ∨ q = 2 ∨ q = 3 ∨ q = 4 := by omega
    rcases this with rfl | rfl | rfl | rfl | rfl <;> simp [copyKey]
  · simp [hb]

end Sys2Proof.Machine
end

