-- ==== Sys2Proof/Laws/Ops.lean ====
section
/-! SUPPORT. What each shared operation does, said once: numbered parts, sparse maps, register fields, the flags
of R100, events, completions, the resets of the logic side (R75 to R79) and the Hatband's frames. -/

namespace Sys2Proof.Machine

/-! ## Numbered parts -/

section
variable {α : Type} {n : Nat} [NeZero n]

/-- The element replaced. -/
theorem vget_vset_self (v : Vector α n) (i : Nat) (x : α) : vget (vset v i x) i = x := by
  simp [vget, vset]

/-- Another element stays. -/
theorem vget_vset_ne (v : Vector α n) (i j : Nat) (x : α) (h : j % n ≠ i % n) : vget (vset v i x) j = vget v j := by
  simp only [vget, vset]
  rw [Vector.getElem_set_ne]
  omega

/-- The element changed. -/
theorem vget_vmod_self (v : Vector α n) (i : Nat) (f : α → α) : vget (vmod v i f) i = f (vget v i) :=
  vget_vset_self v i _

/-- Another element stays. -/
theorem vget_vmod_ne (v : Vector α n) (i j : Nat) (f : α → α) (h : j % n ≠ i % n) :
    vget (vmod v i f) j = vget v j :=
  vget_vset_ne v i j _ h

/-- Elements below the length are told apart by their numbers. -/
theorem vget_vmod (v : Vector α n) {i j : Nat} (hi : i < n) (hj : j < n) (f : α → α) :
    vget (vmod v i f) j = if j = i then f (vget v i) else vget v j := by
  by_cases h : j = i
  · subst h; simp [vget_vmod_self]
  · simp only [h, if_false]
    exact vget_vmod_ne v i j f (by rw [Nat.mod_eq_of_lt hi, Nat.mod_eq_of_lt hj]; exact h)
end

/-! ## Sparse maps -/

section
variable {α : Type}

/-- What a key holds after one key has been listed. -/
theorem kget_kset (d : α) (m : List (Nat × α)) (q k : Nat) (x : α) :
    kget d (kset m q x) k = if k = q then x else kget d m k := by
  unfold kset
  by_cases h : k = q
  · subst h; simp [kget_kins_self d _ _ _ (kdel_ne m k)]
  · simp [h, kget_kins_of_ne d _ x h, kget_kdel_of_ne d m h]

theorem kfind_kdel_of_ne (m : List (Nat × α)) {q k : Nat} (h : k ≠ q) : kfind (kdel m q) k = kfind m k := by
  induction m with
  | nil => rfl
  | cons p m ih =>
    obtain ⟨a, v⟩ := p
    by_cases ha : a = q
    · have h' : ¬ q = k := fun e => h e.symm
      simp [kdel, kfind, ha, ih, h']
    · simp [kdel, kfind, ha, ih]

theorem kfind_kins_self (m : List (Nat × α)) (q : Nat) (x : α) (hm : ∀ p ∈ m, p.1 ≠ q) :
    kfind (kins m q x) q = some x := by
  induction m with
  | nil => simp [kins, kfind]
  | cons p m ih =>
    obtain ⟨a, v⟩ := p
    have ha : a ≠ q := hm (a, v) (by simp)
    by_cases hq : q < a
    · simp [kins, kfind, hq]
    · simp [kins, kfind, hq, ha]
      exact ih (fun p hp => hm p (by simp [hp]))

theorem kfind_kins_of_ne (m : List (Nat × α)) {q k : Nat} (x : α) (h : k ≠ q) :
    kfind (kins m q x) k = kfind m k := by
  have h' : ¬ q = k := fun e => h e.symm
  induction m with
  | nil => simp [kins, kfind, h']
  | cons p m ih =>
    obtain ⟨a, v⟩ := p
    by_cases hq : q < a
    · simp [kins, kfind, hq, h']
    · simp [kins, kfind, hq, ih]

/-- What is found under a key after one key has been listed. -/
theorem kfind_kset (m : List (Nat × α)) (q k : Nat) (x : α) :
    kfind (kset m q x) k = if k = q then some x else kfind m k := by
  unfold kset
  by_cases h : k = q
  · subst h; simp [kfind_kins_self _ _ _ (kdel_ne m k)]
  · simp [h, kfind_kins_of_ne _ x h, kfind_kdel_of_ne m h]
end

/-! ## Register fields -/

/-- A field of a number below `2 ^ w`, replaced. -/
def withField (x lo n v : Nat) : Nat := x - natBits x lo n * 2 ^ lo + v % 2 ^ n * 2 ^ lo

theorem natBits_split (x lo n : Nat) :
    x = x % 2 ^ lo + (natBits x lo n + x / 2 ^ (lo + n) * 2 ^ n) * 2 ^ lo := by
  have h1 : x / 2 ^ lo = natBits x lo n + x / 2 ^ (lo + n) * 2 ^ n := by
    rw [natBits, Nat.shiftRight_eq_div_pow, Nat.pow_add, ← Nat.div_div_eq_div_mul]
    exact (Nat.mod_add_div' _ _).symm
  rw [← h1]
  exact (Nat.mod_add_div' x (2 ^ lo)).symm

theorem withField_eq (x lo n v : Nat) :
    withField x lo n v = x % 2 ^ lo + (v % 2 ^ n + x / 2 ^ (lo + n) * 2 ^ n) * 2 ^ lo := by
  have h := natBits_split x lo n
  unfold withField
  generalize hb : natBits x lo n = b at h ⊢
  generalize x / 2 ^ (lo + n) = q at h ⊢
  generalize hr : x % 2 ^ lo = r at h ⊢
  have e1 : (b + q * 2 ^ n) * 2 ^ lo = b * 2 ^ lo + q * 2 ^ n * 2 ^ lo := Nat.add_mul ..
  have e2 : (v % 2 ^ n + q * 2 ^ n) * 2 ^ lo = v % 2 ^ n * 2 ^ lo + q * 2 ^ n * 2 ^ lo := Nat.add_mul ..
  rw [e1] at h
  rw [e2, h]
  omega

/-- The field replaced holds the new value. -/
theorem natBits_withField_self (x lo n v : Nat) : natBits (withField x lo n v) lo n = v % 2 ^ n := by
  rw [withField_eq, natBits, Nat.shiftRight_eq_div_pow, Nat.add_mul_div_right _ _ (Nat.two_pow_pos lo),
    Nat.div_eq_of_lt (Nat.mod_lt _ (Nat.two_pow_pos lo)), Nat.zero_add, Nat.add_mul_mod_self_right, Nat.mod_mod]

/-- A field below it stays. -/
theorem natBits_withField_low (x lo n v a k : Nat) (h : a + k ≤ lo) :
    natBits (withField x lo n v) a k = natBits x a k := by
  have low : withField x lo n v % 2 ^ lo = x % 2 ^ lo := by
    rw [withField_eq, Nat.add_mul_mod_self_right, Nat.mod_mod]
  have key : ∀ y, natBits y a k = natBits (y % 2 ^ lo) a k := by
    intro y
    apply Nat.eq_of_testBit_eq
    intro i
    simp only [natBits, Nat.testBit_mod_two_pow, Nat.testBit_shiftRight]
    by_cases hi : i < k
    · have : a + i < lo := by omega
      simp [hi, this]
    · simp [hi]
  rw [key, low, ← key]

/-- A field above it stays. -/
theorem natBits_withField_high (x lo n v a k : Nat) (h : lo + n ≤ a) :
    natBits (withField x lo n v) a k = natBits x a k := by
  have high : withField x lo n v / 2 ^ (lo + n) = x / 2 ^ (lo + n) := by
    rw [withField_eq, Nat.pow_add, ← Nat.div_div_eq_div_mul, Nat.add_mul_div_right _ _ (Nat.two_pow_pos lo),
      Nat.div_eq_of_lt (Nat.mod_lt _ (Nat.two_pow_pos lo)), Nat.zero_add,
      Nat.add_mul_div_right _ _ (Nat.two_pow_pos n), Nat.div_eq_of_lt (Nat.mod_lt _ (Nat.two_pow_pos n)), Nat.zero_add]
  have key : ∀ y, natBits y a k = natBits (y / 2 ^ (lo + n)) (a - (lo + n)) k := by
    intro y
    simp only [natBits, Nat.shiftRight_eq_div_pow, Nat.div_div_eq_div_mul, ← Nat.pow_add]
    congr 3
    omega
  rw [key, high, ← key]

theorem withField_lt (x lo n v w : Nat) (hx : x < 2 ^ w) (hw : lo + n ≤ w) : withField x lo n v < 2 ^ w := by
  apply Nat.lt_pow_two_of_testBit
  intro i hi
  have h := natBits_withField_high x lo n v i 1 (by omega)
  have hz : x.testBit i = false := Nat.testBit_lt_two_pow (Nat.lt_of_lt_of_le hx (Nat.pow_le_pow_right (by decide) hi))
  have bit : ∀ y : Nat, natBits y i 1 = (y.testBit i).toNat := by
    intro y
    rw [natBits, Nat.shiftRight_eq_div_pow, Nat.testBit_eq_decide_div_mod_eq]
    have : y / 2 ^ i % 2 < 2 := Nat.mod_lt _ (by decide)
    by_cases hy : y / 2 ^ i % 2 = 1
    · simp [hy]
    · have : y / 2 ^ i % 2 = 0 := by omega
      simp [this]
  rw [bit, bit, hz] at h
  cases hb : (withField x lo n v).testBit i with
  | false => rfl
  | true => rw [hb] at h; simp at h

section
variable (s : State)

theorem setRfld_eq (a lo n v : Nat) :
    s.setRfld a lo n v = s.setReg a (BitVec.ofNat 32 (withField (s.reg a).toNat lo n v)) := rfl

/-- The word of the register whose field was replaced. -/
theorem reg_setRfld_toNat (a lo n v : Nat) (h : lo + n ≤ 32) :
    ((s.setRfld a lo n v).reg a).toNat = withField (s.reg a).toNat lo n v := by
  rw [setRfld_eq, reg_setReg]
  simp only [if_true, BitVec.toNat_ofNat]
  exact Nat.mod_eq_of_lt (withField_lt _ _ _ _ 32 (s.reg a).isLt h)

/-- The field replaced. -/
theorem rfld_setRfld_self (a lo n v : Nat) (h : lo + n ≤ 32) : (s.setRfld a lo n v).rfld a lo n = v % 2 ^ n := by
  rw [State.rfld, fld, reg_setRfld_toNat s a lo n v h, natBits_withField_self]

/-- Another field of the same register, above or below it, stays. -/
theorem rfld_setRfld_of_disjoint (a lo n v b k : Nat) (h : lo + n ≤ 32) (hd : b + k ≤ lo ∨ lo + n ≤ b) :
    (s.setRfld a lo n v).rfld a b k = s.rfld a b k := by
  rw [State.rfld, fld, reg_setRfld_toNat s a lo n v h]
  rcases hd with hd | hd
  · exact natBits_withField_low _ _ _ _ _ _ hd
  · exact natBits_withField_high _ _ _ _ _ _ hd

/-- Another register stays. -/
theorem reg_setRfld_of_ne (a b lo n v : Nat) (h : b ≠ a) : (s.setRfld a lo n v).reg b = s.reg b := by
  rw [setRfld_eq, reg_setReg]
  simp [h]

/-! ## Flags and events -/

/-- A bit of the mask is set for every reader (R100). -/
theorem flagged_setC (a m bit : Nat) (hb : bit < 32) (hm : m.testBit bit = true) : (s.setC a m).flagged a bit := by
  intro r hr
  rw [cCopy_setC s a a r m hr]
  simp [hb, hm, BitVec.getLsbD_ofNat]

/-- Setting bits clears none (R100). -/
theorem flagged_setC_of_flagged (a m b bit : Nat) (h : s.flagged b bit) : (s.setC a m).flagged b bit := by
  intro r hr
  rw [cCopy_setC s a b r m hr]
  have := h r hr
  by_cases hb : b = a <;> simp [hb]
  · subst hb; simp [this]
  · exact this

/-- Flags depend on the copies alone. -/
theorem flagged_congr {s t : State} (h : t.cbits = s.cbits) (a bit : Nat) : t.flagged a bit ↔ s.flagged a bit := by
  simp [State.flagged, State.cCopy, h]

/-- One copy of one reader (R100). -/
theorem cCopy_setC1 (a r b q m : Nat) (hr : r < 8) (hq : q < 8) :
    (s.setC1 a r m).cCopy b q = if b = a ∧ q = r then s.cCopy b q ||| BitVec.ofNat 32 m else s.cCopy b q := by
  unfold State.setC1 orCopy State.cCopy
  simp only [kget_kput, copyKey_inj hr hq]
  by_cases h : b = a ∧ q = r
  · obtain ⟨rfl, rfl⟩ := h; simp
  · simp [h]

/-- A raised event waits, behind the others (R39, R192). -/
theorem raisedOne_raise (src : Source) (k : EvKind) (i a b c : Nat) :
    s.raisedOne (s.raise src k i a b c) src k i := ⟨_, rfl, rfl, rfl, rfl⟩

/-- The same for an event of one context (R193). -/
theorem raisedOne_raiseTo (o : Nat) (src : Source) (k : EvKind) (i a b c : Nat) :
    s.raisedOne (s.raiseTo o src k i a b c) src k i := ⟨_, rfl, rfl, rfl, rfl⟩

/-- An event that is the one raised waits. -/
theorem waits_of_raisedOne {s t : State} {src : Source} {k : EvKind} {i : Nat} (h : s.raisedOne t src k i) :
    t.waits src k i := by
  obtain ⟨e, he, h1, h2, h3⟩ := h
  exact ⟨e, by rw [he]; simp, h1, h2, h3⟩

/-- Raising another event loses none. -/
theorem waits_raiseEv (x : Source) (e : Event) (src : Source) (k : EvKind) (i : Nat) (h : s.waits src k i) :
    (s.raiseEv x e).waits src k i := by
  obtain ⟨f, hf, h1⟩ := h
  exact ⟨f, by simp [hf], h1⟩

/-! ## Contexts -/

/-- The context changed, and the others. -/
theorem ctx_modCtx (c d : Nat) (f : CtxState → CtxState) (hc : c < 4) (hd : d < 4) :
    vget (s.modCtx c f).ctx d = if d = c then f (vget s.ctx c) else vget s.ctx d :=
  vget_vmod s.ctx hc hd f

/-- The port changed, and the others. -/
theorem port_modPort (p q : Nat) (f : PortState → PortState) (hp : p < 4) (hq : q < 4) :
    vget (s.modPort p f).port q = if q = p then f (vget s.port p) else vget s.port q :=
  vget_vmod s.port hp hq f

/-- What completing a descriptor does (R190, R191): one completion more in its context and nothing else, or, for an
OK that `ERR_ONLY` suppresses and that releases no data, nothing. -/
theorem complete_spec (c : Nat) (d : Desc) (status fr det : Nat) (late sh : Bool) :
    (d.bits 0 8 1 = 1 ∧ status = stOk ∧ d.op ≠ 1 → s.complete c d status fr late sh det = s) ∧
    (¬(d.bits 0 8 1 = 1 ∧ status = stOk ∧ d.op ≠ 1) →
      s.complete c d status fr late sh det = { s with ctx := (s.complete c d status fr late sh det).ctx } ∧
      ∃ k : Completion, (s.complete c d status fr late sh det).ctx =
          vmod s.ctx c (fun q => { q with cplq := q.cplq ++ [k] }) ∧
        k.op = d.op ∧ k.status = status ∧ k.user = d.word 1 ∧ k.slot = d.slot ∧ k.alive = d.bits 0 16 8 ∧
        k.released = releases d.op ∧ k.late = late ∧ k.shadow = sh ∧ k.frame = fr % 2 ^ 32 ∧ k.detail = det) := by
  refine ⟨fun h => by simp [State.complete, h], fun h => ?_⟩
  have e : s.complete c d status fr late sh det = s.modCtx c (fun q => { q with cplq := q.cplq ++
      [({ op := d.op, status := status, released := releases d.op, late := late, shadow := sh,
          alive := d.bits 0 16 8, user := d.word 1, frame := fr % 2 ^ 32, slot := d.slot, detail := det } :
        Completion)] }) := by
    unfold State.complete
    rw [if_neg h]
  rw [e]
  exact ⟨rfl, _, rfl, rfl, rfl, rfl, rfl, rfl, rfl, rfl, rfl, rfl, rfl⟩

/-! ## The canonical form -/

/-- A put under a value other than the unlisted one keeps the class C copies canonical. -/
theorem canonical_of (t : State) (h1 : kSorted t.regs = true) (h2 : kSorted t.act = true)
    (h3 : kWf (fun _ => 0) t.cbits = true) : t.canonical = true := by
  unfold State.canonical
  rw [h1, h2, h3]
  rfl

theorem canonical_regs {s : State} (h : s.canonical = true) : kSorted s.regs = true := by
  simp only [State.canonical, Bool.and_eq_true] at h; exact h.1.1

theorem canonical_act {s : State} (h : s.canonical = true) : kSorted s.act = true := by
  simp only [State.canonical, Bool.and_eq_true] at h; exact h.1.2

theorem canonical_cbits {s : State} (h : s.canonical = true) : kWf (fun _ => 0) s.cbits = true := by
  simp only [State.canonical, Bool.and_eq_true] at h; exact h.2

/-- Whether a state is canonical depends on its registers, captured registers and copies alone. -/
theorem canonical_congr {s t : State} (h1 : t.regs = s.regs) (h2 : t.act = s.act) (h3 : t.cbits = s.cbits) :
    t.canonical = s.canonical := by simp [State.canonical, h1, h2, h3]

theorem canonical_setReg (a : Nat) (w : Word) (h : s.canonical = true) : (s.setReg a w).canonical = true :=
  canonical_of _ (kSorted_kput _ _ _ _ (canonical_regs h)) (canonical_act (s := s) h) (canonical_cbits (s := s) h)

theorem canonical_setRfld (a lo n v : Nat) (h : s.canonical = true) : (s.setRfld a lo n v).canonical = true :=
  canonical_setReg s a _ h

theorem kWf_orCopy (m : RegFile) (a r k : Nat) (h : kWf (fun _ => (0 : Word)) m = true) :
    kWf (fun _ => 0) (orCopy m a r k) = true := kWf_kput 0 m _ _ h

theorem canonical_putC (a r : Nat) (w : Word) (h : s.canonical = true) : (s.putC a r w).canonical = true :=
  canonical_of _ (canonical_regs (s := s) h) (canonical_act (s := s) h) (kWf_kput 0 _ _ _ (canonical_cbits h))

theorem canonical_setC1 (a r m : Nat) (h : s.canonical = true) : (s.setC1 a r m).canonical = true :=
  canonical_of _ (canonical_regs (s := s) h) (canonical_act (s := s) h) (kWf_orCopy _ _ _ _ (canonical_cbits h))

theorem canonical_setC (a m : Nat) (h : s.canonical = true) : (s.setC a m).canonical = true :=
  canonical_of _ (canonical_regs (s := s) h) (canonical_act (s := s) h)
    (kWf_orCopy _ _ _ _ (kWf_orCopy _ _ _ _ (kWf_orCopy _ _ _ _ (kWf_orCopy _ _ _ _ (kWf_orCopy _ _ _ _
      (canonical_cbits h))))))

theorem canonical_clearC1 (a r : Nat) (m : Word) (h : s.canonical = true) : (s.clearC1 a r m).canonical = true :=
  canonical_putC s a r _ h

theorem canonical_setCel (m : Nat) (h : s.canonical = true) : (s.setCel m).canonical = true := by
  unfold State.setCel
  split
  · exact canonical_setC s _ _ h
  · exact h

theorem canonical_setHbd (m : Nat) (h : s.canonical = true) : (s.setHbd m).canonical = true := by
  unfold State.setHbd
  split
  · exact canonical_setC s _ _ h
  · exact h

@[simp] theorem canonical_raiseEv (x : Source) (e : Event) : (s.raiseEv x e).canonical = s.canonical := rfl
@[simp] theorem canonical_emit (o : Output) : (s.emit o).canonical = s.canonical := rfl
@[simp] theorem canonical_modPort (p : Nat) (f : PortState → PortState) :
    (s.modPort p f).canonical = s.canonical := rfl
@[simp] theorem canonical_modCtx (c : Nat) (f : CtxState → CtxState) : (s.modCtx c f).canonical = s.canonical := rfl

theorem canonical_onlyIf (b : Bool) (f : State → State) (h : s.canonical = true)
    (hf : s.canonical = true → (f s).canonical = true) : (s.onlyIf b f).canonical = true := by
  unfold State.onlyIf
  split
  · exact hf h
  · exact h

/-- A fold of changes that each keep a property keeps it. -/
theorem foldl_keeps {β : Type} (P : State → Prop) (f : State → β → State) (l : List β)
    (hf : ∀ s b, P s → P (f s b)) (h : P s) : P (l.foldl f s) := by
  induction l generalizing s with
  | nil => exact h
  | cons b l ih => exact ih _ (hf s b h)

/-- A fold of changes that leave a part alone leaves it alone. -/
theorem foldl_frame {β γ : Type} (g : State → γ) (f : State → β → State) (l : List β)
    (hf : ∀ s b, g (f s b) = g s) : g (l.foldl f s) = g s := by
  induction l generalizing s with
  | nil => rfl
  | cons b l ih => exact (ih _).trans (hf s b)

end

end Sys2Proof.Machine
end

