-- ==== Sys2Proof/Laws/Hatband.lean ====
section
/-! SUPPORT. What the frames of the Hatband chain do (R410, R411): frames sent and repeated, the discard of a repeat,
and the three ways a member takes a frame. -/

namespace Sys2Proof.Machine

variable (s : State)

/-- A frame of its own (R410). -/
theorem hbSend_spec (up : Bool) (typ : Nat) (b : Bool) (dst : Nat) (p : List Nat) :
    s.sent (s.hbSend up typ b dst p) up typ b dst p ∧
      s.hbSend up typ b dst p = { s with out := (s.hbSend up typ b dst p).out,
                                         hb := { s.hb with alive := (s.hb.alive + 1) % 16 } } :=
  ⟨⟨rfl, rfl⟩, rfl⟩

/-- A frame repeated (R411). -/
theorem hbRepeat_spec (up : Bool) (f : HbFrame) : s.hbRepeat up f = s.repeated up f := rfl

/-- A flag of `HBD_ERR` touches the copies or, without the barrier channel, the bits that wait (R562). -/
theorem setHbd_frame (m : Nat) :
    s.setHbd m = { s with cbits := (s.setHbd m).cbits,
                          cel := { s.cel with hbErrPend := (s.setHbd m).cel.hbErrPend } } := by
  unfold State.setHbd
  split <;> rfl

/-- The flag is set for every reader while its storage takes what the cell side reports (R37, R81, R562). -/
theorem flagged_setHbd (m bit : Nat) (hb : bit < 32) (hm : m.testBit bit = true) (h : s.mirrorOpen = true) :
    (s.setHbd m).flagged Reg.HBD_ERR bit := by
  unfold State.setHbd
  rw [if_pos h]
  exact flagged_setC _ _ _ _ hb hm

/-- The same for `CEL_ERR`. -/
theorem setCel_frame (m : Nat) :
    s.setCel m = { s with cbits := (s.setCel m).cbits, cel := { s.cel with errPend := (s.setCel m).cel.errPend } } := by
  unfold State.setCel
  split <;> rfl

/-- The flag is set for every reader while its storage takes what the cell side reports. -/
theorem flagged_setCel (m bit : Nat) (hb : bit < 32) (hm : m.testBit bit = true) (h : s.mirrorOpen = true) :
    (s.setCel m).flagged Reg.CEL_ERR bit := by
  unfold State.setCel
  rw [if_pos h]
  exact flagged_setC _ _ _ _ hb hm

/-- What hearing a frame changes is the time since the head was heard (R424). -/
theorem hbHear_frame (f : HbFrame) :
    s.hbHear f = { s with hb := { s.hb with silentMs := if f.src = 0 then 0 else s.hb.silentMs } } := by
  unfold State.hbHear
  split <;> rfl

@[simp] theorem hbHear_aliveOf (f : HbFrame) : (s.hbHear f).hb.aliveOf = s.hb.aliveOf := by rw [hbHear_frame]
@[simp] theorem hbHear_out (f : HbFrame) : (s.hbHear f).out = s.out := by rw [hbHear_frame]

/-- A frame whose ALIVE the sender sent last is no new one (R410). -/
theorem hbAccept_repeat (f : HbFrame) (h : kfind s.hb.aliveOf f.src = some f.alive) : (s.hbAccept f).1 = false := by
  unfold State.hbAccept
  rw [h]
  simp only [if_true]
  split <;> rfl

/-- Any other is, and its ALIVE is the sender's last from then on (R410). -/
theorem hbAccept_new (f : HbFrame) (h : kfind s.hb.aliveOf f.src ≠ some f.alive) :
    (s.hbAccept f).1 = true ∧ (s.hbAccept f).2.hb = { s.hb with aliveOf := kset s.hb.aliveOf f.src f.alive } ∧
      (s.hbAccept f).2.out = s.out ∧ (s.hbAccept f).2.evt = s.evt ∧ s.chainOnly (s.hbAccept f).2 ∧
      (s.hbAccept f).2.cel = { s.cel with hbErrPend := (s.hbAccept f).2.cel.hbErrPend } := by
  unfold State.hbAccept
  cases hk : kfind s.hb.aliveOf f.src with
  | none => exact ⟨rfl, rfl, rfl, rfl, ⟨rfl, rfl, rfl, rfl, rfl, rfl, rfl, rfl, rfl, rfl, rfl, rfl⟩, rfl⟩
  | some a =>
    have ha : ¬ f.alive = a := fun e => h (by rw [hk, e])
    simp only [ha, if_false]
    split
    · exact ⟨rfl, rfl, rfl, rfl, ⟨rfl, rfl, rfl, rfl, rfl, rfl, rfl, rfl, rfl, rfl, rfl, rfl⟩, rfl⟩
    · simp only [State.setHbd]
      split <;> exact ⟨trivial, rfl, rfl, rfl, ⟨rfl, rfl, rfl, rfl, rfl, rfl, rfl, rfl, rfl, rfl, rfl, rfl⟩, rfl⟩

/-- A member repeats a frame that is neither for it alone nor broadcast (R411). -/
theorem hbToMember_other (up : Bool) (f : HbFrame) (act : State → State) (h1 : hbMember s = true)
    (h2 : f.bcast = false) (h3 : f.dst ≠ hbAddr s) : s.hbToMember up f act = (s.hbHear f).repeated up f := by
  have hm : hbMine s f = false := by simp [hbMine, h2, h3]
  simp [State.hbToMember, h1, hm, h2, hbRepeat_spec]

/-- A member acts on a new frame that is for it alone (R410, R411). -/
theorem hbToMember_mine (up : Bool) (f : HbFrame) (act : State → State) (h : s.heeds f) :
    s.hbToMember up f act = act ((s.hbHear f).hbAccept f).2 := by
  obtain ⟨h1, h2, h3, h4⟩ := h
  have hm : hbMine s f = true := by simp [hbMine, h2, h3]
  simp [State.hbToMember, h1, hm, h2, (hbAccept_new (s.hbHear f) f (by simpa using h4)).1]

/-- A device that acts as no member does nothing with it. -/
theorem hbToMember_off (up : Bool) (f : HbFrame) (act : State → State) (h : hbMember s = false) :
    s.hbToMember up f act = s := by simp [State.hbToMember, h]

/-- The head acts on a new frame that is for it (R410, R411). -/
theorem hbToHead_mine (up : Bool) (f : HbFrame) (act : State → State) (h1 : hbHead s = true) (h2 : f.bcast = false)
    (h3 : f.dst = hbAddr s) (h4 : kfind s.hb.aliveOf f.src ≠ some f.alive) :
    s.hbToHead up f act = act (s.hbAccept f).2 := by
  have hm : hbMine s f = true := by simp [hbMine, h2, h3]
  simp [State.hbToHead, h1, hm, (hbAccept_new s f h4).1]

end Sys2Proof.Machine
end

