-- ==== Sys2Proof/Laws/Link.lean ====
section
/-! SUPPORT. What sending does (R122, R152, R154, R156): blocks change the lanes and the outputs, a packet leaves and stays
for a replay, or waits; and what receiving does: what the blocks bring takes effect. -/

namespace Sys2Proof.Machine

/-- A packet that leaves stays in the replay buffer, and those that were there stay. -/
theorem sendOne_replay (q : PortState) (k : TxPacket) :
    (q.sendOne k).replay = q.replay ++ [(q.txSeq, k)] ∧ (q.sendOne k).txWait = q.txWait := by
  unfold PortState.sendOne PortState.putFar
  split
  · exact ⟨rfl, rfl⟩
  · split <;> exact ⟨rfl, rfl⟩

/-- The pump loses nothing that was kept for a replay. -/
theorem pump_keeps_replay (ks : List TxPacket) (q : PortState) (blocked : List Nat) (x : Nat × TxPacket)
    (h : x ∈ q.replay) : x ∈ (q.pump blocked ks).1.replay := by
  induction ks generalizing q blocked with
  | nil => exact h
  | cons k ks ih =>
    unfold PortState.pump
    split
    · exact h
    · split
      · exact ih _ _ (by rw [(sendOne_replay q k).1]; simp [h])
      · exact ih _ _ h

/-- Every packet given to the pump has left, and stays for a replay, or waits. -/
theorem pump_issued (ks : List TxPacket) (q : PortState) (blocked : List Nat) (k : TxPacket) (h : k ∈ ks) :
    k ∈ (q.pump blocked ks).1.txWait ∨ ∃ n, (n, k) ∈ (q.pump blocked ks).1.replay := by
  induction ks generalizing q blocked with
  | nil => simp at h
  | cons a ks ih =>
    unfold PortState.pump
    split
    · exact Or.inl h
    · rcases List.mem_cons.mp h with rfl | h
      · split
        · exact Or.inr ⟨q.txSeq, pump_keeps_replay ks _ _ _ (by rw [(sendOne_replay q k).1]; simp)⟩
        · exact Or.inl (by simp)
      · split
        · exact ih _ _ h
        · rcases ih q (a.pool :: blocked) h with h | h
          · exact Or.inl (by simp [h])
          · exact Or.inr h

/-! ## Blocks on the lanes -/

/-- A block on one lane changes the lanes. -/
theorem txLane_frame (q : PortState) (l : Nat) (send : LaneState → Block × LaneState) :
    (q.txLane l send).1 = { q with lane := (q.txLane l send).1.lane } := rfl

theorem txBurst_frame (q : PortState) (mask l : Nat) :
    (q.txBurst mask l).1 = { q with lane := (q.txBurst mask l).1.lane } := by
  unfold PortState.txBurst
  split
  · exact txLane_frame _ _ _
  · split
    · exact txLane_frame _ _ _
    · rfl

/-- One item changes the lanes and the place in the stream. -/
theorem txItem_frame (q : PortState) (i : TxItem) :
    (q.txItem i).1 = { q with lane := (q.txItem i).1.lane, txPos := (q.txItem i).1.txPos } := by
  cases i with
  | stream b =>
    unfold PortState.txItem
    dsimp only
    rw [txLane_frame]
  | msg w =>
    unfold PortState.txItem
    dsimp only
    rw [txLane_frame, txLane_frame q]
  | burst mask =>
    unfold PortState.txItem
    dsimp only
    rw [txBurst_frame, txBurst_frame q]

/-- Items that are sent change the lanes, the place in the stream and what waits for the next marker. -/
theorem txRun_frame (is : List TxItem) (q : PortState) :
    (q.txRun is).1 = { q with lane := (q.txRun is).1.lane, txPos := (q.txRun is).1.txPos, txQ := (q.txRun is).1.txQ } := by
  induction is generalizing q with
  | nil => rfl
  | cons i is ih =>
    unfold PortState.txRun
    split
    · dsimp only
      rw [ih, txItem_frame]
    · rfl

/-- Sending items says nothing but blocks. -/
theorem said_blocks (s : State) (p : Nat) (bs : List (Nat × Block)) : (s.emits (blocksOut p bs)).said = s.said := by
  unfold State.said State.emits blocksOut
  rw [List.filter_append]
  have h : (bs.map (fun x => Output.block p x.1 x.2)).filter (fun o => !o.isBlock) = [] := by
    rw [List.filter_eq_nil_iff]
    intro o ho
    obtain ⟨x, -, rfl⟩ := List.mem_map.mp ho
    simp [Output.isBlock]
  rw [h, List.append_nil]

/-- Sending items changes the port and the outputs, and says nothing but blocks. -/
theorem txSend_frame (s : State) (p : Nat) (is : List TxItem) :
    s.txSend p is = { s with port := (s.txSend p is).port, out := (s.txSend p is).out } ∧
      (s.txSend p is).said = s.said := by
  unfold State.txSend
  split
  · exact ⟨rfl, said_blocks _ _ _⟩
  · exact ⟨rfl, rfl⟩

/-- Of its port sending items changes the lanes, the place in the stream and what waits for the next marker. -/
theorem txSend_port (s : State) (p : Nat) (is : List TxItem) :
    vget (s.txSend p is).port p = { vget s.port p with
      lane := (vget (s.txSend p is).port p).lane, txPos := (vget (s.txSend p is).port p).txPos
      txQ := (vget (s.txSend p is).port p).txQ } := by
  unfold State.txSend
  split
  · simp only [State.emits, State.modPort, vget_vmod_self]
    exact txRun_frame _ _
  · rfl

/-- The other ports stay as they are. -/
theorem txSend_other (s : State) (p r : Nat) (is : List TxItem) (h : r % 4 ≠ p % 4) :
    vget (s.txSend p is).port r = vget s.port r := by
  unfold State.txSend
  split
  · simp only [State.emits, State.modPort]
    exact vget_vmod_ne _ _ _ _ h
  · rfl

/-! ## Packets -/

/-- Packets that go out change the port and the outputs. -/
theorem pumpPort_frame (s : State) (p : Nat) :
    s.pumpPort p = { s with port := (s.pumpPort p).port, out := (s.pumpPort p).out } := by
  unfold State.pumpPort
  dsimp only
  split
  · rw [(txSend_frame _ _ _).1]
    rfl
  · rfl

/-- Issuing packets changes the port and the outputs only. -/
theorem sendPackets_frame (s : State) (p : Nat) (ks : List TxPacket) :
    s.sendPackets p ks = { s with port := (s.sendPackets p ks).port, out := (s.sendPackets p ks).out } := by
  unfold State.sendPackets
  split
  · rw [pumpPort_frame]
    rfl
  · rfl

/-- Issuing packets on a port that is not UP changes nothing (R156). -/
theorem sendPackets_down (s : State) (p : Nat) (ks : List TxPacket) (h : (vget s.port p).st ≠ .up) :
    s.sendPackets p ks = s := by simp [State.sendPackets, h]

/-- On a port that is UP every packet is issued (R152, R154). -/
theorem sendPackets_issued (s : State) (p : Nat) (ks : List TxPacket) (h : (vget s.port p).st = .up) (k : TxPacket)
    (hk : k ∈ ks) : (s.sendPackets p ks).issued p k := by
  unfold State.sendPackets
  rw [if_pos h]
  unfold State.pumpPort
  have hp : (vget (s.modPort p (fun q => { q with txWait := q.txWait ++ ks })).port p)
      = { vget s.port p with txWait := (vget s.port p).txWait ++ ks } := vget_vmod_self _ _ _
  dsimp only
  rw [hp]
  simp only [h, if_true]
  unfold State.issued
  rw [txSend_port]
  simp only [State.emits, State.modPort, vget_vmod_self]
  exact pump_issued _ _ _ _ (by simp [hk])

/-- The other ports stay as they are. -/
theorem sendPackets_other (s : State) (p r : Nat) (ks : List TxPacket) (h : r % 4 ≠ p % 4) :
    vget (s.sendPackets p ks).port r = vget s.port r := by
  unfold State.sendPackets
  split
  · unfold State.pumpPort
    dsimp only
    split
    · rw [txSend_other _ _ _ _ h]
      simp only [State.emits, State.modPort]
      rw [vget_vmod_ne _ _ _ _ h, vget_vmod_ne _ _ _ _ h]
    · simp only [State.modPort]
      rw [vget_vmod_ne _ _ _ _ h]
  · rfl

/-- A host write over a port that is UP issues each of its packets (R143, R144). -/
theorem hostWrite_issued (s : State) (p addr : Nat) (bytes : List Nat) (h : (vget s.port p).st = .up) :
    ∀ w ∈ cutWrite (maxPayload s p) (bytes.length + 1) addr bytes, (s.hostWrite p addr bytes).issued p w :=
  fun w hw => sendPackets_issued s p _ h w hw

/-! ## Reception -/

/-- A part of the port replaced twice. -/
theorem modPort_twice (s : State) (p : Nat) (a b : PortState) :
    (s.modPort p (fun _ => a)).modPort p (fun _ => b) = s.modPort p (fun _ => b) := by
  unfold State.modPort vmod vset
  simp

/-- Blocks that bring one thing in their last period have that take effect, on the port as the line side left it. -/
theorem receive_lineOne (p : Fin 4) (i : LineItem) (q : PortState) (rx : List RxSlot) (s : State)
    (h : (vget s.port p.val).lineOne p.val rx = some (q, i)) :
    rx.foldl (fun (s : State) x => s.receiveSlot p x) s = (s.modPort p.val (fun _ => q)).lineItem p i := by
  induction rx generalizing s with
  | nil => simp [PortState.lineOne] at h
  | cons x xs ih =>
    unfold PortState.lineOne at h
    rcases hr : (vget s.port p.val).lineSlot p.val x with ⟨q', is⟩
    rw [hr] at h
    have step : s.receiveSlot p x = is.foldl (fun (s : State) i => s.lineItem p i) (s.modPort p.val (fun _ => q')) := by
      unfold State.receiveSlot
      rw [hr]
    match is, xs, h with
    | [j], [], h =>
      simp only [Option.some.injEq, Prod.mk.injEq] at h
      obtain ⟨rfl, rfl⟩ := h
      simp only [List.foldl_cons, List.foldl_nil]
      rw [step]
      rfl
    | [], y :: ys, h =>
      rw [List.foldl_cons, step, List.foldl_nil]
      have hq : vget (s.modPort p.val (fun _ => q')).port p.val = q' := vget_vmod_self _ _ _
      rw [ih (s.modPort p.val (fun _ => q')) (by rw [hq]; exact h), modPort_twice]

/-- What a command of reception does where its blocks bring one thing. -/
theorem receive_brings (s : State) (c : Instr) (p : Fin 4) (i : LineItem) (u : State) (h : s.brings c p i u) :
    exec c s = .next (u.lineItem p i) := by
  obtain ⟨ha, rx, q, hc, hl, rfl⟩ := h
  have hr : s.receive p rx = (s.modPort p.val (fun _ => q)).lineItem p i := by
    unfold State.receive State.onlyIf
    rw [if_pos ha]
    exact receive_lineOne p i q rx s hl
  cases c <;> simp only [rxOf, Option.some.injEq, Prod.mk.injEq, reduceCtorEq] at hc <;>
    (obtain ⟨rfl, rfl⟩ := hc; exact congrArg Host.Outcome.next hr)

end Sys2Proof.Machine
end

