-- ==== Sys2Proof/Laws/Resets.lean ====
section
/-! SUPPORT. What the resets of the logic side, the end of stand-by and the AON slots do (R67, R75 to R81). -/

namespace Sys2Proof.Machine

/-- A blow cut short changes the fuses and takes a free value; it changes nothing else (R541). -/
theorem fuseAbort_frame (s : State) :
    s.fuseAbort = { s with free := s.fuseAbort.free, fuse := s.fuseAbort.fuse } := by
  unfold State.fuseAbort
  split <;> rfl

/-- A slot that the reset cuts off takes a free value, and its content may be open; nothing else changes (R370). -/
theorem snapCut_frame (s : State) :
    s.snapCut = { s with free := s.snapCut.free, arc := { s.arc with snap := s.snapCut.arc.snap } } := by
  unfold State.snapCut
  split
  · rfl
  · dsimp only
    split <;> rfl

/-- Where no slot is being written, nothing is cut off. -/
theorem snapCut_none (s : State) (h : s.pat.staging = none) : s.snapCut = s := by simp [State.snapCut, h]

/-- What of the state that is being reset the reset looks at (R75, R370, R541). -/
theorem cut_frame (s : State) :
    s.fuseAbort.snapCut = { s with free := s.fuseAbort.snapCut.free, fuse := s.fuseAbort.snapCut.fuse,
                                   arc := { s.arc with snap := s.fuseAbort.snapCut.arc.snap } } := by
  rw [snapCut_frame, fuseAbort_frame]

/-- The copies that a hard reset leaves (R75): those of `GLB_RST_CAUSE`, with the cause. -/
theorem cCopy_hardReset (s : State) (c addr r : Nat) (hr : r < 5) :
    (s.logicReset false c).cCopy addr r =
      if addr = Reg.GLB_RST_CAUSE then s.cCopy addr r ||| BitVec.ofNat 32 c else 0 := by
  have e2 : s.fuseAbort.snapCut.cbits = s.cbits := by rw [cut_frame]
  unfold State.logicReset
  simp only [cCopy_setC _ _ _ _ _ hr]
  have h : ∀ a, (kget (0 : Word) (keptCopies s.fuseAbort.snapCut false) (copyKey a r)) =
      if a = Reg.GLB_RST_CAUSE then s.cCopy a r else 0 := by
    intro a
    unfold keptCopies
    simp only [Bool.false_and, Bool.or_false]
    rw [kget_filter 0 _ (fun k => decide (k / 8 = Reg.GLB_RST_CAUSE)), e2]
    have : copyKey a r / 8 = a := by unfold copyKey; omega
    simp [this, State.cCopy]
  simp only [State.cCopy] at h ⊢
  rw [h]
  by_cases ha : addr = Reg.GLB_RST_CAUSE <;> simp [ha]

/-- The registers that a hard reset leaves (R75, R78): those of the cell side. -/
theorem regs_hardReset (s : State) (c a : Nat) (d : Word) :
    kget d (s.logicReset false c).regs a = if isCellAddr a then kget d s.regs a else d := by
  have e1 : s.fuseAbort.snapCut.regs = s.regs := by rw [cut_frame]
  show kget d (keptRegs s.fuseAbort.snapCut false) a = _
  unfold keptRegs
  simp only [Bool.false_and, Bool.or_false, Bool.false_eq_true, if_false]
  rw [kget_filter _ _ (fun k => isCellAddr k), e1]

/-- What a hard reset of the logic side leaves (R75, R78). -/
theorem hardReset_spec (s : State) (c : Nat) :
    s.hardResetTo (s.logicReset false c) c ∧ (s.logicReset false c).aon = s.aon ∧
      (s.logicReset false c).out = s.out ∧ (s.logicReset false c).dbg = s.dbg := by
  have hf := cut_frame s
  have e3 : s.fuseAbort.snapCut.scn = s.scn := by rw [hf]
  have e4 : s.fuseAbort.snapCut.cel = s.cel := by rw [hf]
  have e5 : s.fuseAbort.snapCut.hb = s.hb := by rw [hf]
  have e6 : s.fuseAbort.snapCut.arc = { s.arc with snap := s.fuseAbort.snapCut.arc.snap } := by rw [hf]
  have e7 : s.fuseAbort.snapCut.aon = s.aon := by rw [hf]
  have e8 : s.fuseAbort.snapCut.pending = s.pending := by rw [hf]
  have e9 : s.fuseAbort.snapCut.out = s.out := by rw [hf]
  have e10 : s.fuseAbort.snapCut.dbg = s.dbg := by rw [hf]
  have e11 : s.fuseAbort.pat = s.pat := by rw [fuseAbort_frame]
  have e12 : s.fuseAbort.arc = s.arc := by rw [fuseAbort_frame]
  refine ⟨⟨rfl, rfl, rfl, rfl, rfl, rfl, rfl, rfl, ?_, ?_, ?_, ?_, rfl, rfl, rfl, rfl, rfl, rfl, rfl, rfl, rfl, rfl,
    rfl, ?_, rfl, rfl, rfl, e6, ?_, e4, e5, e8⟩, e7, e9, e10⟩
  · intro r hr; rw [cCopy_hardReset s c _ r hr]; simp
  · intro a r hr h; rw [cCopy_hardReset s c _ r hr]; simp [h]
  · intro a h
    show kget _ (s.logicReset false c).regs a = _
    rw [regs_hardReset, h]
    rfl
  · intro a h; rw [regs_hardReset, h]; rfl
  · show ({ lfsr := s.fuseAbort.snapCut.scn.frame % 2 ^ 32 } : PatState) = _
    rw [e3]
  · intro h
    show s.fuseAbort.snapCut.arc = s.arc
    rw [snapCut_none _ (by rw [e11]; exact h), e12]

/-- The canonical form survives every reset of the logic side. -/
theorem canonical_logicReset (s : State) (soft : Bool) (c : Nat) (h : s.canonical = true) :
    (s.logicReset soft c).canonical = true := by
  have e1 : s.fuseAbort.snapCut.regs = s.regs := by rw [cut_frame]
  have e2 : s.fuseAbort.snapCut.cbits = s.cbits := by rw [cut_frame]
  unfold State.logicReset
  apply canonical_setC
  apply canonical_of
  · show kSorted (keptRegs s.fuseAbort.snapCut soft) = true
    unfold keptRegs
    rw [e1]
    have hk := kSorted_filter s.regs (fun q => isCellAddr q.1 || (soft && isSafAddr q.1)) (canonical_regs h)
    split
    · exact kSorted_kput _ _ _ _ hk
    · exact hk
  · rfl
  · show kWf _ (keptCopies s.fuseAbort.snapCut soft) = true
    unfold keptCopies
    rw [e2]
    exact kWf_filter _ _ _ (canonical_cbits h)

/-- Bits of the cell side that waited cross where its storage takes them, and nothing else changes (R564). -/
theorem flushErr_frame (s : State) :
    s.flushErr = { s with cbits := s.flushErr.cbits, cel := s.flushErr.cel } := by
  unfold State.flushErr
  split <;> rfl

/-- A saved AON slot (R67): the slot not written last holds the counters, the other one stays. -/
theorem aonSave_spec (s : State) :
    s.aonSave = { s with arc := s.aonSave.arc } ∧ s.aonSave.arc.aonLast = aonNext s ∧
      vget s.aonSave.arc.aon (aonNext s) = some ⟨s.aon.opsec, s.aon.pwrcyc⟩ ∧
      ∀ i, i < 2 → i ≠ aonNext s → vget s.aonSave.arc.aon i = vget s.arc.aon i := by
  refine ⟨rfl, rfl, vget_vset_self _ _ _, fun i hi h => ?_⟩
  refine vget_vset_ne _ _ _ _ ?_
  have : aonNext s < 2 := by unfold aonNext; omega
  rw [Nat.mod_eq_of_lt hi, Nat.mod_eq_of_lt this]
  exact h

/-- A write of `GLB_RST_CTL` does one of four things (R80, R81). -/
theorem rstCtlWrite_cases (s : State) (data : Word) :
    s.rstCtlWrite data = s ∨ (keyed data 0x5A = true ∧ acts data 0 = true ∧ s.rstCtlWrite data = s.logicReset true 32) ∨
      (keyed data 0x5A = true ∧ acts data 0 = false ∧ acts data 1 = true ∧ s.rstCtlWrite data = s.standbyEnter) := by
  unfold State.rstCtlWrite
  cases keyed data 0x5A <;> cases acts data 0 <;> cases acts data 1 <;> simp

end Sys2Proof.Machine
end

