-- ==== Sys2Proof/Tests/Slice0.lean ====
section
/-! SUPPORT. The model's own tests: worked examples of the spec, commands that no sender can send, and a state and operands
that meet the hypotheses of each clause of each statement. -/

set_option Elab.async false
namespace Sys2Proof.Tests
open Sys2Proof Sys2Proof.Machine

/-! ## States -/

/-- The block after reset. -/
def wR : State := State.reset

/-- AON has stopped. -/
def wOff : State := { wR with aon := { wR.aon with running := false } }

/-- The block runs, its PLLs locked and the Docent running. -/
def wUp : State := { wR with pwr := { wR.pwr with coreLock := true, memLock := true, scanLock := true, sfaLock := true, docent := .running }, regs := [(0x44, 7), (0x110000, 0x12345)] , cur := { wR.cur with ce := 7 } }

/-- Stand-by. -/
def wStby : State := { wUp with pwr := { wUp.pwr with standby := true } }

/-- A reset is in force. -/
def wIn : State := { wR with pwr := { wR.pwr with inReset := true } }

/-- Blocks scrambled as a lane sends them, from a register content. -/
def scrLine : BitVec 58 → List Block → List Block
  | _, [] => []
  | x, b :: bs => { b with payload := (scramble x b.payload).1 } :: scrLine (scramble x b.payload).2 bs

/-- Blocks on one lane, a period each. -/
def onLane (l : Nat) (bs : List Block) : List RxSlot := bs.map (fun b => if l = 0 then ⟨some b, none⟩ else ⟨none, some b⟩)

/-- A LINK_MSG on a lane whose descrambler holds 0. -/
def rxMsg (l code field : Nat) : List RxSlot := onLane l (scrLine 0 [controlBlock (msgPayload code field)])

/-- A packet on lane 0, whose descrambler holds 0. -/
def rxPkt (bs : List Nat) : List RxSlot := onLane 0 (scrLine 0 (frame bs))

/-- A state with registers over those it has. -/
def withRegs (s : State) (l : List (Nat × Word)) : State := { s with regs := l ++ s.regs }

/-! ## Worked examples of the spec -/

/-- R474: nine bytes on CVU[2] give RESULT 0xE306_9283. -/
theorem test_cvu_worked_example :
    (match exec (.cvuCtlWrite 2 (cvuCtlStored (resetWord false 0 (cvuReg Reg.CVU_CTL 2)) ||| 1)) wUp with
     | .next t =>
       match exec (.cvuDataWrite 2 [0x31, 0x32, 0x33, 0x34, 0x35, 0x36, 0x37, 0x38, 0x39]) t with
       | .next u => decide (cvuResult u 2 = 0xE3069283 ∧ (vget u.cvu 2).bytes = 9)
       | _ => false
     | _ => false) = true := by decide +kernel

/-- R102: 0xFF01_5A01 requests the soft reset, 0x0101_5A01 does not write the key and changes nothing. -/
theorem test_soft_reset_key :
    (match exec (.softReset 0xFF015A01) wUp with
     | .next t => t.pwr.inReset && t.pwr.soft
     | _ => false) = true ∧
    (match exec (.softReset 0x01015A01) wUp with
     | .next t => decide (t = wUp)
     | _ => false) = true := by decide +kernel

/-- R97: of a burst into SCAN the second word, sent while the first has not landed, is dropped; the third, sent after the
first has landed, is taken. -/
theorem test_slow_burst :
    (match exec (.mgmtWrite 0x60100 [(1, []), (2, []), (3, [.scan])] false) wUp with
     | .next t => decide ((t.acc.q .scan).map (fun x => (x.addr, x.data)) = [(0x60108, 3)]) &&
         (t.cCopy Reg.RAC_STATUS 4).getLsbD 0
     | _ => false) = true := by decide +kernel

/-- R115, R116: the set 6/42/16 is valid, the set 8/36/20 is not. -/
theorem test_txeq_sets : txeqValid 0x00102A06 = true ∧ txeqValid 0x00142408 = false := by decide +kernel

/-- R139: a packet of 536 bytes takes a START, 66 data blocks and a TERM of type 0x81. -/
theorem test_frame_example :
    (frame (List.replicate 536 0)).length = 68 ∧
    ((frame (List.replicate 536 0)).getLast?.map (fun b => payByte b.payload 0)) = some 0x81 := by decide +kernel

/-- R142, R156: a memory write of 512 bytes is a packet of 536 bytes. -/
theorem test_packet_size : ((TxPacket.mwr 0 (List.replicate 512 0)).bytes 0x0FFE).length = 536 := by decide +kernel

/-- R119, R120: a block that is scrambled comes back, and a marker shows its lane and its count. -/
theorem test_line_coding :
    (descramble (BitVec.allOnes 58) (scramble (BitVec.allOnes 58) 0x0123456789ABCDEF).1).1 = 0x0123456789ABCDEF ∧
    markerOk 2 (amPayload 2 1 200 0x5A) = true ∧ payByte (amPayload 2 1 200 0x5A) 3 = 200 := by decide +kernel

/-- R203, R233: a surface of 1,920 × 1,080 of FORMAT 0x29 holds 6,220,800 bytes in 760 pages. -/
theorem test_surface_pages :
    surfaceBytes 0x29 1920 1080 = 6220800 ∧ pagesOf (surfaceBytes 0x29 1920 1080) = 760 := by decide +kernel

/-- R247: two elements fold to a green of 458,945. -/
theorem test_fold_example :
    ((Fold.mk [0, 393600, 0] 16336).behind (Fold.mk [0, 262144, 0] 0)).p = [0, 458945, 0] := by decide +kernel

/-- R272 to R274: the dither threshold and the output LUT of the pipeline example. -/
theorem test_dither_and_lut :
    ditherT 2 0x3A 5 2 1 = 227328 ∧
    lutCode (fun i => if i = 4096 + 1187 then 2370 else if i = 4096 + 1188 then 2372 else 0) 8191 1 2376 = 2372 := by
  decide +kernel

/-- R269: a change from 65,535 to 16,384 needs 348 frames. -/
theorem test_ramp_length : rampNeeded 65535 16384 = 348 := by decide +kernel

/-- R287: the on-times of code 4,919 in sub-frames 4 and 5 of 16. -/
theorem test_on_times : onTime 4 4919 4 = 308 ∧ onTime 4 4919 5 = 307 := by decide +kernel

/-- R315, R318, R345: lengths of a line, of an upload and of a status read for C = 48, Nd = 60, S = 32. -/
theorem test_upload_length :
    let g : Nat → Word := fun a => kget 0 [(Reg.CCH_GEOM, 0x003C0002), (Reg.SCN_SH_MODE, 1)] a
    linePeriods false g = 23745 ∧ tU false g = 759849 ∧ readPeriods false g = 23530 := by decide +kernel

/-- R7, R328: emitter 322,861 has entry 9,517 of the channel map, and 0x8005_0415 is chain 5, position 1,045. -/
theorem test_channel_map : entryOf 1536 32 322861 = 9517 ∧ mapEntry 0x80050415 = some (5, 1045) := by decide +kernel

/-- R362, R366, R367: the dose step, the efficiency and the gain of the Patina example. -/
theorem test_patina_example :
    let s : State := { wUp with
      act := [(Reg.SCN_SH_GCK, 12288), (Reg.PIX_GEOM, 0x00100010)]
      pat := { wUp.pat with weight := [(0, 8192)], curve := [(65 + 6, 30000), (65 + 7, 29600)] } }
    doseKf s = 229065 ∧ doseStep s 229065 2372 7 = 16581 ∧ efficiency s 1 40000000 = 29933 ∧
      gainTarget 27853 29933 = 30491 := by decide +kernel

/-- R380: the governor's factor rises from 55,802 to 56,020. -/
theorem test_governor_rise : riseLimit 55802 = 56020 := by decide +kernel

/-- R388, R400: cell 5 balances with 200 mA, and the results of cells 4 and 5 are corrected by 0.2 V. -/
theorem test_balance_example :
    let s : State := withRegs { wUp with cel := { wUp.cel with thru := true, bal := 0x10 } }
      [(Reg.CEL_RES, 10 + 190 * 256 + 100 * 65536)]
    (s.celCorrect [0, 0, 0, 0, 40000, 0] 4 38000).1 = 40000 ∧
    (s.celCorrect [0, 0, 0, 0, 40000, 0] 3 41500).1 = 39500 ∧
    balanceSets true 0x30 false = (0x10, 0x20) ∧ balanceSets true 0x30 true = (0x20, 0x10) := by decide +kernel

/-- Payload of a response with EVALID, a state of charge in 0.01 % and a next current in mA. -/
def answer (soc inext : Nat) : List Nat :=
  List.replicate 8 0 ++ [0, 0x80] ++ List.replicate 42 0 ++ bytesBE 2 soc ++ List.replicate 4 0 ++ bytesBE 4 inext

/-- R428, R429: the transfer plan of four segments and the high times of its set-points. -/
theorem test_transfer_plan :
    let m := fun (p soc inext : Nat) => ({ pos := p, resp := answer soc inext } : HbMember)
    let s : State := withRegs { wUp with hb := {
      members := [m 0 6200 3000, m 1 6050 5400, m 2 6300 2600, m 3 6250 3800] } } [(Reg.HBD_XFER_CTL, 0x00C807D0)]
    hbPlan s 0 = [(0, -44), (1, 127), (2, -83), (3, 0)] ∧
    [(-44 : Int), 127, -83, 0].map (fun x => xferHigh { s with hb := { s.hb with x := x } }) = [361, 900, 239, 0] := by
  decide +kernel

/-- R442: the gate at j = 50 of a ramp of 100 ticks. -/
theorem test_ramp_gate : rampGate 65535 100 50 = 32767 := by decide +kernel

/-! ## What is heard on the lanes -/

/-- What a command brings to a port, with the state on which it acts: a value of the premise `State.brings`. -/
def heard (s : State) (c : Instr) (p : Fin 4) : Option (LineItem × State) :=
  if s.awake then
    match rxOf c with
    | some (p', rx) =>
      if p' = p then
        match (vget s.port p.val).lineOne p.val rx with
        | some (q, i) => some (i, s.modPort p.val (fun _ => q))
        | none => none
      else none
    | none => none
  else none

theorem heard_brings (s : State) (c : Instr) (p : Fin 4) (i : LineItem) (u : State) (h : heard s c p = some (i, u)) :
    s.brings c p i u := by
  unfold heard at h
  split at h
  case isTrue hw =>
    split at h
    · rename_i p' rx hr
      split at h
      · rename_i hp
        subst hp
        split at h
        · rename_i q j hq
          cases h
          exact ⟨hw, rx, q, hr, hq, rfl⟩
        · cases h
      · cases h
    · cases h
  case isFalse => cases h

/-- The good TRANS packet with the expected number that a command brings. -/
def heardTrans (s : State) (c : Instr) (p : Fin 4) : Option (Trans × State) :=
  match heard s c p with
  | some (.packet bs, u) =>
    if packetGood bs = true ∧ kindOf bs = kindTrans ∧ (vget u.port p.val).st = .up ∧
        (transOf bs).seq = (vget u.port p.val).next then some (transOf bs, u)
    else none
  | _ => none

theorem heardTrans_brings (s : State) (c : Instr) (p : Fin 4) (x : Trans) (u : State)
    (h : heardTrans s c p = some (x, u)) : s.bringsTrans c p x u := by
  unfold heardTrans at h
  split at h
  · rename_i bs v hb
    split at h
    · rename_i hc
      cases h
      exact ⟨bs, heard_brings s c p _ _ hb, hc.1, hc.2.1, rfl, hc.2.2.1, hc.2.2.2⟩
    · cases h
  · cases h

/-- The bytes of a bad packet that a command brings. -/
def heardBad (s : State) (c : Instr) (p : Fin 4) : Option (List Nat × State) :=
  match heard s c p with
  | some (.packet bs, u) => if packetGood bs = false then some (bs, u) else none
  | some (.broken bs, u) => some (bs, u)
  | _ => none

/-! ## The block's form -/

/-- No word spells a command (log entry 6). -/
theorem test_no_word : decodeTableWord 0 0 = none ∧ decodeTableWord 32 0xFFFFFFFF = none := by decide

/-- A step takes the command at the front and leaves the rest. -/
theorem test_step_takes_front :
    (match step { wUp with pending := [.serviceReload, .idcode] } with
     | .next t => decide (t.pending = [.idcode] ∧ t.cmt.svcReload = true)
     | _ => false) = true := by decide +kernel

/-! ## Commands that no sender can send -/

/-- Start-up and straps. -/
theorem test_wf_start :
    (Instr.resetRelease (List.replicate 9 true) 1800 []).wf = false ∧
    (Instr.resetRelease (List.replicate 10 true) 1800 [99]).wf = false ∧
    (Instr.legacyResample (List.replicate 11 true) 1800 []).wf = false ∧
    (Instr.haStrapSample [1, 1, 1]).wf = false ∧ (Instr.haStrapSample [1, 1, 1, 32]).wf = false ∧
    (Instr.haStrapCheck 32).wf = false := by decide

/-- The management port. -/
theorem test_wf_mgmt :
    (Instr.mgmtRead (2 ^ 32) 1 false).wf = false ∧ (Instr.mgmtWrite (2 ^ 32) [(0, [])] false).wf = false ∧
    (Instr.qread (2 ^ 32)).wf = false ∧ (Instr.mgmtBadOpcode 256).wf = false ∧
    (Instr.mgmtBadOpcode 0x0B).wf = false ∧ (Instr.mgmtBadOpcode 0x02).wf = false ∧
    (Instr.mgmtBadOpcode 0x0C).wf = false := by decide

/-- Lanes. -/
theorem test_wf_lanes :
    (Instr.laneForegroundCalDone 0 0 (List.replicate 8 none)).wf = false ∧
    (Instr.adaptationDone 0 0 16 [0, 0, 0, 0, 0]).wf = false ∧ (Instr.adaptationDone 0 0 8 [0, 0, 0, 0]).wf = false ∧
    (Instr.adaptationDone 0 0 8 [0, 0, 0, 0, 32]).wf = false ∧
    (Instr.adaptationDone 0 0 8 [0, 0, 0, 0, -33]).wf = false ∧
    (Instr.eyeScan 0 0 64 0).wf = false ∧ (Instr.eyeScan 0 0 0 256).wf = false := by decide

/-- DRAM rows, tables and chains. -/
theorem test_wf_memories :
    (Instr.patrolScrub ⟨4, 0, 0⟩ none .other).wf = false ∧ (Instr.dramReadEccError ⟨0, 16, 0⟩ true .other).wf = false ∧
    (Instr.dramReadEccError ⟨0, 0, 8192⟩ true .other).wf = false ∧ (Instr.tableBankCopyDone 0).wf = false ∧
    (Instr.tableBankCopyDone 5).wf = false ∧ (Instr.tableArchive 0).wf = false ∧ (Instr.tableArchive 6).wf = false ∧
    (Instr.driverReload []).wf = false ∧ (Instr.statusReadDone []).wf = false := by decide

/-- The cell side, the chain's frames, the sensors and calibration. -/
theorem test_wf_measurements :
    (Instr.sweepSlot 19 0 0).wf = false ∧ (Instr.enum true ⟨1, 0, true, 0, false, 0, [0]⟩ 0).wf = false ∧
    (Instr.ident true ⟨2, 0, false, 0, false, 0, []⟩).wf = false ∧
    (Instr.identReply true ⟨3, 0, false, 0, false, 0, []⟩).wf = false ∧
    (Instr.ping true ⟨4, 0, false, 0, false, 0, []⟩).wf = false ∧
    (Instr.echo true ⟨5, 0, false, 0, false, 0, []⟩ 0).wf = false ∧
    (Instr.setup true ⟨6, 0, false, 0, false, 0, []⟩).wf = false ∧
    (Instr.trigger true ⟨7, 0, false, 0, false, 0, []⟩ 0 0).wf = false ∧
    (Instr.read true ⟨8, 0, false, 0, false, 0, []⟩).wf = false ∧
    (Instr.response true ⟨9, 0, false, 0, false, 0, List.replicate 61 0⟩).wf = false ∧
    (Instr.hbFrameRepeat true ⟨9, 0, false, 0, false, 0, List.replicate 65 0⟩).wf = false ∧
    (Instr.safetyTick ⟨16, 0, 0, false, none⟩ ⟨0, 0, 0, false, none⟩).wf = false ∧
    (Instr.safetyTick ⟨0, 0, 0, false, none⟩ ⟨0, 4, 0, false, none⟩).wf = false ∧
    (Instr.safetyTick ⟨0, 0, 16, false, none⟩ ⟨0, 0, 0, false, none⟩).wf = false ∧
    (Instr.housekeepingRound [] [0, 0, 0, 0]).wf = false ∧
    (Instr.laneBackgroundCal 0 0 [(9, 0)]).wf = false ∧ (Instr.laneBackgroundCal 0 0 [(0, 2)]).wf = false ∧
    (Instr.fwVerifyDone true 65536).wf = false := by decide

/-- An ill-formed command stops with `illFormed`. -/
theorem test_ill_formed_stops :
    (match exec (.mgmtBadOpcode 0x0B) wUp with
     | .fault (.illFormed _) => true
     | _ => false) = true := by decide

/-! ## Witnesses of the statements -/

namespace Power

/-- A state or part of one for the witnesses below. -/
def wSoft : State := { wIn with pwr := { wIn.pwr with soft := true } }
/-- A state or part of one for the witnesses below. -/
def wHoldV : State := { wUp with pwr := { wUp.pwr with viocOk := false, viocHold := true } }
/-- A state or part of one for the witnesses below. -/
def wVdda : State := { wUp with pwr := { wUp.pwr with vddaOk := false } }
/-- A state or part of one for the witnesses below. -/
def wRef2 : State := { wUp with pwr := { wUp.pwr with refBad := 2 } }
/-- A state or part of one for the witnesses below. -/
def wHot : State := { wUp with thm := { wUp.thm with hardCut := true } }
/-- A state or part of one for the witnesses below. -/
def wWin (k : Nat) : State := { wIn with pwr := { wIn.pwr with legacyWindows := k } }

/-- A state and operands for each clause of `HardResets`. -/
theorem test_meets_HardResets :
    (let s : State := wOff; decide (s.aon.running = false)) = true ∧
    (let s : State := wR; decide (s.aon.running = true)) = true := by decide +kernel

/-- A state and operands for each clause of `PinResetPulse`. -/
theorem test_meets_PinResetPulse :
    (let ns : Nat := 99; let s : State := wR; decide (s.aon.running = true ∧ ns < 100)) = true ∧
    (let ns : Nat := 1000; let s : State := wR; decide (s.aon.running = true ∧ 1000 ≤ ns)) = true ∧
    (let ns : Nat := 100; let acts : Bool := false; let s : State := wR; decide (s.aon.running = true ∧ 100 ≤ ns ∧
      ns < 1000 ∧ acts = false)) = true ∧
    (let ns : Nat := 100; let acts : Bool := true; let s : State := wR; decide (s.aon.running = true ∧ 100 ≤ ns ∧
      ns < 1000 ∧ acts = true ∧ (s.pwr.standby = false ∨ s.pwr.inReset = true))) = true ∧
    (let ns : Nat := 100; let acts : Bool := true; let s : State := wStby; decide (s.aon.running = true ∧ 100 ≤ ns ∧
      ns < 1000 ∧ acts = true ∧ s.pwr.standby = true ∧ s.pwr.inReset = false)) = true ∧
    (let ns : Nat := 999; decide (100 ≤ ns ∧ ns < 1000)) = true ∧
    (let ns : Nat := 0; decide (ns < 100)) = true := by decide +kernel

/-- A state and operands for each clause of `AonSlots`. -/
theorem test_meets_AonSlots :
    (let s : State := wR; decide (s.aon.running = true)) = true := by decide +kernel

/-- A state and operands for each clause of `SoftResetReach`. -/
theorem test_meets_SoftResetReach :
    (let s : State := wSoft; decide (s.pwr.inReset = true ∧ s.pwr.soft = true)) = true ∧
    (let s : State := wIn; decide (s.pwr.inReset = true ∧ s.pwr.soft = false)) = true ∧
    (let s : State := wUp; let data : Word := 0; decide (s.awake = true ∧ keyed data 0x5A = false)) = true ∧
    (let s : State := wUp; let data : Word := 4278278657; decide (s.awake = true ∧ keyed data 0x5A = true ∧
      acts data 0 = true)) = true ∧
    (let s : State := wUp; let data : Word := 4278344194; decide (s.awake = true ∧ keyed data 0x5A = true ∧
      acts data 0 = false ∧ acts data 1 = true)) = true := by decide +kernel

/-- A state and operands for each clause of `StandbyEnds`. -/
theorem test_meets_StandbyEnds :
    (let s : State := wStby; decide (s.pwr.standby = true ∧ s.pwr.inReset = false)) = true := by decide +kernel

/-- A state and operands for each clause of `ReleaseMode`. -/
theorem test_meets_ReleaseMode :
    (let s : State := wSoft; let samples : List Bool := List.replicate 10 true; let bad : List Nat := [];
      decide (samples.length = 10 ∧ (∀ w ∈ bad, w ≤ 98) ∧ s.pwr.inReset = true ∧ s.aon.running = true ∧
      s.pwr.regulatorHold = false ∧ s.pwr.xiHold = false ∧ s.pwr.soft = true ∧ s.pwr.legacyWindows = 0)) = true ∧
    (let s : State := wIn; let samples : List Bool := List.replicate 10 true; let bad : List Nat := [];
      decide (samples.length = 10 ∧ (∀ w ∈ bad, w ≤ 98) ∧ s.pwr.inReset = true ∧ s.aon.running = true ∧
      s.pwr.regulatorHold = false ∧ s.pwr.xiHold = false ∧ s.pwr.soft = false ∧ s.pwr.legacyWindows = 0 ∧
      samplesAgree samples = true)) = true ∧
    (let s : State := wIn; let samples : List Bool := [true, false, true, true, true, true, true, true, true, true];
      let bad : List Nat := []; decide (samples.length = 10 ∧ (∀ w ∈ bad, w ≤ 98) ∧ s.pwr.inReset = true ∧
      s.aon.running = true ∧ s.pwr.regulatorHold = false ∧ s.pwr.xiHold = false ∧ s.pwr.soft = false ∧
      s.pwr.legacyWindows = 0 ∧ samplesAgree samples = false)) = true ∧
    (let s : State := wWin 1;
      let samples : List Bool := [true, false, true, true, true, true, true, true, true, true];
      let bad : List Nat := []; decide (samples.length = 10 ∧ (∀ w ∈ bad, w ≤ 98) ∧ s.pwr.inReset = true ∧
      s.aon.running = true ∧ s.pwr.regulatorHold = false ∧ s.pwr.xiHold = false ∧ s.pwr.soft = false ∧
      1 ≤ s.pwr.legacyWindows ∧ s.pwr.legacyWindows < 15 ∧ samplesAgree samples = false)) = true ∧
    (let s : State := wWin 1; let samples : List Bool := List.replicate 10 true; let bad : List Nat := [];
      decide (samples.length = 10 ∧ (∀ w ∈ bad, w ≤ 98) ∧ s.pwr.inReset = true ∧ s.aon.running = true ∧
      s.pwr.regulatorHold = false ∧ s.pwr.xiHold = false ∧ s.pwr.soft = false ∧ 1 ≤ s.pwr.legacyWindows ∧
      samplesAgree samples = true)) = true ∧
    (let s : State := wWin 15;
      let samples : List Bool := [true, false, true, true, true, true, true, true, true, true];
      let bad : List Nat := []; decide (samples.length = 10 ∧ (∀ w ∈ bad, w ≤ 98) ∧ s.pwr.inReset = true ∧
      s.aon.running = true ∧ s.pwr.regulatorHold = false ∧ s.pwr.xiHold = false ∧ s.pwr.soft = false ∧
      s.pwr.legacyWindows = 15 ∧ samplesAgree samples = false)) = true := by decide +kernel

/-- A state and operands for each clause of `RailsAndClocks`. -/
theorem test_meets_RailsAndClocks :
    (let s : State := wR; decide (s.released = true ∧ s.pwr.viocOk = true)) = true ∧
    (let s : State := wHoldV; decide (s.released = true ∧ s.pwr.viocHold = true ∧ s.pwr.viocClass < 3)) = true ∧
    (let s : State := wR; decide (s.released = true ∧ s.pwr.vddaOk = true)) = true ∧
    (let s : State := wVdda; decide (s.released = true ∧ s.pwr.vddaOk = false)) = true ∧
    (let s : State := wR; let ppm : Option Int := some (0); decide (s.released = true ∧ refGood ppm = true ∧
      s.pwr.refLost = false)) = true ∧
    (let s : State := wRef2; let ppm : Option Int := none; decide (s.released = true ∧ refGood ppm = false ∧
      s.pwr.refLost = false ∧ s.pwr.refBad = 2)) = true ∧
    (let s : State := wR; decide (s.released = true)) = true := by decide +kernel

/-- A state and operands for each clause of `HardCut`. -/
theorem test_meets_HardCut :
    (let s : State := wR; decide (s.released = true ∧ s.thm.hardCut = false)) = true ∧
    (let s : State := wHot; decide (s.released = true ∧ s.thm.hardCut = true)) = true := by decide +kernel

end Power

namespace CheckValue

/-- A state or part of one for the witnesses below. -/
def wC (ctl : Nat) (f : CvuState → CvuState) : State := { wUp with regs := (List.range 8).map (fun u => (cvuReg Reg.CVU_CTL u, BitVec.ofNat 32 ctl)) , cvu := Vector.replicate 8 (f {}) }

/-- A state and operands for each clause of `CheckValueLoop`. -/
theorem test_meets_CheckValueLoop :
    (let w : Nat := 8; let poly : Nat := 0x1D; let run : Nat := 0; let byte : Nat := 0;
      decide ((w = 8 ∨ w = 16 ∨ w = 32) ∧ poly < 2 ^ w ∧ run < 2 ^ w ∧ byte < 256)) = true ∧
    (let s : State := wUp; let u : Fin 8 := 0; let run : Nat := 0; let byte : Nat := 0;
      decide (run < 2 ^ cvuWidth s u ∧ byte < 256)) = true := by decide +kernel

/-- A state and operands for each clause of `CheckValueUnits`. -/
theorem test_meets_CheckValueUnits :
    (let u : Fin 8 := 0; let s : State := wC 0x1 id; decide (cvuEn s u = true)) = true ∧
    (let u : Fin 8 := 0; let s : State := wUp; decide (cvuEn s u = false)) = true := by decide +kernel

/-- A state and operands for each clause of `ExpectAndCompare`. -/
theorem test_meets_ExpectAndCompare :
    (let u : Fin 8 := 0; let s : State := wC 0x1 id; decide (cvuEn s u = true)) = true ∧
    (let u : Fin 8 := 0; let s : State := wUp; decide (cvuEn s u = false)) = true ∧
    (let u : Fin 8 := 0; let s : State := wC 0x1 id; decide (cvuEn s u = true ∧
      cvuResult s u = cvuLow s Reg.CVU_EXPECT u)) = true ∧
    (let u : Fin 8 := 0;
      let s : State := wC 0x8081 (fun x => { x with first := false, last := 0, run := 5, bytes := 2^28 - 1 });
      decide (cvuEn s u = true ∧ cvuResult s u ≠ cvuLow s Reg.CVU_EXPECT u)) = true := by decide +kernel

/-- A state and operands for each clause of `AliveCounter`. -/
theorem test_meets_AliveCounter :
    (let u : Fin 8 := 0; let s : State := wUp; decide (cvuCtl s u 7 1 = 0)) = true ∧
    (let u : Fin 8 := 0; let s : State := wC 0x100D1 (fun x => { x with first := true });
      decide (cvuCtl s u 7 1 = 1 ∧ (vget s.cvu u).first = true)) = true ∧
    (let u : Fin 8 := 0; let s : State := wC 0x10081 (fun x => { x with first := false, last := 255 });
      let data : Word := 0; decide (cvuCtl s u 7 1 = 1 ∧ (vget s.cvu u).first = false ∧
      fld data 0 (cvuAliveBits s u) = ((vget s.cvu u).last + 1) % 2 ^ cvuAliveBits s u)) = true ∧
    (let u : Fin 8 := 0; let s : State := wC 0x100C1 (fun x => { x with first := false, last := 3 });
      let data : Word := 3; decide (cvuCtl s u 7 1 = 1 ∧ (vget s.cvu u).first = false ∧
      fld data 0 (cvuAliveBits s u) = (vget s.cvu u).last)) = true ∧
    (let u : Fin 8 := 0; let s : State := wC 0x100C1 (fun x => { x with first := false, last := 3 });
      let data : Word := 0; decide (cvuCtl s u 7 1 = 1 ∧ (vget s.cvu u).first = false ∧
      fld data 0 (cvuAliveBits s u) ≠ (vget s.cvu u).last ∧
      fld data 0 (cvuAliveBits s u) ≠ ((vget s.cvu u).last + 1) % 2 ^ cvuAliveBits s u)) = true ∧
    (let u : Fin 8 := 0; let s : State := wUp; let data : Word := 4294967295; decide (cvuCtl s u 7 1 = 0 ∧
      data.getLsbD 7 = true)) = true := by decide +kernel

/-- A state and operands for each clause of `AliveTimeout`. -/
theorem test_meets_AliveTimeout :
    (let u : Fin 8 := 0; let s : State := wC 0x100C1 (fun x => { x with first := false, last := 3 });
      decide (cvuCtl s u 7 1 = 1 ∧ cvuCtl s u 16 16 ≠ 0 ∧ (vget s.cvu u).first = false ∧
      (vget s.cvu u).stale = false)) = true ∧
    (let u : Fin 8 := 0; let s : State := wUp;
      decide ((cvuCtl s u 7 1 = 0 ∨ cvuCtl s u 16 16 = 0 ∨ (vget s.cvu u).first = true ∨ (vget s.cvu u).stale = true))) = true := by decide +kernel

/-- A state and operands for each clause of `ThermalRound`. -/
theorem test_meets_ThermalRound :
    (let s : State := wUp; let lamps : List LampSample := List.replicate 8 ⟨50000, 3⟩;
      let dies : List Int := [400, 400, 400, 400]; decide (lamps.length = 8 ∧ dies.length = 4 ∧ s.awake = true ∧
      s.pwr.docent = .running ∧ s.thm.level ≤ 4)) = true ∧
    (let s : State := { wUp with pwr := { wUp.pwr with docent := .restarting } };
      let lamps : List LampSample := List.replicate 8 ⟨50000, 3⟩; let dies : List Int := [400, 400, 400, 400];
      decide (lamps.length = 8 ∧ dies.length = 4 ∧ s.awake = true ∧
      s.pwr.docent ≠ .running)) = true := by decide +kernel

/-- A state and operands for each clause of `ThermalResume`. -/
theorem test_meets_ThermalResume :
    (let s : State := { wUp with thm := { wUp.thm with level := 4, cool := 600, stop := .stopped } };
      decide (s.thm.stop ≠ .none ∧ 600 ≤ s.thm.cool)) = true ∧
    (let s : State := wUp; decide ((s.thm.stop = .none ∨ s.thm.cool < 600))) = true := by decide +kernel

end CheckValue

namespace Safety

/-- A state or part of one for the witnesses below. -/
def wS (f : SafState → SafState) : State := { wUp with saf := f {} }
/-- A state or part of one for the witnesses below. -/
def wRun : SafState := { light := .run, seg := .run, gate := 1024, l0 := 1024, lineA := true, lineB := true, out := Vector.replicate 4 true }
/-- A state or part of one for the witnesses below. -/
def wLock : State := { wS id with saf := { wRun with locked := true } }

/-- A state and operands for each clause of `InputFilter`. -/
theorem test_meets_InputFilter :
    (let f : Nat := 0; let k : Nat := 0; decide (k ≤ f)) = true ∧
    (let s : State := wUp; let a : SafSamples := ⟨15, 3, 0, true, some 1⟩;
      let b : SafSamples := ⟨15, 3, 0, true, some 1⟩; decide (safRuns s = true ∧ a.wf = true ∧ b.wf = true)) = true ∧
    (let s : State := wIn; let a : SafSamples := ⟨15, 3, 0, true, some 1⟩;
      let b : SafSamples := ⟨15, 3, 0, true, some 1⟩; decide (safRuns s = false ∧ a.wf = true ∧
      b.wf = true)) = true := by decide +kernel

/-- A state and operands for each clause of `SafetyDecisions`. -/
theorem test_meets_SafetyDecisions :
    (let s : State := wUp; let a : SafSamples := ⟨15, 3, 0, true, some 1⟩;
      let b : SafSamples := ⟨15, 3, 0, true, some 1⟩; decide (safRuns s = true ∧ a.wf = true ∧
      b.wf = true)) = true := by decide +kernel

/-- A state and operands for each clause of `ReleaseRamp`. -/
theorem test_meets_ReleaseRamp :
    (let s : State := wS (fun _ => { wRun with lightDue := true }); let a : SafSamples := ⟨15, 3, 0, true, some 1⟩;
      let b : SafSamples := ⟨15, 3, 0, true, some 1⟩; decide (safRuns s = true ∧ a.wf = true ∧ b.wf = true ∧
      s.saf.lightDue = true ∧ s.saf.skipRamp = false ∧ s.saf.releaseLight = false ∧ s.saf.stopLight = false ∧
      s.saf.safeDue = false ∧ s.saf.light = .run)) = true ∧
    (let s : State := wS (fun _ => { wRun with lightDue := true, light := .closing });
      let a : SafSamples := ⟨15, 3, 0, true, some 1⟩; let b : SafSamples := ⟨15, 3, 0, true, some 1⟩;
      decide (safRuns s = true ∧ a.wf = true ∧ b.wf = true ∧ s.saf.lightDue = true ∧ s.saf.skipRamp = false ∧
      s.saf.releaseLight = false ∧ s.saf.stopLight = false ∧ s.saf.safeDue = false ∧ s.saf.light = .closing ∧
      s.saf.runLight = false)) = true ∧
    (let s : State := wS (fun _ => { wRun with light := .ramp, j := 0, gate := 1024 });
      let a : SafSamples := ⟨15, 3, 0, true, some 1⟩; let b : SafSamples := ⟨15, 3, 0, true, some 1⟩;
      decide (safRuns s = true ∧ a.wf = true ∧ b.wf = true ∧ s.saf.light = .ramp ∧ s.saf.releaseLight = false ∧
      s.saf.stopLight = false ∧ s.saf.safeDue = false)) = true ∧
    (let s : State := wS (fun _ => { wRun with light := .delay, delayLeft := 0, gate := 0 });
      let a : SafSamples := ⟨15, 3, 0, true, some 1⟩; let b : SafSamples := ⟨15, 3, 0, true, some 1⟩;
      decide (safRuns s = true ∧ a.wf = true ∧ b.wf = true ∧ s.saf.light = .delay ∧ s.saf.releaseLight = false ∧
      s.saf.stopLight = false ∧ s.saf.safeDue = false)) = true ∧
    (let s : State := wS (fun _ => { wRun with light := .delay, delayLeft := 0, gate := 0 });
      decide (safRuns s = true ∧ s.saf.light = .delay ∧ s.saf.delayLeft = 0)) = true ∧
    (let s : State := wS (fun _ => { wRun with light := .delay, delayLeft := 3, gate := 0 });
      decide (s.saf.light = .delay ∧ s.saf.delayLeft ≠ 0)) = true := by decide +kernel

/-- A state and operands for each clause of `ResetRequest`. -/
theorem test_meets_ResetRequest :
    (let s : State := wUp; let data : Word := 0xFF01A501; decide (safRuns s = true ∧ keyed data 0xA5 = true ∧
      acts data 0 = true)) = true ∧
    (let s : State := wUp; let data : Word := 0; decide (safRuns s = true ∧
      (keyed data 0xA5 = false ∨ acts data 0 = false))) = true ∧
    (let s : State := wS (fun x => { x with request := true }); let a : SafSamples := ⟨15, 3, 0, true, some 1⟩;
      let b : SafSamples := ⟨15, 3, 0, true, some 1⟩; decide (safRuns s = true ∧ a.wf = true ∧ b.wf = true ∧
      s.saf.request = true ∧ s.saf.locked = false ∧ s.saf.light = .stopped ∧ s.saf.seg = .stopped ∧
      s.saf.releaseLight = false ∧ s.saf.releaseSeg = false)) = true := by decide +kernel

/-- A state and operands for each clause of `SafetyConfig`. -/
theorem test_meets_SafetyConfig :
    (let s : State := wUp; decide (safRuns s = true ∧ s.saf.locked = false)) = true ∧
    (let s : State := wLock; decide (safRuns s = true ∧ s.saf.locked = true)) = true ∧
    (let s : State := wUp; let data : Word := BitVec.ofNat 32 (cfgCrc wRun.a.cfg); decide (safRuns s = true ∧
      s.saf.locked = false ∧ data.toNat = cfgCrc s.saf.a.cfg ∧ data.toNat = cfgCrc s.saf.b.cfg)) = true ∧
    (let s : State := wUp; let data : Word := 0xFF01A501; decide (safRuns s = true ∧ s.saf.locked = false ∧
      (data.toNat ≠ cfgCrc s.saf.a.cfg ∨ data.toNat ≠ cfgCrc s.saf.b.cfg))) = true := by decide +kernel

/-- A state and operands for each clause of `SafetyFaults`. -/
theorem test_meets_SafetyFaults :
    (let s : State := wS (fun _ => { wRun with follow := #v[some (0, true), some (100, false)], tick := 1000 }); let i : Fin 2 := 0; (match vget s.saf.follow i with | some (t0, _) => decide (safRuns s = true ∧ cfgInEn s.saf.a.cfg i = true ∧ t0 + cfgTd s.saf.a.cfg ≤ s.saf.tick) | _ => false)) = true ∧
    (let s : State := wS (fun _ => { wRun with follow := #v[some (0, true), some (100, false)], tick := 1000 });
      let o : Fin 2 := 0; decide (safRuns s = true ∧ cfgFbEn (safCfgOf s o.val) o.val = true ∧
      vget s.saf.fbOk o.val = false ∧ vget s.saf.outAt o.val + cfgFbwin (safCfgOf s o.val) ≤ s.saf.tick ∧
      (vget s.saf.out (2 * o.val) = true ∨ vget s.saf.out (2 * o.val + 1) = true))) = true ∧
    (let s : State := wS (fun x => { x with fbOk := Vector.replicate 2 false, tick := 5000 }); let o : Fin 2 := 0;
      decide (safRuns s = true ∧ cfgFbEn (safCfgOf s o.val) o.val = true ∧ vget s.saf.fbOk o.val = false ∧
      vget s.saf.outAt o.val + cfgFbwin (safCfgOf s o.val) ≤ s.saf.tick ∧ vget s.saf.out (2 * o.val) = false ∧
      vget s.saf.out (2 * o.val + 1) = false)) = true ∧
    (let s : State := wLock; let ch : Fin 4 := 0; decide (safRuns s = true ∧
      cfgTest (safCfgOf s (ch.val / 2)) (ch.val / 2) = true ∧ vget s.saf.out ch = true ∧
      s.saf.tick % 1000 = 250 * ch.val ∧ s.saf.light ≠ .ramp ∧ s.saf.light ≠ .delay ∧ s.saf.pulse = none ∧
      hasBit s.saf.abandoned (ch.val / 2) = false ∧ safFalling s (ch.val / 2) = false)) = true ∧
    (let s : State := wS (fun _ => { wRun with segDue := true, safeDue := true }); let ch : Fin 4 := 0;
      decide (safRuns s = true ∧
      (s.saf.light = .ramp ∨ s.saf.light = .delay ∨ safFalling s (ch.val / 2) = true))) = true ∧
    (let s : State := wS (fun _ => { wRun with pulse := some 0 }); let ch : Fin 4 := 0; decide (safRuns s = true ∧
      s.saf.pulse = some ch.val)) = true ∧
    (let s : State := wUp; let ch : Fin 4 := 0; decide (safRuns s = true ∧ s.saf.pulse ≠ some ch.val)) = true ∧
    (let s : State := wUp; decide (safRuns s = true)) = true ∧
    (let s : State := wUp; let khz : Nat := 0; decide (safRuns s = true ∧ (khz < 86400 ∨ 105600 < khz) ∧
      hasBit s.saf.fault 10 = false)) = true ∧
    (let s : State := wUp; let khz : Nat := 100000; decide (safRuns s = true ∧ 86400 ≤ khz ∧ khz ≤ 105600)) = true ∧
    (let khz : Nat := 86399; decide (khz < 86400 ∨ 105600 < khz)) = true ∧
    (let khz : Nat := 105601; decide (khz < 86400 ∨ 105600 < khz)) = true ∧
    (let khz : Nat := 86400; decide (86400 ≤ khz ∧ khz ≤ 105600)) = true ∧
    (let khz : Nat := 105600; decide (86400 ≤ khz ∧ khz ≤ 105600)) = true := by decide +kernel

/-- A state and operands for each clause of `SafetyFrame`. -/
theorem test_meets_SafetyFrame :
    (let c : Instr := Instr.safetyTick ⟨15, 3, 0, true, some 1⟩ ⟨5, 1, 3, true, none⟩; decide ((match c with | .safetyTick _ _ | .discrepancyTimeout _ | .releaseDelayEnd | .feedbackWindowExpire _ | .outputTestPulse _ | .outputTestPulseEnd _ _ | .outputReadbackFail _ | .sgbMessageTimeout | .protectionLineStop _ | .outputRefreshTimeout _ | .sfbClockCheck _ | .safResetRequest _ | .safLockWrite _ | .safConfigWrite _ _ => true | _ => false) = true)) = true := by decide +kernel

end Safety

namespace Lanes

/-- A state or part of one for the witnesses below. -/
def wL (f : LaneState → LaneState) : LaneState := f { signal := true, cdr := true, block := true, adapt := true, calOk := true, amOnce := true, amLock := true, deskew := true, adaptUse := 1 }
/-- A state or part of one for the witnesses below. -/
def wP (f : PortState → PortState) : State := { wUp with port := Vector.replicate 4 (f { st := .up, active := 3, rxMask := 3, lane := Vector.replicate 2 (wL id) }) }
/-- A state or part of one for the witnesses below. -/
def wPL (f : LaneState → LaneState) (g : PortState → PortState) : State := wP (fun q => g { q with lane := Vector.replicate 2 (wL f) })

/-- A state and operands for each clause of `PortStates`. -/
theorem test_meets_PortStates :
    (let p : Fin 4 := 0; let s : State := wUp; decide (s.awake = true ∧ (s.pwr.legacy = false ∨ p.val = 0) ∧
      (vget s.port p.val).st = .disabled ∧ (vget s.port p.val).lanes ≠ 0)) = true ∧
    (let p : Fin 4 := 1; let s : State := { wP id with pwr := { wUp.pwr with legacy := true } };
      decide (s.pwr.legacy = true ∧ p.val ≠ 0)) = true ∧
    (let s : State := { wR with pwr := { wR.pwr with refLost := true } }; decide (s.awake = false)) = true ∧
    (let s : State := wUp; decide (s.awake = true)) = true ∧
    (let p : Fin 4 := 0; let s : State := wP (fun q => { q with st := .train });
      decide ((vget s.port p.val).st = .train ∧ readyMask s p.val &&& (vget s.port p.val).lanes ≠ 0)) = true ∧
    (let p : Fin 4 := 0; let s : State := wP (fun q => { q with st := .train, lane := Vector.replicate 2 {} });
      decide ((vget s.port p.val).st = .train ∧ readyMask s p.val &&& (vget s.port p.val).lanes = 0)) = true ∧
    (let p : Fin 4 := 0; let s : State := wP (fun q => { q with st := .train });
      decide (((vget s.port p.val).st = .train ∨ (vget s.port p.val).st = .exchange))) = true ∧
    (let p : Fin 4 := 0; let s : State := wP (fun q => { q with st := .idleWait });
      decide ((vget s.port p.val).st = .idleWait ∧ portAllowed s p.val = true ∧ lanesPowered s = true ∧
      testAsked s p.val = false)) = true ∧
    (let p : Fin 4 := 0;
      let s : State := { wP (fun q => { q with st := .idleWait }) with regs := (List.range 4).map (fun p => (yzlReg Reg.YZL_TEST p, 0x31)) };
      decide ((vget s.port p.val).st = .idleWait ∧ portAllowed s p.val = true ∧ lanesPowered s = true ∧
      testAsked s p.val = true)) = true ∧
    (let p : Fin 4 := 0;
      let s : State := { wP (fun q => { q with st := .idleWait }) with regs := (List.range 4).map (fun p => (yzlReg Reg.YZL_PORT_CTL p, 0)) };
      decide ((vget s.port p.val).st = .idleWait ∧ portAllowed s p.val = false)) = true ∧
    (let p : Fin 4 := 0; let s : State := wP id; decide (s.awake = true ∧ (vget s.port p.val).st ≠ .disabled ∧
      (vget s.port p.val).st ≠ .idleWait)) = true ∧
    (let p : Fin 4 := 0; let s : State := wUp; let data : Word := 1; decide (s.awake = true ∧
      (s.pwr.legacy = false ∨ p.val = 0) ∧ fld data 0 2 ≠ 0)) = true ∧
    (let p : Fin 4 := 0; let s : State := wP (fun q => { q with st := .test }); let data : Word := 0;
      decide (s.awake = true ∧ fld data 0 2 = 0 ∧ (vget s.port p.val).st = .test)) = true := by decide +kernel

/-- A state and operands for each clause of `LaneBringup`. -/
theorem test_meets_LaneBringup :
    (let p : Fin 4 := 0; let l : Fin 2 := 0; let s : State := wP id;
      decide ((laneOf s p.val l.val).signal = true)) = true ∧
    (let p : Fin 4 := 0; let l : Fin 2 := 0; let s : State := wP id;
      let last : List (Bool × Bool) := List.replicate 64 (true, false);
      decide ((laneOf s p.val l.val).signal = true ∧ (laneOf s p.val l.val).cdr = true ∧ last.length = 64 ∧
      (∀ h ∈ last, h.1 ≠ h.2))) = true ∧
    (let p : Fin 4 := 0; let l : Fin 2 := 0; let s : State := wP id;
      let last : List (Bool × Bool) := List.replicate 64 (true, false);
      decide ((laneOf s p.val l.val).signal = true ∧ (laneOf s p.val l.val).cdr = true ∧ last.length = 64)) = true ∧
    (let p : Fin 4 := 0; let l : Fin 2 := 0; let s : State := wP id;
      let trims : List (Option Nat) := List.replicate 9 (some 3); decide (trims.length = 9 ∧
      (laneOf s p.val l.val).block = true)) = true ∧
    (let p : Fin 4 := 0; let l : Fin 2 := 0; let s : State := wP id; let ctle : Nat := 0;
      let taps : List Int := [0, 1, -32, 31, 5]; decide (ctle < 16 ∧ taps.length = 5 ∧ (∀ x ∈ taps, -32 ≤ x ∧
      x ≤ 31) ∧ (laneOf s p.val l.val).block = true ∧ (laneOf s p.val l.val).calOk = true ∧
      (laneOf s p.val l.val).adaptUse ≠ 0 ∧ heldStill s p.val l.val = false)) = true ∧
    (let p : Fin 4 := 0; let l : Fin 2 := 0; let s : State := wPL (fun x => { x with frozen := true }) id;
      let ctle : Nat := 0; let taps : List Int := [0, 1, -32, 31, 5]; decide (ctle < 16 ∧ taps.length = 5 ∧
      (∀ x ∈ taps, -32 ≤ x ∧ x ≤ 31) ∧ (laneOf s p.val l.val).block = true ∧ (laneOf s p.val l.val).calOk = true ∧
      (laneOf s p.val l.val).adaptUse ≠ 0 ∧ heldStill s p.val l.val = true)) = true ∧
    (let p : Fin 4 := 0; let l : Fin 2 := 0; let s : State := wPL (fun x => { x with amMiss := 2, rxSince := 16383 }) (fun q => { q with st := .idleWait }); let c : Instr := .amReceive 0 (onLane 0 [controlBlock (amPayload 0 0 1 0)]); (match heard s c p with | some (.marker y1 _, u) => decide (y1 = l.val ∧ laneActive u p.val l.val = false) | _ => false)) = true ∧
    (let p : Fin 4 := 0; let l : Fin 2 := 0; let s : State := wPL (fun x => { x with rxSince := 16383 }) (fun q => { q with st := .idleWait }); let c : Instr := .blockLockLost 0 (onLane 0 [⟨true, true, 0⟩]); (match heard s c p with | some (.badMarker y1, u) => decide (y1 = l.val ∧ ((laneOf u p.val l.val).amMiss < 3 ∨ (laneOf u p.val l.val).amLock = false)) | _ => false)) = true ∧
    (let p : Fin 4 := 0; let l : Fin 2 := 0; let s : State := wPL (fun x => { x with amMiss := 2, rxSince := 16383 }) (fun q => { q with st := .idleWait }); let c : Instr := .blockLockLost 0 (onLane 0 [⟨true, true, 0⟩]); (match heard s c p with | some (.badMarker y1, u) => decide (y1 = l.val ∧ 3 ≤ (laneOf u p.val l.val).amMiss ∧ (laneOf u p.val l.val).amLock = true) | _ => false)) = true ∧
    (let p : Fin 4 := 0; let l : Fin 2 := 0; let s : State := wPL (fun x => { x with hdrWin := List.replicate 15 true }) (fun q => { q with st := .idleWait }); let c : Instr := .blockLockLost 0 (onLane 0 [⟨true, true, 0⟩]); (match heard s c p with | some (.unlocked y1, u) => decide (y1 = l.val ∧ laneActive u p.val l.val = false) | _ => false)) = true ∧
    (let p : Fin 4 := 0; let l : Fin 2 := 0; let s : State := wUp;
      decide (laneActive s p.val l.val = false)) = true := by decide +kernel

/-- A state and operands for each clause of `LaneFailure`. -/
theorem test_meets_LaneFailure :
    (let p : Fin 4 := 0; let l : Fin 2 := 0; let s : State := wP id;
      let two := fun (x : State) => (vget x.port p.val).st = .up ∧ (vget x.port p.val).active = 3 ∧
      inFullRetrain x p.val (1 - l.val) = false ∧ (laneOf x p.val (1 - l.val)).retrain ≠ .waiting;
      decide (two s)) = true ∧
    (let p : Fin 4 := 0; let l : Fin 2 := 0; let c : Instr := .blockLockLost 0 (onLane 0 [⟨true, true, 0⟩]); let s : State := wPL (fun x => { x with hdrWin := List.replicate 15 true }) id; (match heard s c p with | some (.unlocked y1, u) => let two := fun (x : State) => (vget x.port p.val).st = .up ∧ (vget x.port p.val).active = 3 ∧ inFullRetrain x p.val (1 - l.val) = false ∧ (laneOf x p.val (1 - l.val)).retrain ≠ .waiting; decide (y1 = l.val ∧ two u) | _ => false)) = true ∧
    (let p : Fin 4 := 0; let l : Fin 2 := 0; let c : Instr := .blockLockLost 0 (onLane 0 [⟨true, true, 0⟩]); let s : State := wPL (fun x => { x with amMiss := 2, rxSince := 16383 }) id; (match heard s c p with | some (.badMarker y1, u) => let two := fun (x : State) => (vget x.port p.val).st = .up ∧ (vget x.port p.val).active = 3 ∧ inFullRetrain x p.val (1 - l.val) = false ∧ (laneOf x p.val (1 - l.val)).retrain ≠ .waiting; decide (y1 = l.val ∧ two u ∧ 3 ≤ (laneOf u p.val l.val).amMiss ∧ (laneOf u p.val l.val).amLock = true) | _ => false)) = true ∧
    (let p : Fin 4 := 0; let l : Fin 2 := 0; let c : Instr := .amReceive 0 (onLane 0 [controlBlock (amPayload 0 0 1 0)]); let s : State := wPL (fun x => { x with rxSince := 16383, bipWin := List.replicate 16 8 }) id; (match heard s c p with | some (.marker y1 errors, u) => let two := fun (x : State) => (vget x.port p.val).st = .up ∧ (vget x.port p.val).active = 3 ∧ inFullRetrain x p.val (1 - l.val) = false ∧ (laneOf x p.val (1 - l.val)).retrain ≠ .waiting; decide (y1 = l.val ∧ two u ∧ u.rfld (yzlReg Reg.YZL_FAIL_CTL p.val) 0 16 < lsum ((errors :: (laneOf u p.val l.val).bipWin).take 16)) | _ => false)) = true ∧
    (let p : Fin 4 := 0; let l : Fin 2 := 0; let c : Instr := .laneDrop 0 (rxMsg 0 3 0); let s : State := wP id; (match heard s c p with | some (.msg y1 y2 _ _ _, u) => let two := fun (x : State) => (vget x.port p.val).st = .up ∧ (vget x.port p.val).active = 3 ∧ inFullRetrain x p.val (1 - l.val) = false ∧ (laneOf x p.val (1 - l.val)).retrain ≠ .waiting; decide (y1 = 3 ∧ y2 = l.val ∧ two u) | _ => false)) = true ∧
    (let p : Fin 4 := 0; let l : Fin 2 := 0; let s : State := wP (fun q => { q with active := 1 });
      decide ((vget s.port p.val).st = .up ∧ (vget s.port p.val).active = 2 ^ l.val)) = true ∧
    (let p : Fin 4 := 0; let l : Fin 2 := 0; let c : Instr := .blockLockLost 0 (onLane 0 [⟨true, true, 0⟩]); let s : State := wPL (fun x => { x with hdrWin := List.replicate 15 true }) (fun q => { q with active := 1 }); (match heard s c p with | some (.unlocked y1, u) => decide (y1 = l.val ∧ (vget u.port p.val).st = .up ∧ (vget u.port p.val).active = 2 ^ l.val) | _ => false)) = true := by decide +kernel

/-- A state and operands for each clause of `PortUpExchange`. -/
theorem test_meets_PortUpExchange :
    (let p : Fin 4 := 0; let s : State := wP (fun q => { q with st := .exchange });
      decide ((vget s.port p.val).st = .exchange)) = true ∧
    (let p : Fin 4 := 0; let c : Instr := .portUp 0 (rxMsg 0 1 (3 + 2 * 2 ^ 8)); let s : State := wP (fun q => { q with st := .exchange }); (match heard s c p with | some (.msg y1 mask _ rate _, u) => decide (y1 = 1 ∧ mask < 4 ∧ (vget u.port p.val).st = .exchange ∧ rate ≠ (vget u.port p.val).rate) | _ => false)) = true ∧
    (let p : Fin 4 := 0; let c : Instr := .portUp 0 (rxMsg 0 1 (3 + 2 * 2 ^ 8 + 2 ^ 12)); let s : State := wP (fun q => { q with st := .exchange }); (match heard s c p with | some (.msg y1 mask version rate _, u) => decide (y1 = 1 ∧ mask < 4 ∧ (vget u.port p.val).st = .exchange ∧ rate = (vget u.port p.val).rate ∧ (vget u.port p.val).puLast ≠ some (mask, version, rate)) | _ => false)) = true ∧
    (let p : Fin 4 := 0; let c : Instr := .portUp 0 (rxMsg 0 1 (3 + 2 * 2 ^ 8 + 2 ^ 12)); let s : State := wP (fun q => { q with st := .exchange, puLast := some (3, 2, true), puCount := 2 }); (match heard s c p with | some (.msg y1 mask version rate _, u) => decide (y1 = 1 ∧ mask < 4 ∧ (vget u.port p.val).st = .exchange ∧ rate = (vget u.port p.val).rate ∧ (vget u.port p.val).puLast = some (mask, version, rate) ∧ (vget u.port p.val).puCount = 2 ∧ (vget u.port p.val).ackSent = none ∧ (vget u.port p.val).ackGot = none ∧ readyMask u p.val &&& mask &&& (vget u.port p.val).lanes ≠ 0) | _ => false)) = true ∧
    (let p : Fin 4 := 0; let c : Instr := .portUpAck 0 (rxMsg 0 2 (3 + 2 * 2 ^ 8)); let s : State := wP (fun q => { q with st := .exchange, ackSent := some (3, 2) }); (match heard s c p with | some (.msg y1 mask version _ _, u) => decide (y1 = 2 ∧ mask < 4 ∧ (vget u.port p.val).st = .exchange ∧ (vget u.port p.val).ackSent = some (mask, version)) | _ => false)) = true ∧
    (let p : Fin 4 := 0; let c : Instr := .portUpAck 0 (rxMsg 0 2 (3 + 2 * 2 ^ 8)); let s : State := wP (fun q => { q with st := .exchange, ackSent := some (1, 1) }); (match heard s c p with | some (.msg y1 mask version _ _, u) => (match (vget u.port p.val).ackSent with | some a => decide (y1 = 2 ∧ mask < 4 ∧ (vget u.port p.val).st = .exchange ∧ a ≠ (mask, version)) | _ => false) | _ => false)) = true := by decide +kernel

/-- A state and operands for each clause of `TransmitSet`. -/
theorem test_meets_TransmitSet :
    (let s : State := wR; decide (s.awake = false)) = true ∧
    (let s : State := wUp; let data : Word := 0x010C3004; decide (s.awake = true ∧ txeqValid data = true)) = true ∧
    (let s : State := wUp; let data : Word := 0; decide (s.awake = true ∧ txeqValid data = false)) = true ∧
    (let p : Fin 4 := 0;
      let s : State := { wP (fun q => { q with lane := Vector.replicate 2 (wL (fun x => { x with txCount := 16383 })) }) with pwr := wUp.pwr };
      decide (transmits s p.val = true)) = true := by decide +kernel

/-- A state and operands for each clause of `LaneRestore`. -/
theorem test_meets_LaneRestore :
    (let p : Fin 4 := 0; let l : Fin 2 := 0;
      let s : State := wP (fun q => { q with active := 2, restoreSent := true });
      decide (missingLane s p.val = some l.val ∧ hasBit (vget s.port p.val).lanes l.val = true ∧
      (vget s.port p.val).restoring = false ∧ s.rfld (yzlReg Reg.YZL_FAIL_CTL p.val) 16 8 ≠ 0)) = true ∧
    (let p : Fin 4 := 0; let l : Fin 2 := 0; let s : State := wP (fun q => { q with active := 2, restoreSent := true }); let c : Instr := .laneRestore 0 (rxMsg 0 4 0); (match heard s c p with | some (.msg y1 y2 _ _ _, u) => decide (y1 = 4 ∧ y2 = l.val ∧ missingLane u p.val = some l.val) | _ => false)) = true ∧
    (let p : Fin 4 := 0; let s : State := wUp; decide ((vget s.port p.val).rejoin = none)) = true := by decide +kernel

/-- A state and operands for each clause of `LaneTraffic`. -/
theorem test_meets_LaneTraffic :
    (let p : Fin 4 := 0; let l : Fin 2 := 0; let s : State := wP id;
      decide (laneActive s p.val l.val = true)) = true ∧
    (let p : Fin 4 := 0; let l : Fin 2 := 0; let s : State := wP id; let h : Nat := 12; let v : Nat := 31;
      decide (laneActive s p.val l.val = true ∧ h < 64 ∧ v < 256 ∧
      fld (s.reg (yzlReg Reg.YZL_MARGIN_MIN p.val)) 16 8 ≠ 0 ∧
      fld (s.reg (yzlReg Reg.YZL_MARGIN_MIN p.val)) 0 6 ≤ h ∧
      fld (s.reg (yzlReg Reg.YZL_MARGIN_MIN p.val)) 8 8 ≤ v)) = true ∧
    (let p : Fin 4 := 0; let l : Fin 2 := 0; let s : State := wP id; decide (laneActive s p.val l.val = true ∧
      (laneOf s p.val l.val).retrain = .none ∧ inFullRetrain s p.val (1 - l.val) = false ∧
      (laneOf s p.val l.val).retrainTimes = [])) = true ∧
    (let p : Fin 4 := 0; let l : Fin 2 := 0; let s : State := wP id; let c : Instr := .refresh 0 (rxMsg 0 7 (3 + 391 * 2 ^ 13)); (match heard s c p with | some (.msg y1 mask _ _ _, u) => decide (y1 = 7 ∧ laneActive u p.val l.val = true ∧ hasBit mask l.val = true) | _ => false)) = true ∧
    (let p : Fin 4 := 0; let l : Fin 2 := 0; let s : State := wP id; let c : Instr := .retrainReq 0 (rxMsg 0 5 0); (match heard s c p with | some (.msg y1 y2 _ _ arg, u) => decide (y1 = 5 ∧ y2 = l.val ∧ laneActive u p.val l.val = true ∧ (arg ≠ 0 ∨ (laneOf u p.val (1 - l.val)).retrain ≠ .full)) | _ => false)) = true ∧
    (let p : Fin 4 := 0; let s : State := wP id; let idle : List (Fin 2) := [0];
      let ls := (refreshLanes s p.val).filter (fun i => idle.any (fun x => x.val == i)); decide (ls ≠ [])) = true ∧
    (let p : Fin 4 := 0; let s : State := wUp; let idle : List (Fin 2) := [];
      let ls := (refreshLanes s p.val).filter (fun i => idle.any (fun x => x.val == i)); decide (ls = [])) = true ∧
    (let p : Fin 4 := 0; let l : Fin 2 := 0; let s : State := wP (fun q => { q with farRetrain := some (0, true) });
      decide ((vget s.port p.val).farRetrain = some (l.val, true) ∧ (vget s.port p.val).st = .up)) = true ∧
    (let p : Fin 4 := 0; let l : Fin 2 := 0; let s : State := wP (fun q => { q with farRetrain := some (0, false) }); let c : Instr := .retrainDone 0 (rxMsg 0 6 0); (match heard s c p with | some (.msg y1 y2 _ _ _, u) => decide (y1 = 6 ∧ y2 = l.val ∧ (vget u.port p.val).farRetrain = some (l.val, false) ∧ (∀ i : Fin 2, (laneOf u p.val i.val).retrain ≠ .waiting)) | _ => false)) = true ∧
    (let p : Fin 4 := 0; let l : Fin 2 := 0; let s : State := wPL (fun x => { x with retrain := .full }) id;
      decide ((laneOf s p.val l.val).retrain = .full ∧ laneReady s p.val l.val = true ∧
      (laneOf s p.val (1 - l.val)).retrain ≠ .waiting)) = true ∧
    (let p : Fin 4 := 0; let s : State := wPL (fun x => { x with retrain := .burst }) id;
      decide ((laneOf s p.val 0).retrain = .burst)) = true ∧
    (let p : Fin 4 := 0; let l : Fin 2 := 0;
      let s : State := { wP (fun q => { q with st := .test }) with regs := (List.range 4).map (fun p => (yzlReg Reg.YZL_TEST p, 0x31)) };
      decide (prbsRuns s p.val l.val = true ∧ (laneOf s p.val l.val).prbsLock = false ∧
      (laneOf s p.val l.val).prbsSeed = 0 ∧ (laneOf s p.val l.val).prbsGood = 0)) = true ∧
    (let p : Fin 4 := 0; let l : Fin 2 := 0;
      let s : State := { wPL (fun x => { x with prbsLock := true, prbsSeed := 31 }) (fun q => { q with st := .test }) with regs := (List.range 4).map (fun p => (yzlReg Reg.YZL_TEST p, 0x33)) };
      decide (prbsRuns s p.val l.val = true ∧ (laneOf s p.val l.val).prbsLock = true ∧
      31 ≤ (laneOf s p.val l.val).prbsSeed)) = true ∧
    (let p : Fin 4 := 0; let l : Fin 2 := 0; let s : State := wUp;
      decide (prbsRuns s p.val l.val = false)) = true := by decide +kernel

/-- A state and operands for each clause of `LaneFrame`. -/
theorem test_meets_LaneFrame :
    (let c : Instr := Instr.portEnable 1; decide ((match c with | .portEnable _ | .portDisable _ | .blockLock _ _ | .laneForegroundCalDone _ _ _ | .adaptationDone _ _ _ _ | .amTransmit _ | .txeqWrite _ _ _ | .trainToExchange _ | .bringupTimeout _ | .idleWaitEnd _ | .portUpSend _ | .laneSignalLoss _ _ | .adaptFreeze _ _ | .refreshBurst _ | .laneRestoreAttempt _ | .laneRestoreAbandon _ | .eyeScan _ _ _ _ | .retrainComplete _ _ | .retrainBurstEnd _ _ _ | .portRestart _ | .laneRetrainCmd _ _ | .testModeWrite _ _ | .prbsCheckerLock _ _ | .signalDetect _ _ | .cdrLock _ _ | .prbsCheckerLockLost _ _ | .retrainTrainingBurst _ => true | _ => false) = true)) = true ∧
    (let c : Instr := .blockLockLost 0 (onLane 0 [⟨true, true, 0⟩]); let p : Fin 4 := 0; let s : State := wPL (fun x => { x with amMiss := 2, rxSince := 16383 }) (fun q => { q with st := .idleWait }); (match heard s c p with | some (i, _) => decide ((match i with | .packet _ => false | _ => true) = true) | _ => false)) = true := by decide +kernel

end Lanes

namespace Packets

/-- A state or part of one for the witnesses below. -/
def wP (f : PortState → PortState) : State := { wUp with port := Vector.replicate 4 (f { st := .up, active := 1, rxMask := 1, lane := Vector.replicate 2 { signal := true, cdr := true, block := true, adapt := true, calOk := true, amOnce := true, amLock := true } }), regs := [] }
/-- A state or part of one for the witnesses below. -/
def gr : Grant := { got := true, inf := true }
/-- A state or part of one for the witnesses below. -/
def wE (f : PortState → PortState) : State := { wP f with regs := (List.range 4).flatMap (fun c => [(hcx Reg.HCX_CTL c, 1), (hcx Reg.HCX_RING_SIZE c, 0x00080808)]) }
/-- A state or part of one for the witnesses below. -/
def tBytes (seq typ tag len status d1 d2 d3 : Nat) (data : List Nat) : List Nat := packetBytes kindTrans seq (headerBytes typ tag len status d1 d2 d3 ++ data)

/-- A state and operands for each clause of `SequenceCheck`. -/
theorem test_meets_SequenceCheck :
    (let p : Fin 4 := 0; let c : Instr := .mcpl 0 (rxPkt (tBytes 0 0x03 1 4 0 4 0 0 [1, 2, 3, 4])); let s : State := wP (fun q => { q with next := 5, nakSent := true, sinceAck := 3 }); (match heard s c p with | some (.packet bs, u) => decide ((vget u.port p.val).st = .up ∧ packetGood bs = true ∧ kindOf bs = kindTrans ∧ seqOf bs ≠ (vget u.port p.val).next ∧ later 12 (vget u.port p.val).next (seqOf bs) = true) | _ => false)) = true ∧
    (let p : Fin 4 := 0; let c : Instr := .mcpl 0 (rxPkt (tBytes 0 0x03 1 4 0 4 0 0 [1, 2, 3, 4])); let s : State := wE (fun q => { q with farP := gr, farN := gr, farC := gr, next := 4095 }); (match heard s c p with | some (.packet bs, u) => decide ((vget u.port p.val).st = .up ∧ packetGood bs = true ∧ kindOf bs = kindTrans ∧ seqOf bs ≠ (vget u.port p.val).next ∧ later 12 (vget u.port p.val).next (seqOf bs) = false) | _ => false)) = true ∧
    (let p : Fin 4 := 0; let c : Instr := .mcpl 0 (rxPkt (tBytes 0 0x03 1 4 0 4 0 0 [1, 2, 3, 4])); let s : State := wP id; (match heard s c p with | some (.packet bs, u) => decide ((vget u.port p.val).st = .up ∧ packetGood bs = true ∧ kindOf bs = kindTrans ∧ seqOf bs = (vget u.port p.val).next) | _ => false)) = true ∧
    (let q : PortState := {}; decide (q.st ≠ .up)) = true ∧
    (let p : Fin 4 := 0; let c : Instr := .badPacket ⟨0, (rxPkt (controlBytes kindAck 4 0 ++ [1]))⟩; let s : State := wP id; (match heardBad s c p with | some (bs, u) => decide ((vget u.port p.val).st = .up ∧ (kindOf bs = kindAck ∨ kindOf bs = kindNak ∨ kindOf bs = kindCredit)) | _ => false)) = true ∧
    (let p : Fin 4 := 0; let c : Instr := .badPacket ⟨0, (rxPkt (tBytes 0 0x10 0 0 0 0 0 0 [] ++ [0]))⟩; let s : State := wP id; (match heardBad s c p with | some (bs, u) => decide ((vget u.port p.val).st = .up ∧ kindOf bs ≠ kindAck ∧ kindOf bs ≠ kindNak ∧ kindOf bs ≠ kindCredit) | _ => false)) = true ∧
    (let p : Fin 4 := 0; let s : State := wP (fun q => { q with next := 5, nakSent := true, sinceAck := 3 });
      decide ((vget s.port p.val).nakSent = true)) = true ∧
    (let p : Fin 4 := 0; let s : State := wUp; decide ((vget s.port p.val).nakSent = false)) = true ∧
    (let p : Fin 4 := 0; let s : State := wP (fun q => { q with next := 5, nakSent := true, sinceAck := 3 });
      decide ((vget s.port p.val).st = .up ∧ (vget s.port p.val).sinceAck ≠ 0)) = true := by decide +kernel

/-- A state and operands for each clause of `ReplayRules`. -/
theorem test_meets_ReplayRules :
    (let p : Fin 4 := 0; let c : Instr := .ack 0 (rxPkt (controlBytes kindAck 4 0)); let seq : Nat := 4; let s : State := wP (fun q => { q with replay := [(4, .mrd 1 0 64), (5, .mwr 0 [1,2])] }); (match heard s c p with | some (.packet y1, u) => (match (vget u.port p.val).replay.findIdx? (fun x => x.1 == seq) with | some _ => decide (y1 = (controlBytes kindAck seq 0) ∧ seq < 4096 ∧ (vget u.port p.val).st = .up ∧ (vget u.port p.val).txWait = []) | _ => false) | _ => false)) = true ∧
    (let p : Fin 4 := 0; let c : Instr := .nak 0 (rxPkt (controlBytes kindNak 4 0)); let seq : Nat := 4; let s : State := wP (fun q => { q with replay := [(4, .mrd 1 0 64), (5, .mwr 0 [1,2])] }); (match heard s c p with | some (.packet y1, u) => (match (vget u.port p.val).replay.findIdx? (fun x => x.1 == seq) with | some _ => decide (y1 = (controlBytes kindNak seq 0) ∧ seq < 4096 ∧ (vget u.port p.val).st = .up ∧ (vget u.port p.val).txWait = []) | _ => false) | _ => false)) = true ∧
    (let p : Fin 4 := 0; let c : Instr := .nak 0 (rxPkt (controlBytes kindNak 4 0)); let seq : Nat := 4; let s : State := wP id; (match heard s c p with | some (.packet y1, u) => decide (y1 = (controlBytes kindNak seq 0) ∧ seq < 4096 ∧ (vget u.port p.val).st = .up ∧ (vget u.port p.val).replay.findIdx? (fun x => x.1 == seq) = none) | _ => false)) = true ∧
    (let p : Fin 4 := 0; let s : State := wP (fun q => { q with replay := [(4, .mrd 1 0 64), (5, .mwr 0 [1,2])] });
      decide ((vget s.port p.val).st = .up ∧ (vget s.port p.val).replay ≠ [] ∧
      (vget s.port p.val).oldestReplays < 4)) = true ∧
    (let p : Fin 4 := 0;
      let s : State := wP (fun q => { q with replay := [(4, .mrd 1 0 64), (5, .mwr 0 [1,2])], oldestReplays := 4 });
      decide ((vget s.port p.val).st = .up ∧ (vget s.port p.val).replay ≠ [] ∧
      4 ≤ (vget s.port p.val).oldestReplays)) = true := by decide +kernel

/-- A state and operands for each clause of `CreditRules`. -/
theorem test_meets_CreditRules :
    (let p : Fin 4 := 0; let c : Instr := .credit 0 (rxPkt (controlBytes kindCredit 0 (creditWord 1 false 40 100))); let pool : Nat := 1; let hdr : Nat := 40; let data : Nat := 100; let inf : Bool := false; let s : State := wP id; (match heard s c p with | some (.packet y1, u) => decide (y1 = (controlBytes kindCredit 0 (creditWord pool inf hdr data)) ∧ pool < 3 ∧ hdr < 256 ∧ data < 4096 ∧ (vget u.port p.val).st = .up ∧ (vget u.port p.val).txWait = []) | _ => false)) = true ∧
    (let p : Fin 4 := 0; let s : State := wP id; decide ((vget s.port p.val).st = .up)) = true ∧
    (let q : PortState := { farP := gr, farN := gr, replay := List.replicate 600 (0, .mwr 0 (List.replicate 256 0)) };
      let k : TxPacket := .mrd 1 0 64; decide (q.room k = false)) = true ∧
    (let q : PortState := { farP := gr }; let k : TxPacket := .mwr 0 [1]; decide (q.room k = true ∧
      (q.far k.pool).covers (divCeil k.len 16) = true)) = true ∧
    (let q : PortState := {}; let k : TxPacket := .mrd 1 0 64; decide (q.room k = true ∧
      (q.far k.pool).covers (divCeil k.len 16) = false)) = true := by decide +kernel

/-- A state and operands for each clause of `MemoryReads`. -/
theorem test_meets_MemoryReads :
    (let p : Fin 4 := 0; let c : Instr := .mcpl 0 (rxPkt (tBytes 0 0x03 1 4 0 4 0 0 [1, 2, 3, 4])); let s : State := wP id; (match heardTrans s c p with | some (x, u) => decide (x.typ = 0x03 ∧ x.fieldsOk (maxPayload u p.val) = true ∧ (vget u.port p.val).mrds.find? (fun m => m.tag == x.tag) = none) | _ => false)) = true ∧
    (let p : Fin 4 := 0; let c : Instr := .mcpl 0 (rxPkt (tBytes 0 0x03 1 0 2 0 0 0 [])); let s : State := wP (fun q => { q with mrds := [⟨1, 0, 64, [], .surface 0 0⟩, ⟨2, 0, 4, [], .clipList 7 0⟩, ⟨3, 0, 64, [1,2,3,4], .table 0 0⟩, ⟨4, 60, 64, [], .surface 0 0⟩] }); let m : Mrd := ⟨1, 0, 64, [], .surface 0 0⟩; (match heardTrans s c p with | some (x, u) => decide (x.typ = 0x03 ∧ x.fieldsOk (maxPayload u p.val) = true ∧ (vget u.port p.val).mrds.find? (fun m => m.tag == x.tag) = some m ∧ x.status ≠ 0) | _ => false)) = true ∧
    (let p : Fin 4 := 1; let c : Instr := .mcpl 1 (rxPkt (tBytes 0 0x03 4 4 0 64 0 0 [1, 2, 3, 4])); let s : State := wP (fun q => { q with mrds := [⟨1, 0, 64, [], .surface 0 0⟩, ⟨2, 0, 4, [], .clipList 7 0⟩, ⟨3, 0, 64, [1,2,3,4], .table 0 0⟩, ⟨4, 60, 64, [], .surface 0 0⟩] }); let m : Mrd := ⟨4, 60, 64, [], .surface 0 0⟩; (match heardTrans s c p with | some (x, u) => decide (x.typ = 0x03 ∧ x.fieldsOk (maxPayload u p.val) = true ∧ (vget u.port p.val).mrds.find? (fun m => m.tag == x.tag) = some m ∧ x.status = 0 ∧ mcplFits m x.d1 x.d2 x.len = true ∧ m.data.length + x.payload.length < m.count) | _ => false)) = true ∧
    (let p : Fin 4 := 0; let c : Instr := .mcpl 0 (rxPkt (tBytes 0 0x03 1 4 0 4 0 0 [1, 2, 3, 4])); let s : State := wP (fun q => { q with mrds := [⟨1, 0, 64, [], .surface 0 0⟩, ⟨2, 0, 4, [], .clipList 7 0⟩, ⟨3, 0, 64, [1,2,3,4], .table 0 0⟩, ⟨4, 60, 64, [], .surface 0 0⟩] }); let m : Mrd := ⟨1, 0, 64, [], .surface 0 0⟩; (match heardTrans s c p with | some (x, u) => decide (x.typ = 0x03 ∧ x.fieldsOk (maxPayload u p.val) = true ∧ (vget u.port p.val).mrds.find? (fun m => m.tag == x.tag) = some m ∧ x.status = 0 ∧ mcplFits m x.d1 x.d2 x.len = false) | _ => false)) = true ∧
    (let p : Fin 4 := 0; let tag : Nat := 1; let m : Mrd := ⟨1, 0, 64, [], .surface 0 0⟩;
      let s : State := wP (fun q => { q with mrds := [⟨1, 0, 64, [], .surface 0 0⟩, ⟨2, 0, 4, [], .clipList 7 0⟩, ⟨3, 0, 64, [1,2,3,4], .table 0 0⟩, ⟨4, 60, 64, [], .surface 0 0⟩] });
      decide ((vget s.port p.val).mrds.find? (fun m => m.tag == tag) = some m)) = true := by decide +kernel

/-- A state and operands for each clause of `HostRequests`. -/
theorem test_meets_HostRequests :
    (let p : Fin 4 := 0; let c : Instr := .nudge 0 (rxPkt (tBytes 0 0x10 0 0 0 (1 + 3 * 2 ^ 16) 0 0 [])); let s : State := wE id; (match heardTrans s c p with | some (x, u) => let ring := natBits x.d1 0 2; let index := natBits x.d1 16 16; decide (x.typ = 0x10 ∧ x.fieldsOk (maxPayload u p.val) = true ∧ ctxEnabled u p.val = true ∧ overCredit u p.val 0 0 = false ∧ index < ringSize u p.val ring) | _ => false)) = true ∧
    (let p : Fin 4 := 1; let c : Instr := .nudge 1 (rxPkt (tBytes 0 0x10 0 0 0 (300 * 2 ^ 16) 0 0 [])); let s : State := wE id; (match heardTrans s c p with | some (x, u) => let ring := natBits x.d1 0 2; let index := natBits x.d1 16 16; decide (x.typ = 0x10 ∧ x.fieldsOk (maxPayload u p.val) = true ∧ ctxEnabled u p.val = true ∧ overCredit u p.val 0 0 = false ∧ ringSize u p.val ring ≤ index) | _ => false)) = true ∧
    (let p : Fin 4 := 0; let c : Instr := .nudge 0 (rxPkt (tBytes 0 0x10 0 0 0 (1 + 3 * 2 ^ 16) 0 0 [])); let s : State := wE (fun q => { q with nearPH := 32, nearNH := 16 }); (match heardTrans s c p with | some (x, u) => (match typePool x.typ with | some pool => decide (overCredit u p.val pool (divCeil x.payload.length 16) = true) | _ => false) | _ => false)) = true ∧
    (let p : Fin 4 := 0; let c : Instr := .rrd 0 (rxPkt (tBytes 0 0x20 7 0 0 0x44 0 2 [])); let s : State := wP id; (match heardTrans s c p with | some (x, u) => decide (x.typ = 0x20 ∧ x.fieldsOk (maxPayload u p.val) = true ∧ x.d1 % 4 = 0 ∧ x.d3 = 2 ∧ overCredit u p.val 1 0 = false ∧ (regOf u x.d1).isSome = true ∧ domainOf u x.d1 = none) | _ => false)) = true ∧
    (let p : Fin 4 := 0; let c : Instr := .rwr 0 (rxPkt (tBytes 0 0x21 3 4 0 0x2008 0 2 [1, 0, 0, 0])); let s : State := wP id; (match heardTrans s c p with | some (x, u) => (match regOf u x.d1 with | some (_, win, _, row) => decide (x.typ = 0x21 ∧ x.fieldsOk (maxPayload u p.val) = true ∧ x.d1 % 4 = 0 ∧ x.d3 = 2 ∧ overCredit u p.val 0 1 = false ∧ (win ≤ 2 ∨ 16 ≤ win ∧ win ≤ 21) ∧ (u.pwr.legacy = false ∨ row.cls ≠ .c)) | _ => false) | _ => false)) = true ∧
    (let p : Fin 4 := 1; let c : Instr := .nudge 1 (rxPkt (tBytes 0 0x10 0 0 0 3 0 0 [])); let s : State := wP id; (match heardTrans s c p with | some (x, u) => decide ((match typePool x.typ with | some pool => !overCredit u p.val pool (divCeil x.payload.length 16) | none => false) = true ∧ x.fieldsOk (maxPayload u p.val) = false) | _ => false)) = true ∧
    (let p : Fin 4 := 0; let c : Instr := .malformedPacket 0 (rxPkt (tBytes 0 0x55 3 0 0 0x44 1 2 [])); let s : State := wP id; (match heardTrans s c p with | some (x, _) => decide (typePool x.typ = none) | _ => false)) = true := by decide +kernel

end Packets

namespace Access

/-- A state or part of one for the witnesses below. -/
def wM (f : AccessState → AccessState) : State := { wUp with acc := f {}, regs := [], cel := { wUp.cel with running := true }, cbits := (List.range 5).map (fun r => (copyKey Reg.CUR_ERR r, 0x35)) }
/-- A state or part of one for the witnesses below. -/
def wLg : State := { wM id with pwr := { wUp.pwr with legacy := true } }
/-- A state or part of one for the witnesses below. -/
def po (a : Nat) : Posted := { reader := .mgmt, addr := a, data := 5, bytes := 15, reply := none }

/-- A state and operands for each clause of `ReaderCopies`. -/
theorem test_meets_ReaderCopies :
    (let r : Reader := Reader.mgmt; let addr : Nat := Reg.CUR_ERR; let s : State := wM id; let reads := s.pwr.inReset = false ∧ (r = .mgmt ∨ s.awake = true); (match regOf s addr with | some (_, _, _, row) => decide (addr % 4 = 0 ∧ row.cls = .c ∧ reads ∧ s.pwr.legacy = false) | _ => false)) = true ∧
    (let r : Reader := Reader.mgmt; let addr : Nat := Reg.CUR_ERR; let s : State := wLg; let reads := s.pwr.inReset = false ∧ (r = .mgmt ∨ s.awake = true); (match regOf s addr with | some (_, _, _, row) => decide (addr % 4 = 0 ∧ row.cls = .c ∧ reads ∧ s.pwr.legacy = true) | _ => false)) = true ∧
    (let r : Reader := Reader.mgmt; let addr : Nat := Reg.CUR_ERR; let s : State := { wIn with pwr := { wIn.pwr with soft := true } }; (match regOf s addr with | some (_, _, _, row) => decide (addr % 4 = 0 ∧ row.cls = .c ∧ s.pwr.inReset = true ∧ s.pwr.soft = true ∧ r = .mgmt) | _ => false)) = true ∧
    (let addr : Nat := Reg.CUR_ERR; let s : State := wLg; (match regOf s addr with | some (_, _, _, row) => decide (addr % 4 = 0 ∧ row.cls = .c ∧ s.awake = true ∧ s.pwr.legacy = true) | _ => false)) = true ∧
    (let addr : Nat := Reg.CUR_ERR; let s : State := wM id; (match regOf s addr with | some (_, _, _, row) => decide (addr % 4 = 0 ∧ row.cls = .c ∧ s.awake = true ∧ s.pwr.legacy = false) | _ => false)) = true ∧
    (let addr : Nat := Reg.SCN_FRAME_LO; let s : State := wM id; (match nativeAddr s addr with | some a => (match rowAt (a + 4) with | some (_, _, _) => decide (s.awake = true ∧ isCounterLow a = true) | _ => false) | _ => false)) = true := by decide +kernel

/-- A state and operands for each clause of `WriteChecks`. -/
theorem test_meets_WriteChecks :
    (let r : Reader := Reader.host 0; let addr : Nat := Reg.CUR_ERR; let data : Word := 0; let s : State := { wM id with regs := [(Reg.RAC_OWNER, 1)] }; (match regOf s addr with | some (a, win, n, row) => decide (s.awake = true ∧ addr % 4 = 0 ∧ (s.pwr.legacy = false ∨ row.cls ≠ .c) ∧ mayWrite s r a win n row data = false) | _ => false)) = true ∧
    (let r : Reader := Reader.mgmt; let addr : Nat := Reg.FEN_CTL; let data : Word := 0; let s : State := { wM id with regs := [(Reg.RAC_LOCK, 0x1000)] }; (match regOf s addr with | some (a, win, n, row) => decide (s.awake = true ∧ addr % 4 = 0 ∧ (s.pwr.legacy = false ∨ row.cls ≠ .c) ∧ mayWrite s r a win n row data = true ∧ isLocked s r a win row = true) | _ => false)) = true ∧
    (let r : Reader := Reader.mgmt; let addr : Nat := Reg.FEN_CTL; let data : Word := 0; let s : State := wM id; (match regOf s addr with | some (a, win, n, row) => decide (s.awake = true ∧ addr % 4 = 0 ∧ (s.pwr.legacy = false ∨ row.cls ≠ .c) ∧ mayWrite s r a win n row data = true ∧ isLocked s r a win row = false ∧ win = 12 ∧ row.cls = .f ∧ row.stored ≠ 0) | _ => false)) = true ∧
    (let r : Reader := Reader.mgmt; let addr : Nat := Reg.CUR_ERR; let data : Word := 0; let s : State := wM id; (match regOf s addr with | some (a, win, n, row) => decide (s.awake = true ∧ addr % 4 = 0 ∧ (s.pwr.legacy = false ∨ row.cls ≠ .c) ∧ mayWrite s r a win n row data = true ∧ isLocked s r a win row = false ∧ row.cls = .c) | _ => false)) = true := by decide +kernel

/-- A state and operands for each clause of `SlowWrites`. -/
theorem test_meets_SlowWrites :
    (let addr : Nat := Reg.SCN_EVT_EN; let s : State := wM id; (match regOf s addr with | some (a, win, _, row) => (match slowOf win a with | some d => decide (s.awake = true ∧ addr % 4 = 0 ∧ row.cls ≠ .c ∧ row.cls ≠ .w1 ∧ isLocked s .mgmt a win row = false ∧ unreachable s d = false ∧ slowBusy s d = false) | _ => false) | _ => false)) = true ∧
    (let addr : Nat := Reg.SCN_EVT_EN; let s : State := wM (fun x => { x with scanQ := [po Reg.SCN_EVT_EN], memQ := [po 0x38000], afeQ := [po Reg.FEN_CTL], hblQ := [po Reg.FEN_CTL], sfaQ := [po Reg.FEN_CTL] }); (match regOf s addr with | some (a, win, _, row) => (match slowOf win a with | some d => decide (s.awake = true ∧ addr % 4 = 0 ∧ row.cls ≠ .c ∧ row.cls ≠ .w1 ∧ isLocked s .mgmt a win row = false ∧ unreachable s d = false ∧ slowBusy s d = true) | _ => false) | _ => false)) = true ∧
    (let d : Slow := .scan; let s : State := wM (fun x => { x with scanQ := [po Reg.FEN_CTL, po Reg.FEN_CTL], memQ := [po Reg.FEN_CTL] }); (match s.acc.q d with | w :: _ => decide (slowRuns s d = true ∧ w.reader = .mgmt ∧ w.reply = none ∧ s.acc.held = [] ∧ w.addr = Reg.FEN_CTL) | _ => false)) = true ∧
    (let d : Slow := .scan; let s : State := wM id; decide (s.acc.q d = [])) = true ∧
    (let s : State := wM id; decide (s.awake = true ∧ s.acc.written.contains Reg.RAC_LOCK = false)) = true ∧
    (let s : State := wM (fun x => { x with written := [Reg.RAC_LOCK] }); decide (s.awake = true ∧
      s.acc.written.contains Reg.RAC_LOCK = true)) = true ∧
    (let s : State := wM id; decide (s.awake = true)) = true := by decide +kernel

/-- A state and operands for each clause of `ManagementPort`. -/
theorem test_meets_ManagementPort :
    (let addr : Nat := Reg.GLB_ID; let s : State := wM id; (match regOf s addr with | some (a, _, _, row) => decide (mgmtRuns s = true ∧ addr < 2 ^ 32 ∧ addr % 4 = 0 ∧ row.cls = .f ∧ isCounterLow a = false) | _ => false)) = true ∧
    (let addr : Nat := 0x7FF0000; let s : State := wM id; decide (mgmtRuns s = true ∧ addr < 2 ^ 32 ∧ addr % 4 = 0 ∧
      regOf s addr = none)) = true ∧
    (let addr : Nat := 0xA0001; let s : State := wM id; decide (mgmtRuns s = true ∧ addr < 2 ^ 32 ∧
      addr % 4 ≠ 0)) = true ∧
    (let addr : Nat := Reg.CUR_ERR; let s : State := wM id; decide (s.awake = true ∧ addr < 2 ^ 32 ∧
      addr % 4 = 0)) = true ∧
    (let addr : Nat := Reg.CUR_ERR; let s : State := wStby; decide (addr < 2 ^ 32 ∧ s.pwr.standby = true ∧
      s.pwr.inReset = false)) = true ∧
    (let addr : Nat := Reg.CUR_ERR; let s : State := { wIn with pwr := { wIn.pwr with soft := true } };
      decide (addr < 2 ^ 32 ∧ s.pwr.inReset = true ∧ s.pwr.soft = true)) = true ∧
    (let op : Nat := 0; let s : State := wM id; decide (mgmtRuns s = true ∧ op < 256 ∧ op ≠ 0x0B ∧ op ≠ 0x02 ∧
      op ≠ 0x0C)) = true ∧
    (let addr : Nat := Reg.CUR_ERR; let s : State := wM id; decide (s.awake = true ∧ addr < 2 ^ 32 ∧ addr % 4 = 0 ∧
      s.acc.qPend = none)) = true ∧
    (let addr : Nat := Reg.CUR_ERR; let s : State := wM (fun x => { x with qPend := some 0x44 });
      decide (s.awake = true ∧ addr < 2 ^ 32 ∧ addr % 4 = 0 ∧ s.acc.qPend ≠ none)) = true ∧
    (let addr : Nat := 0xA0001; let s : State := wM id; decide (s.awake = true ∧ addr < 2 ^ 32 ∧
      addr % 4 ≠ 0)) = true ∧
    (let s : State := wM (fun x => { x with qPend := some 0x44 }); (match s.acc.qPend with | some addr => (match regOf s addr with | some (a, _, _, row) => decide (s.awake = true ∧ row.cls ≠ .t ∧ row.cls ≠ .c ∧ isCounterLow a = false) | _ => false) | _ => false)) = true ∧
    (let s : State := wM (fun x => { x with qPend := some 0x7FF0000 }); (match s.acc.qPend with | some addr => decide (s.awake = true ∧ regOf s addr = none) | _ => false)) = true := by decide +kernel

/-- A state and operands for each clause of `BarrierChannel`. -/
theorem test_meets_BarrierChannel :
    (let s : State := wM id; decide (s.pwr.barrierOk = true ∧ s.pwr.inReset = false ∧ s.acc.rrds = [])) = true ∧
    (let s : State := { wM id with pwr := { wUp.pwr with barrierOk := false }, cel := { wUp.cel with errPend := 5, hbErrPend := 3, running := true, logicLost := true } };
      decide (s.pwr.barrierOk = false)) = true ∧
    (let s : State := wM id; decide (s.cel.running = true)) = true := by decide +kernel

end Access

namespace Events

/-- A state or part of one for the witnesses below. -/
def ev (c sv : Nat) : Event := { code := c, sev := sv, inst := 1 }
/-- A state or part of one for the witnesses below. -/
def st (q c sv : Nat) : Stamped := ⟨q, ev c sv, 3, 4⟩
/-- A state or part of one for the witnesses below. -/
def wE (f : EventState → EventState) : State := { wUp with evt := f {}, regs := (List.range 4).map (fun c => (hcx Reg.HCX_CTL c, 1)) }

/-- A state and operands for each clause of `EventStamping`. -/
theorem test_meets_EventStamping :
    (let s : State := wR; decide (s.awake = false)) = true ∧
    (let s : State := wR; let arrived : List Source := []; (match nextArrival s arrived with | some (_, _) => true | _ => false)) = true ∧
    (let s : State := wUp; let arrived : List Source := []; (match nextArrival s arrived with | some (_, _) => decide (s.awake = true) | _ => false)) = true := by decide +kernel

/-- A state and operands for each clause of `QueuePopAndHandling`. -/
theorem test_meets_QueuePopAndHandling :
    (let s : State := wR; decide (s.evt.mq = [])) = true ∧
    (let s : State := wE (fun x => { x with mq := [st 5 0x405 2, st 6 0x406 2], mqLost := 0 }); (match s.evt.mq with | _ :: _ => decide (s.evt.mqLost = 0) | _ => false)) = true ∧
    (let s : State := wE (fun x => { x with waiting := [(.afe, ev 0x0405 4), (.core, ev 0x1008 0)], mq := List.replicate 64 (st 1 2 3), mqLost := 65535 }); (match s.evt.mq with | _ :: _ => decide (s.evt.mqLost ≠ 0) | _ => false)) = true ∧
    (let s : State := wUp; decide (s.pwr.inReset = false ∧ s.pwr.docent ≠ .off)) = true ∧
    (let s : State := wUp; decide (s.docentRuns = true ∧ s.hnd.suspended = [] ∧ s.hnd.queued = [])) = true ∧
    (let s : State := { wE (fun x => { x with waiting := [(.afe, ev 0x0405 2)] }) with hnd := { slot := some (st 1 2 3), suspended := [st 0 0 1] } }; (match s.hnd.slot with | some _ => (match s.hnd.suspended with | y :: _ => decide (s.docentRuns = true ∧ (∀ q ∈ s.hnd.queued, q.ev.sev ≤ y.ev.sev)) | _ => false) | _ => false)) = true ∧
    (let s : State := { wE (fun x => { x with waiting := [(.afe, ev 0x0405 2)] }) with hnd := { slot := some (st 1 2 3), suspended := [st 0 0 1], queued := [st 3 0 0, st 2 0 3, st 4 0 3] } }; let pre : List Stamped := [st 3 0 0]; let q : Stamped := st 2 0 3; let post : List Stamped := [st 4 0 3]; (match s.hnd.slot with | some _ => decide (s.docentRuns = true ∧ s.hnd.queued = pre ++ q :: post ∧ (∀ z ∈ pre, z.ev.sev < q.ev.sev) ∧ (∀ z ∈ post, z.ev.sev ≤ q.ev.sev) ∧ (∀ y, s.hnd.suspended.head? = some y → y.ev.sev < q.ev.sev)) | _ => false)) = true := by decide +kernel

/-- A state and operands for each clause of `RecordWriting`. -/
theorem test_meets_RecordWriting :
    (let s : State := { wUp with rgs := { queue := [.ev (st 7 0x0405 4), .ev (st 8 0x0406 4)] } }; (match s.rgs.queue with | .ev _ :: _ => decide (s.docentRuns = true ∧ s.rgs.stopped = false ∧ s.rgs.clearing = false ∧ s.rgs.lostRun = 0) | _ => false)) = true ∧
    (let s : State := { wUp with fuse := { wUp.fuse with sensed := [] }, regs := [(Reg.RGS_RD_INDEX, 0x1F)] };
      let data : Word := 4278270977; decide (acts data 0 = true ∧ keyed data 0x3C = true ∧ lifecycle s ≠ 1)) = true ∧
    (let s : State := wR; let data : Word := 0;
      decide ((acts data 0 = false ∨ keyed data 0x3C = false ∨ lifecycle s = 1))) = true ∧
    (let s : State := { wUp with rgs := { clearing := true }, regs := [(Reg.RGS_RD_INDEX, 0xFFF0F)] };
      decide (s.rgs.clearing = true)) = true := by decide +kernel

end Events

namespace Firmware

/-- A state or part of one for the witnesses below. -/
def wF (f : FwState → FwState) : State := { wUp with fw := f {} }
/-- A state or part of one for the witnesses below. -/
def wTest : State := { wUp with fuse := { wUp.fuse with sensed := [(2, 0), (6, 1)], blown := [] } }

/-- A state and operands for each clause of `DocentStarts`. -/
theorem test_meets_DocentStarts :
    (let s : State := { wUp with pwr := { wUp.pwr with docent := .off } }; decide (s.awake = true ∧
      s.pwr.docent = .off ∧ imageOk s (s.arc.boot % 2) = true)) = true ∧
    (let s : State := { wUp with pwr := { wUp.pwr with docent := .off }, arc := { wUp.arc with fw := #v[⟨0x100, false, []⟩, ⟨0x200, true, []⟩] } };
      decide (s.awake = true ∧ s.pwr.docent = .off ∧ imageOk s (s.arc.boot % 2) = false ∧
      imageOk s (1 - s.arc.boot % 2) = true)) = true ∧
    (let s : State := { wUp with pwr := { wUp.pwr with docent := .off }, arc := { wUp.arc with fw := #v[⟨0x100, false, []⟩, ⟨0x200, false, []⟩] } };
      decide (s.awake = true ∧ s.pwr.docent = .off ∧ imageOk s (s.arc.boot % 2) = false ∧
      imageOk s (1 - s.arc.boot % 2) = false)) = true ∧
    (let s : State := wR; let slot : Nat := 0; decide (imageOk s slot = true)) = true ∧
    (let s : State := wUp; decide (s.awake = true ∧ s.pwr.docent = .running)) = true ∧
    (let s : State := { wUp with pwr := { wUp.pwr with docent := .restarting } }; decide (s.awake = true ∧
      s.pwr.docent = .restarting)) = true := by decide +kernel

/-- A state and operands for each clause of `FirmwareUpdate`. -/
theorem test_meets_FirmwareUpdate :
    (let s : State := wUp; decide (s.docentRuns = true ∧ fwBusy s = false)) = true ∧
    (let s : State := wF (fun x => { x with verified := true }); decide (s.docentRuns = true ∧ fwBusy s = false ∧
      s.fw.verified = true)) = true ∧
    (let s : State := wR; decide ((fwBusy s = true ∨ s.docentRuns = false))) = true ∧
    (let s : State := wUp; decide (s.docentRuns = true)) = true ∧
    (let s : State := wR; decide (s.docentRuns = false)) = true ∧
    (let s : State := wR; let version : Nat := 0; decide (s.docentRuns = false ∧ version < 65536)) = true ∧
    (let s : State := wF (fun x => { x with busyVerify := true }); let version : Nat := 0;
      decide (s.docentRuns = true ∧ version < 65536 ∧ s.fw.busyVerify = true)) = true ∧
    (let s : State := wF (fun x => { x with unconf := true, locksteps := [0, 5] }); decide (s.fw.unconf = true ∧
      s.docentRuns = true)) = true ∧
    (let s : State := wF (fun x => { x with unconf := true, ready := false, fallbackReq := true });
      decide (s.fw.unconf = true ∧ s.fw.ready = false)) = true ∧
    (let s : State := wR; decide (s.fw.unconf = false)) = true ∧
    (let s : State := wUp; decide (s.awake = true)) = true := by decide +kernel

/-- A state and operands for each clause of `FusesAndDebug`. -/
theorem test_meets_FusesAndDebug :
    (let data : Word := 0; decide (keyed data 0x69 = false)) = true ∧
    (let s : State := wR; let data : Word := 0xFF016901; let ok : Bool := false; decide (acts data 0 = true ∧
      keyed data 0x69 = true ∧ s.fuse.busy = none ∧
      fuseRefused s (s.rfld Reg.SEC_PROG_INDEX 0 7) (s.reg Reg.SEC_PROG_DATA) ok = true)) = true ∧
    (let s : State := wR; let data : Word := 0xFF016901; let ok : Bool := true; decide (acts data 0 = true ∧
      keyed data 0x69 = true ∧ s.fuse.busy = none ∧
      fuseRefused s (s.rfld Reg.SEC_PROG_INDEX 0 7) (s.reg Reg.SEC_PROG_DATA) ok = false)) = true ∧
    (let s : State := wR; let w : Nat := 99; let bits : Word := 0; decide (fuseRefused s w bits true = false ∧
      98 < w)) = true ∧
    (let s : State := { wTest with fuse := { wTest.fuse with sensed := [(2, 0x103)] } }; let w : Nat := 2;
      let bits : Word := 0x100; let i : Nat := 8; decide (fuseRefused s w bits true = false ∧ bits.getLsbD i = true ∧
      lifecycle s = 3)) = true ∧
    (let s : State := wR; let w : Nat := 3; let bits : Word := 0; decide (fuseRefused s w bits true = false ∧
      w = 3)) = true ∧
    (let s : State := { wTest with fuse := { wTest.fuse with busy := some (6, 3) }, regs := [(Reg.SEC_PROG_DATA, 5), (Reg.SEC_PROG_INDEX, 6)] }; (match s.fuse.busy with | some (_, _) => true | _ => false)) = true ∧
    (let s : State := wTest; decide (dbgOff s = false ∧ lifecycle s = 0)) = true ∧
    (let s : State := wR; decide (dbgOff s = false ∧ lifecycle s ≠ 0)) = true ∧
    (let s : State := wR; decide (dbgOff s = false)) = true ∧
    (let s : State := { wTest with fuse := { wTest.fuse with sensed := [(2, 0x103)] } };
      decide (dbgOff s = true)) = true := by decide +kernel

end Firmware

namespace Contexts

/-- A state or part of one for the witnesses below. -/
def wX (f : CtxState → CtxState) : State := { wUp with
  port := Vector.replicate 4 { st := .up, active := 3, farP := { got := true, inf := true }, farN := { got := true, inf := true }, farC := { got := true, inf := true } }, ctx := Vector.replicate 4 (f {}),
  regs := [(Reg.RAC_OWNER, 0)] ++ (List.range 4).flatMap (fun c => [(hcx Reg.HCX_CTL c, 0x41), (hcx Reg.HCX_LAYERS c, 0xFFFF), (hcx Reg.HCX_RING_SIZE c, 0x040508), (hcx Reg.HCX_POLL c, 5)]) }
/-- A state or part of one for the witnesses below. -/
def regsOff (s : State) (l : List (Nat × Word)) : State := { s with regs := l ++ s.regs }
/-- A state or part of one for the witnesses below. -/
def cpl (n : Nat) : Completion := ⟨1, 0, false, false, false, 3, 4, 5, n, 0⟩
/-- A state or part of one for the witnesses below. -/
def ev (c sv : Nat) : Event := { code := c, sev := sv, inst := 1 }
/-- A state or part of one for the witnesses below. -/
def st (q c sv : Nat) : Stamped := ⟨q, ev c sv, 3, 4⟩
/-- A state or part of one for the witnesses below. -/
def gr : Grant := { got := true, inf := true }
/-- A state or part of one for the witnesses below. -/
def wRd : Vector PortState 4 := Vector.replicate 4 { st := .up, active := 1, rxMask := 1, farP := gr, farN := gr, farC := gr, lane := Vector.replicate 2 { signal := true, cdr := true, block := true, adapt := true, calOk := true, amOnce := true, amLock := true }, mrds := [⟨1, 0, 4, [], .poll 0 0⟩, ⟨2, 0, 64, [], .fetch 0 0 1⟩, ⟨3, 0, 4, [], .poll 0 1⟩, ⟨4, 0, 4, [], .poll 0 2⟩] }
/-- A state or part of one for the witnesses below. -/
def tBytes (seq typ tag len status d1 d2 d3 : Nat) (data : List Nat) : List Nat := packetBytes kindTrans seq (headerBytes typ tag len status d1 d2 d3 ++ data)

/-- A state and operands for each clause of `ContextRights`. -/
theorem test_meets_ContextRights :
    (let c : Fin 4 := 0; let s : State := wX id; decide ((ctxEnabled s c = true ∨ (s.pwr.legacy = true ∧
      c.val ≠ 0)))) = true ∧
    (let c : Fin 4 := 1;
      let s : State := regsOff (wX id) [(hcx Reg.HCX_CTL 1, 0), (hcx Reg.HCX_CTL 0, 0x10), (hcx Reg.HCX_LAYERS 1, 0), (hcx Reg.HCX_RING_SIZE 1, 0x111111)];
      decide (ctxEnabled s c = false ∧ (s.pwr.legacy = false ∨ c.val = 0) ∧ ringsValid s c = false)) = true ∧
    (let c : Fin 4 := 0; let s : State := regsOff (wX id) [(hcx Reg.HCX_CTL 0, 0)]; decide (ctxEnabled s c = false ∧
      (s.pwr.legacy = false ∨ c.val = 0) ∧ ringsValid s c = true ∧ hcxRole s c ≠ 2 ∧
      layerConflict s c (hcxLayers s c) = true)) = true ∧
    (let c : Fin 4 := 0; let s : State := wUp; decide (ctxEnabled s c = false ∧ (s.pwr.legacy = false ∨ c.val = 0) ∧
      ringsValid s c = true ∧ (hcxRole s c = 2 ∨ layerConflict s c (hcxLayers s c) = false))) = true ∧
    (let c : Fin 4 := 0; let s : State := wX id; decide (ctxEnabled s c = true)) = true ∧
    (let c : Fin 4 := 0;
      let s : State := { wX (fun q => { q with cplq := [cpl 1], closing := true }) with port := wUp.port };
      decide (s.awake = true ∧ (vget s.ctx c.val).closing = true ∧ portUp s c = false)) = true ∧
    (let c : Fin 4 := 0; let s : State := wX id; let data : Word := 0xFFFF; decide (ctxEnabled s c = true ∧
      hcxRole s c ≠ 2 ∧ layerConflict s c (fld data 0 16) = true)) = true ∧
    (let c : Fin 4 := 0; let s : State := wUp; let data : Word := 0;
      decide ((ctxEnabled s c = false ∨ hcxRole s c = 2 ∨ layerConflict s c (fld data 0 16) = false))) = true ∧
    (let c : Fin 4 := 0; let s : State := regsOff (wX id) [(hcx Reg.HCX_CTL 0, 0x15), (hcx Reg.HCX_CTL 1, 0x09)];
      decide ((pairOf s c).isSome = true)) = true ∧
    (let c : Fin 4 := 0; let s : State := wUp; decide (pairOf s c = none)) = true := by decide +kernel

/-- A state and operands for each clause of `RingWrites`. -/
theorem test_meets_RingWrites :
    (let c : Fin 4 := 0; let s : State := wUp; decide ((vget s.ctx c.val).cplq = [])) = true ∧
    (let c : Fin 4 := 0; let s : State := wX (fun q => { q with cplq := [cpl 1, cpl 2], cqTail := 31, cqPhase := false }); (match (vget s.ctx c.val).cplq with | _ :: _ => decide ((portUp s c = false ∨ ringFull s c 1 (vget s.ctx c.val).cqHead (vget s.ctx c.val).cqTail = true)) | _ => false)) = true ∧
    (let c : Fin 4 := 0; let s : State := wX (fun q => { q with cplq := [cpl 1, cpl 2] }); (match (vget s.ctx c.val).cplq with | _ :: _ => decide (portUp s c = true ∧ ringFull s c 1 (vget s.ctx c.val).cqHead (vget s.ctx c.val).cqTail = false) | _ => false)) = true ∧
    (let c : Fin 4 := 0; let s : State := wX (fun q => { q with cplq := [cpl 1, cpl 2], evq := [st 1 2 3, st 2 3 4], evLost := 0, eqTail := 15, eqHead := 3 }); (match (vget s.ctx c.val).evq with | _ :: _ => decide ((vget s.ctx c.val).evLost = 0 ∧ portUp s c = true ∧ ringFull s c 2 (vget s.ctx c.val).eqHead (vget s.ctx c.val).eqTail = false) | _ => false)) = true ∧
    (let c : Fin 4 := 0; let s : State := wX (fun q => { q with cplq := [cpl 1, cpl 2], cqTail := 31, cqHead := 0, evq := [st 1 2 3], eqTail := 15, eqHead := 0 }); (match (vget s.ctx c.val).evq with | _ :: _ => decide ((vget s.ctx c.val).evLost = 0 ∧ (portUp s c = false ∨ ringFull s c 2 (vget s.ctx c.val).eqHead (vget s.ctx c.val).eqTail = true)) | _ => false)) = true ∧
    (let c : Fin 4 := 0; let s : State := wUp; decide ((vget s.ctx c.val).evLost = 0)) = true ∧
    (let c : Fin 4 := 0;
      let s : State := wX (fun q => { q with evq := [st 1 2 3], evLost := 3, evLostSeq := 9, eqTail := 3, eqHead := 3 });
      decide ((vget s.ctx c.val).evLost ≠ 0 ∧ portUp s c = true ∧
      ringFull s c 2 (vget s.ctx c.val).eqHead (vget s.ctx c.val).eqTail = false)) = true := by decide +kernel

/-- A state and operands for each clause of `FetchRules`. -/
theorem test_meets_FetchRules :
    (let c : Fin 4 := 0; let s : State := wUp;
      decide ((s.awake = false ∨ ctxEnabled s c = false ∨ portUp s c = false))) = true ∧
    (let c : Fin 4 := 0; let s : State := regsOff (wX id) [(hcx Reg.HCX_POLL 0, 0)];
      decide (s.rfld (hcx Reg.HCX_POLL c) 0 16 = 0)) = true ∧
    (let c : Fin 4 := 0;
      let s : State := wX (fun q => { q with sqHead := 250, sqTail := 20, cplq := List.replicate 192 (cpl 1) });
      decide ((fetchPaused s c = true ∨ fetching s c = true))) = true ∧
    (let c : Fin 4 := 0;
      let s : State := wX (fun q => { q with sqHead := 250, sqTail := 20, cplq := List.replicate 192 (cpl 1) });
      decide ((64 ≤ (vget s.ctx c.val).pend.length ∨ 16 ≤ (vget s.ctx c.val).ingests.length ∨ 192 ≤ (vget s.ctx c.val).cplq.length))) = true ∧
    (let c : Fin 4 := 0; let s : State := wUp; decide ((vget s.ctx c.val).sqHead < ringSize s c 0)) = true ∧
    (let c : Fin 4 := 0; let s : State := wX id; (match freeTag s c with | some _ => decide (s.awake = true ∧ ctxEnabled s c = true ∧ portUp s c = true ∧ s.rfld (hcx Reg.HCX_POLL c) 0 16 ≠ 0 ∧ mrdBytes s c + 4 ≤ 16384 ∧ ringFull s c 1 (vget s.ctx c.val).cqHead (vget s.ctx c.val).cqTail = false ∧ ringFull s c 2 (vget s.ctx c.val).eqHead (vget s.ctx c.val).eqTail = false) | _ => false)) = true ∧
    (let c : Fin 4 := 0; let most : Nat := 1; let s : State := wX (fun q => { q with sqHead := 0, sqTail := 20 }); (match freeTag s c with | some _ => decide (s.awake = true ∧ ctxEnabled s c = true ∧ portUp s c = true ∧ fetchPaused s c = false ∧ fetching s c = false ∧ min most (fetchCount s c) ≠ 0 ∧ mrdBytes s c + 64 * min most (fetchCount s c) ≤ 16384) | _ => false)) = true ∧
    (let c : Fin 4 := 0; let s : State := { wX id with port := wRd }; let i : Instr := .mcpl 0 (rxPkt (tBytes 0 0x03 1 4 0 4 0 0 [5, 0, 0, 0])); let m : Mrd := ⟨1, 0, 4, [], .poll 0 0⟩; let ring : Nat := 0; (match heardTrans s i c with | some (x, u) => let index := ofBytesLE ((m.data ++ x.payload).take 4) % 65536; decide (x.typ = 0x03 ∧ x.fieldsOk (maxPayload u c.val) = true ∧ ctxEnabled u c = true ∧ (vget u.port c.val).mrds.find? (fun m => m.tag == x.tag) = some m ∧ x.status = 0 ∧ mcplFits m x.d1 x.d2 x.len = true ∧ m.data.length + x.payload.length = m.count ∧ m.use = .poll (vget u.ctx c.val).life ring ∧ ring < 3 ∧ index < ringSize u c ring) | _ => false)) = true ∧
    (let c : Fin 4 := 1; let s : State := { wX id with port := wRd }; let i : Instr := .mcpl 1 (rxPkt (tBytes 0 0x03 3 4 0 4 0 0 [0, 9, 0, 0])); let m : Mrd := ⟨3, 0, 4, [], .poll 0 1⟩; let ring : Nat := 1; (match heardTrans s i c with | some (x, u) => let index := ofBytesLE ((m.data ++ x.payload).take 4) % 65536; decide (x.typ = 0x03 ∧ x.fieldsOk (maxPayload u c.val) = true ∧ ctxEnabled u c = true ∧ (vget u.port c.val).mrds.find? (fun m => m.tag == x.tag) = some m ∧ x.status = 0 ∧ mcplFits m x.d1 x.d2 x.len = true ∧ m.data.length + x.payload.length = m.count ∧ m.use = .poll (vget u.ctx c.val).life ring ∧ ring < 3 ∧ ringSize u c ring ≤ index) | _ => false)) = true ∧
    (let c : Fin 4 := 2; let s : State := { wX id with port := wRd }; let i : Instr := .mcpl 2 (rxPkt (tBytes 0 0x03 2 64 0 64 0 0 (List.replicate 64 7))); let m : Mrd := ⟨2, 0, 64, [], .fetch 0 0 1⟩; let head := 0; let n : Nat := 1; (match heardTrans s i c with | some (x, u) => decide (x.typ = 0x03 ∧ x.fieldsOk (maxPayload u c.val) = true ∧ ctxEnabled u c = true ∧ (vget u.port c.val).mrds.find? (fun m => m.tag == x.tag) = some m ∧ x.status = 0 ∧ mcplFits m x.d1 x.d2 x.len = true ∧ m.data.length + x.payload.length = m.count ∧ m.use = .fetch (vget u.ctx c.val).life head n) | _ => false)) = true ∧
    (let c : Fin 4 := 0; let s : State := { wX id with port := wRd }; let i : Instr := .mcpl 0 (rxPkt (tBytes 0 0x03 1 0 2 0 0 0 [])); let m : Mrd := ⟨1, 0, 4, [], .poll 0 0⟩; let life := 0; (match heardTrans s i c with | some (x, u) => decide (x.typ = 0x03 ∧ x.fieldsOk (maxPayload u c.val) = true ∧ ctxEnabled u c = true ∧ (vget u.port c.val).mrds.find? (fun m => m.tag == x.tag) = some m ∧ x.status ≠ 0 ∧ (match m.use with | .poll l _ => l == life | .fetch l _ _ => l == life | _ => false) = true) | _ => false)) = true := by decide +kernel

end Contexts

namespace Descriptors

/-- A state or part of one for the witnesses below. -/
def dsc (op : Nat) (ws : List Nat) (al : Nat := 0) (fl : Nat := 0) : Desc := ⟨3, [op + fl * 256 + al * 2^16, 0x77, 5, 0] ++ padTo 0 12 ws⟩
/-- A state or part of one for the witnesses below. -/
def wX (f : CtxState → CtxState) : State := { wUp with
  port := Vector.replicate 4 { st := .up, active := 3, farP := { got := true, inf := true }, farN := { got := true, inf := true }, farC := { got := true, inf := true } }, ctx := Vector.replicate 4 (f {}),
  regs := [(Reg.RAC_OWNER, 0)] ++ (List.range 4).flatMap (fun c => [(hcx Reg.HCX_CTL c, 0x41), (hcx Reg.HCX_LAYERS c, 0xFFFF), (hcx Reg.HCX_RING_SIZE c, 0x040508), (hcx Reg.HCX_POLL c, 5)]) }
/-- A state or part of one for the witnesses below. -/
def fq (ds : List Desc) : State := wX (fun q => { q with fetched := ds })
/-- A state or part of one for the witnesses below. -/
def dSurf : Desc := dsc 1 [9, 0x110, 0x00010001, 0, 0x1000, 0, 16, 0, 0, 0, 0, 0]
/-- A state or part of one for the witnesses below. -/
def dPres : Desc := dsc 2 [0x103, 0]
/-- A state or part of one for the witnesses below. -/
def dPresH : Desc := dsc 2 [3, 9]
/-- A state or part of one for the witnesses below. -/
def dPar : Desc := dsc 3 [2]
/-- A state or part of one for the witnesses below. -/
def dClD : Desc := dsc 5 [4, 2, 0x1000, 0]
/-- A state or part of one for the witnesses below. -/
def dClP : Desc := dsc 6 [0x0104, 0]
/-- A state or part of one for the witnesses below. -/
def dTab : Desc := dsc 7 [1, 0, 0x1000, 0, 16, 0]
/-- A state or part of one for the witnesses below. -/
def dQry : Desc := dsc 8 [1, 0, 0x1000, 0, 4]
/-- A state or part of one for the witnesses below. -/
def dFen (m : Nat) : Desc := dsc 9 [m]
/-- A state or part of one for the witnesses below. -/
def gI (d : Desc) (rd : HostRead) : Ingest := ⟨1, d, 9, false, ⟨1,0,0,0⟩, 64, rd⟩
/-- A state or part of one for the witnesses below. -/
def dn (l : List Nat) : HostRead := ⟨[], 1, [(0, l)]⟩
/-- A state or part of one for the witnesses below. -/
def gT (sw : Bool) : TableLoad := ⟨1, dTab, 1, 0, sw, 7, false, false, 16, dn (List.replicate 16 5), []⟩
/-- A state or part of one for the witnesses below. -/
def gC (l : List Nat) : ClipRead := ⟨1, dClD, 4, false, 2, dn l⟩
/-- A state or part of one for the witnesses below. -/
def sfc : Surface := ⟨0, 9, 0, 1, 1, ⟨2,0,0,0⟩, [1,2,3,4], 0, true⟩
/-- A state or part of one for the witnesses below. -/
def ceb : List Nat := [9,0,0,0,1,0,0,0]

/-- A state and operands for each clause of `DescriptorChecks`. -/
theorem test_meets_DescriptorChecks :
    (let c : Fin 4 := 0; let s : State := wUp; decide (nextDesc s c = none)) = true ∧
    (let c : Fin 4 := 0; let s : State := fq [dsc 0 []]; let op : Nat := 1; (match nextDesc s c with | some d => decide (descCmd op c ≠ descCmd d.op c) | _ => false)) = true ∧
    (let s : State := { fq [dsc 0 []] with pwr := wStby.pwr }; decide (s.awake = false)) = true ∧
    (let c : Fin 4 := 0; let s : State := wX (fun q => { q with fetched := [dsc 0 [] 5], alive := some 3 }); (match nextDesc s c with | some d => decide (aliveOk s c d = false) | _ => false)) = true ∧
    (let c : Fin 4 := 0; let s : State := fq [dsc 12 []]; (match nextDesc s c with | some d => decide (aliveOk s c d = true ∧ 9 < d.op) | _ => false)) = true ∧
    (let c : Fin 4 := 0; let s : State := fq [dClP]; let status : Nat := 4; (match nextDesc s c with | some d => decide (aliveOk s c d = true ∧ ((9 < d.op ∧ status = 1) ∨ (d.op ≤ 9 ∧ fieldsOk s c d = false ∧ status = 2) ∨ (d.op ≤ 9 ∧ fieldsOk s c d = true ∧ rightsOk s c d = false ∧ status = 3) ∨ (d.op ≤ 9 ∧ fieldsOk s c d = true ∧ rightsOk s c d = true ∧ knownOk s c d = false ∧ status = 4))) | _ => false)) = true := by decide +kernel

/-- A state and operands for each clause of `AcceptedDescriptors`. -/
theorem test_meets_AcceptedDescriptors :
    (let c : Fin 4 := 0; let s : State := fq [dsc 0 []]; (match nextDesc s c with | some d => decide (aliveOk s c d = true ∧ d.op ≤ 9 ∧ fieldsOk s c d = true ∧ rightsOk s c d = true ∧ knownOk s c d = true) | _ => false)) = true ∧
    (let c : Fin 4 := 0; let s : State := { fq [{ dPres with w := [0x402, 1, 2] ++ dPres.w.drop 3 }] with scn := { wUp.scn with frame := 2^32 + 100 } }; (match nextDesc s c with | some d => decide (aliveOk s c d = true ∧ d.op ≤ 9 ∧ fieldsOk s c d = true ∧ rightsOk s c d = true ∧ knownOk s c d = true ∧ d.now = true) | _ => false)) = true ∧
    (let c : Fin 4 := 0; let s : State := fq [dsc 0 []]; (match nextDesc s c with | some d => decide (aliveOk s c d = true ∧ d.op ≤ 9 ∧ fieldsOk s c d = true ∧ rightsOk s c d = true ∧ knownOk s c d = true ∧ d.now = false) | _ => false)) = true ∧
    (let c : Fin 4 := 0; let s : State := fq [dsc 0 []]; (match nextDesc s c with | some d => decide (aliveOk s c d = true ∧ d.op ≤ 9 ∧ fieldsOk s c d = true ∧ rightsOk s c d = true ∧ knownOk s c d = true ∧ d.op = 0) | _ => false)) = true ∧
    (let c : Fin 4 := 0; let s : State := fq [dPres]; (match nextDesc s c with | some d => decide (aliveOk s c d = true ∧ d.op ≤ 9 ∧ fieldsOk s c d = true ∧ rightsOk s c d = true ∧ knownOk s c d = true ∧ d.op = 2) | _ => false)) = true ∧
    (let c : Fin 4 := 0; let s : State := fq [dPar]; let cmd : Instr := .layerParam 0; (match nextDesc s c with | some d => decide (aliveOk s c d = true ∧ d.op ≤ 9 ∧ fieldsOk s c d = true ∧ rightsOk s c d = true ∧ knownOk s c d = true ∧ (d.op = 3 ∧ cmd = .layerParam c) ∨ (d.op = 4 ∧ cmd = .brightness c) ∨ (d.op = 6 ∧ cmd = .clipPlay c)) | _ => false)) = true ∧
    (let c : Fin 4 := 0; let s : State := fq [dFen 0]; (match nextDesc s c with | some d => decide (aliveOk s c d = true ∧ d.op ≤ 9 ∧ fieldsOk s c d = true ∧ rightsOk s c d = true ∧ knownOk s c d = true ∧ d.op = 9) | _ => false)) = true ∧
    (let c : Fin 4 := 0; let s : State := fq [dQry]; (match nextDesc s c with | some d => decide (aliveOk s c d = true ∧ d.op ≤ 9 ∧ fieldsOk s c d = true ∧ rightsOk s c d = true ∧ knownOk s c d = true ∧ d.op = 8 ∧ (¬ (d.bits 4 0 8 = 3 ∧ d.word 5 ≠ 0 ∧ emitterCount s ≤ 8192 * d.word 5))) | _ => false)) = true ∧
    (let c : Fin 4 := 0; let s : State := fq [dsc 8 [3, 1000, 0x1000, 0, 4]]; (match nextDesc s c with | some d => decide (aliveOk s c d = true ∧ d.op ≤ 9 ∧ fieldsOk s c d = true ∧ rightsOk s c d = true ∧ knownOk s c d = true ∧ d.op = 8 ∧ d.bits 4 0 8 = 3 ∧ d.word 5 ≠ 0 ∧ emitterCount s ≤ 8192 * d.word 5) | _ => false)) = true := by decide +kernel

/-- A state and operands for each clause of `LoadingDescriptors`. -/
theorem test_meets_LoadingDescriptors :
    (let c : Fin 4 := 0; let s : State := wX (fun q => { q with fetched := [dSurf], ingests := [gI dSurf (dn [1,2,3,4])] }); (match nextDesc s c with | some d => decide (aliveOk s c d = true ∧ fieldsOk s c d = true ∧ rightsOk s c d = true ∧ knownOk s c d = true ∧ d.op = 1 ∧ (vget s.ctx c.val).ingests.any (fun x => x.handle == d.word 4) = true) | _ => false)) = true ∧
    (let c : Fin 4 := 0; let s : State := { fq [dSurf] with cur := { wUp.cur with qeff := [0, 0, 0, 0] } }; (match nextDesc s c with | some d => decide (aliveOk s c d = true ∧ fieldsOk s c d = true ∧ rightsOk s c d = true ∧ knownOk s c d = true ∧ d.op = 1 ∧ (vget s.ctx c.val).ingests = [] ∧ (vget s.ctx c.val).pend = [] ∧ s.cur.qeff.getD c.val 0 * 128 < pagesOf (surfaceBytes (d.bits 5 0 8) (d.bits 6 0 16) (d.bits 6 16 16))) | _ => false)) = true ∧
    (let c : Fin 4 := 0; let s : State := fq [dClD]; (match nextDesc s c with | some d => decide (aliveOk s c d = true ∧ fieldsOk s c d = true ∧ rightsOk s c d = true ∧ knownOk s c d = true ∧ d.op = 5) | _ => false)) = true ∧
    (let c : Fin 4 := 0; let s : State := fq [dTab]; (match nextDesc s c with | some d => decide (aliveOk s c d = true ∧ fieldsOk s c d = true ∧ rightsOk s c d = true ∧ knownOk s c d = true ∧ d.op = 7) | _ => false)) = true := by decide +kernel

/-- A state and operands for each clause of `LoadsEnd`. -/
theorem test_meets_LoadsEnd :
    (let c : Fin 4 := 0; let s : State := wX (fun q => { q with ingests := [gI { dSurf with w := (0x201 :: dSurf.w.drop 1) } (dn [1,2,3,4])] }); let serial : Nat := 1; (match (vget s.ctx c.val).ingests with | [g] => decide (g.serial = serial ∧ g.queued = false ∧ g.read.done = true ∧ g.d.bits 0 9 1 = 1 ∧ crc32c g.bytes ≠ g.d.word 3) | _ => false)) = true ∧
    (let c : Fin 4 := 0; let s : State := wX (fun q => { q with fetched := [dPresH], ingests := [gI dSurf (dn [1,2,3,4])] }); let serial : Nat := 1; (match (vget s.ctx c.val).ingests with | [g] => decide (g.serial = serial ∧ g.queued = false ∧ g.read.done = true ∧ g.d.op = 1 ∧ (g.d.bits 0 9 1 = 0 ∨ crc32c g.bytes = g.d.word 3)) | _ => false)) = true ∧
    (let c : Fin 4 := 0; let s : State := wUp; let serial : Nat := 0;
      decide ((vget s.ctx c.val).ingests.find? (fun g => g.serial == serial) = none)) = true ∧
    (let c : Fin 4 := 0; let s : State := wX (fun q => { q with clipReads := [gC (ceb ++ [9,0,0,0,0,0,0,0])] }); (match (vget s.ctx c.val).clipReads with | [g] => decide (g.read.done = true ∧ (clipEntries g.read.bytes).any (fun e => e.2 == 0) = true) | _ => false)) = true ∧
    (let c : Fin 4 := 0; let s : State := wX (fun q => { q with clipReads := [gC (ceb ++ ceb)] }); (match (vget s.ctx c.val).clipReads with | [g] => decide (g.read.done = true ∧ (∀ e ∈ clipEntries g.read.bytes, e.2 ≠ 0) ∧ (clipEntries g.read.bytes).any (fun e => (findSurface s c e.1).isNone) = true) | _ => false)) = true ∧
    (let c : Fin 4 := 0; let s : State := { wX (fun q => { q with clipReads := [gC (ceb ++ ceb)] }) with cur := { wUp.cur with surfaces := [sfc] } }; (match (vget s.ctx c.val).clipReads with | [g] => decide (g.read.done = true ∧ (∀ e ∈ clipEntries g.read.bytes, e.2 ≠ 0 ∧ (findSurface s c e.1).isSome = true) ∧ clipPlays s c g.id = false ∧ g.d.bits 0 8 1 = 0) | _ => false)) = true ∧
    (let c : Fin 4 := 0; let s : State := wX (fun q => { q with tloads := [gT true] }); let serial : Nat := 1; (match (vget s.ctx c.val).tloads with | [g] => decide (g.serial = serial ∧ g.queued = false ∧ g.read.done = true ∧ g.swap = true) | _ => false)) = true ∧
    (let c : Fin 4 := 0; let s : State := wX (fun q => { q with tloads := [gT false] }); let serial : Nat := 1; (match (vget s.ctx c.val).tloads with | [g] => decide (g.serial = serial ∧ g.queued = false ∧ g.read.done = true ∧ g.swap = false ∧ g.d.bits 0 8 1 = 0) | _ => false)) = true ∧
    (let c : Fin 4 := 0; let s : State := wX (fun q => { q with queries := [(dQry, none), (dQry, some 3)] }); (match (vget s.ctx c.val).queries with | (_, none) :: _ => decide (s.awake = true ∧ portUp s c = true) | _ => false)) = true ∧
    (let c : Fin 4 := 0; let s : State := wX (fun q => { q with fetched := [dPres], fences := [⟨dFen 0, 0, 4, false⟩] }); (match (vget s.ctx c.val).fences with | f :: _ => decide ((f.mode = 1 → f.frame ≤ s.scn.frame) ∧ (f.mode = 2 → f.frame ≤ s.scn.frame) ∧ f.mode ≤ 2 ∧ (f.mode ≠ 1 → (vget s.ctx c.val).pend = [] ∧ (vget s.ctx c.val).ingests = [] ∧ (vget s.ctx c.val).tloads = [] ∧ (vget s.ctx c.val).clipReads = [] ∧ (vget s.ctx c.val).queries = [] ∧ s.pix.swaps = []) ∧ f.d.bits 0 8 1 = 0) | _ => false)) = true ∧
    (let c : Fin 4 := 0; let s : State := wUp; decide ((vget s.ctx c.val).fences = [])) = true := by decide +kernel

end Descriptors

namespace Curator

/-- A state or part of one for the witnesses below. -/
def regsOff (s : State) (l : List (Nat × Word)) : State := { s with regs := l ++ s.regs }
/-- A state or part of one for the witnesses below. -/
def wC (f : CuratorState → CuratorState) : State := { wUp with cur := f wUp.cur }
/-- A state or part of one for the witnesses below. -/
def wPx (f : PixState → PixState) : State := { wUp with pix := f {} }
/-- A state or part of one for the witnesses below. -/
def cmpd (k : Nat) : Composed := ⟨k, 1, 1, 5, none, 0, 0, [], 3, 4, [1, 2, 3], [], [], [], [], []⟩
/-- A state or part of one for the witnesses below. -/
def tIx (t i : Nat) (s : State) : State := regsOff s [(Reg.PIX_TBL_INDEX, BitVec.ofNat 32 (t * 2^28 + i)), (Reg.PIX_TBL_CTL, 1)]
/-- A state or part of one for the witnesses below. -/
def rw0 : RowAt := { channel := 1, bank := 2, row := 3 }
/-- A state or part of one for the witnesses below. -/
def dc (t : Option Nat) : DupCheck := ⟨64, 1, 1, 2, t⟩

/-- A state and operands for each clause of `FrameAndComposition`. -/
theorem test_meets_FrameAndComposition :
    (let s : State := wR; decide ((s.awake = false ∨ (s.pwr.scanLock = false ∧ s.pwr.scanLost = false)))) = true ∧
    (let s : State := wUp; decide (s.awake = true ∧ (s.pwr.scanLock = true ∨ s.pwr.scanLost = true))) = true ∧
    (let s : State := wPx (fun x => { x with composing := some (cmpd 3) }); (match s.pix.composing with | some _ => decide (s.awake = true) | _ => false)) = true ∧
    (let s : State := wR; decide ((s.awake = false ∨ s.pix.composing = none))) = true := by decide +kernel

/-- A state and operands for each clause of `BandChecks`. -/
theorem test_meets_BandChecks :
    (let s : State := wR; decide (s.cur.dup = none)) = true ∧
    (let s : State := { wPx (fun x => { x with composing := some (cmpd 3), composed := [cmpd 2] }) with cur := { wUp.cur with dup := some (dc (some 3)), dupAgain := some (dc none), oldPages := [(0, ⟨1,0,0,0⟩)] } }; (match s.cur.dup with | some _ => true | _ => false)) = true ∧
    (let s : State := wC (fun x => { x with dup := some (dc none) }); (match s.cur.dup with | some d => decide (d.third = none) | _ => false)) = true ∧
    (let s : State := { wPx (fun x => { x with composing := some (cmpd 3), composed := [cmpd 2] }) with cur := { wUp.cur with dup := some (dc (some 3)), dupAgain := some (dc none), oldPages := [(0, ⟨1,0,0,0⟩)] } }; let good : Bool := true; (match s.cur.dup with | some d => (match d.third with | some _ => decide (2 ≤ (beList s).length ∧ beInService s (if good then d.dup else d.engine) = true) | _ => false) | _ => false)) = true ∧
    (let s : State := { wPx (fun x => { x with composing := some (cmpd 3), composed := [cmpd 2] }) with cur := { wUp.cur with dup := some (dc (some 3)), dupAgain := some (dc none), oldPages := [(0, ⟨1,0,0,0⟩)] } }; (match s.cur.dup with | some d => (match d.third with | some _ => true | _ => false) | _ => false)) = true ∧
    (let data : Word := 0; let s : State := wR; decide ((∃ e ∈ List.range 8, beInService s e = true ∧
      (actionBits data ||| s.cur.retireReq).testBit e = false))) = true ∧
    (let data : Word := 0x00FF00FF; let s : State := wR;
      decide ((∀ e ∈ List.range 8, beInService s e = true → (actionBits data).testBit e = true))) = true := by decide +kernel

/-- A state and operands for each clause of `EccErrors`. -/
theorem test_meets_EccErrors :
    (let row : RowAt := rw0; let s : State := wUp; decide (rowReal row = true ∧ s.awake = true)) = true ∧
    (let row : RowAt := rw0; let s : State := wUp; decide (rowReal row = true ∧ s.awake = true ∧
      s.rfld Reg.CUR_ECC_CTL 24 8 ≠ 0)) = true ∧
    (let row : RowAt := rw0; let s : State := wUp; decide (rowReal row = true ∧ s.awake = true ∧
      s.rfld Reg.CUR_ECC_CTL 24 8 ≠ 0 ∧ s.cur.failedRows.contains row = false)) = true ∧
    (let row : RowAt := rw0; let s : State := regsOff wUp [(Reg.CUR_ECC_CTL, 1)]; decide (rowReal row = true ∧
      s.awake = true ∧ s.rfld Reg.CUR_ECC_CTL 24 8 = 0)) = true := by decide +kernel

/-- A state and operands for each clause of `TablePort`. -/
theorem test_meets_TablePort :
    (let s : State := tIx 1 5000000 wUp; decide (tableWords s (tblIndex s).1 ≤ (tblIndex s).2)) = true ∧
    (let s : State := wR; decide ((tblIndex s).2 < tableWords s (tblIndex s).1)) = true ∧
    (let s : State := tIx 1 5 (wPx (fun x => { x with tbl := Vector.replicate 4 { copying := true, bank0 := [(0, 5)], bank1 := [(3, 6)] } }));
      decide ((tblIndex s).2 < tableWords s (tblIndex s).1 ∧ (tableOf s (tblIndex s).1).copying = true)) = true ∧
    (let s : State := wR; decide ((tblIndex s).2 < tableWords s (tblIndex s).1 ∧
      (tableOf s (tblIndex s).1).copying = false)) = true ∧
    (let n : Nat := 1;
      let s : State := tIx 1 5 (wPx (fun x => { x with tbl := Vector.replicate 4 { copying := true, bank0 := [(0, 5)], bank1 := [(3, 6)] } }));
      decide (1 ≤ n ∧ n ≤ 4 ∧ (tableOf s n).copying = true)) = true ∧
    (let n : Nat := 1;
      let s : State := tIx 1 5 (wPx (fun x => { x with tbl := Vector.replicate 4 { dirty := true, active := true, bank0 := [(0, 5)], bank1 := [(3, 6)] } }));
      decide (1 ≤ n ∧ n ≤ 4 ∧ s.docentRuns = true ∧ (tableOf s n).dirty = true ∧
      (s.rfld Reg.PIX_TBL_CTL 0 4).testBit (n - 1) = true)) = true ∧
    (let n : Nat := 1; let s : State := wR; decide (1 ≤ n ∧ n ≤ 4 ∧
      (s.docentRuns = false ∨ (tableOf s n).dirty = false ∨ (s.rfld Reg.PIX_TBL_CTL 0 4).testBit (n - 1) = false))) = true := by decide +kernel

end Curator

namespace Scan

/-- A state or part of one for the witnesses below. -/
def gset : List (Nat × Word) := [(Reg.PIX_GEOM, 0x00100010), (Reg.SCN_CLK_SRC, 0), (Reg.SCN_SH_FPER, 6666667), (Reg.SCN_SH_GCK, 16384), (Reg.SCN_SH_MODE, 0x800A0), (Reg.SCN_SH_FBIMIN, 16000), (Reg.SCN_SH_PHASE, 0), (Reg.CCH_EN, 1), (Reg.CCH_GEOM, 0x30000), (Reg.CCH_DCK, 20)]
/-- A state or part of one for the witnesses below. -/
def wA (f : ScanState → ScanState) : State := { wUp with act := gset, regs := wUp.regs ++ gset ++ [(Reg.SCN_EVT_EN, 7), (Reg.DIA_CTL, 3), (Reg.GLB_CMT_CTL, 7)], scn := f { dark := none, frame := 9 }, cmt := { wUp.cmt with everAccepted := true }, saf := { wUp.saf with seg := .run, gate := 65535 } }
/-- A state or part of one for the witnesses below. -/
def wAc (f : CommitState → CommitState) : State := { wA id with cmt := f { wUp.cmt with everAccepted := true } }
/-- A state or part of one for the witnesses below. -/
def wAh (f : ChainState → ChainState) : State := { wA id with cch := f {} }
/-- A state or part of one for the witnesses below. -/
def wAd (f : DiaState → DiaState) : State := { wA id with dia := f {} }
/-- A state or part of one for the witnesses below. -/
def wNs (s : State) : State := { s with act := kset s.act Reg.SCN_SH_MODE 0x803A0 }
/-- A state or part of one for the witnesses below. -/
def cmpd (k : Nat) : Composed := ⟨k, 16, 16, 5, none, 0, 0, [], 3, 4, [1, 2, 3], [], [], [], [], []⟩
/-- A state or part of one for the witnesses below. -/
def upl (k : Nat) (c : Bool) : Upload := ⟨k, c, 16, 16, [], []⟩
/-- A state or part of one for the witnesses below. -/
def regsOff (s : State) (l : List (Nat × Word)) : State := { s with regs := l ++ s.regs }
/-- A state or part of one for the witnesses below. -/
def trGood : TrainIn := ⟨List.replicate 20 false ++ trainBits 127, (List.range 16).map (fun i => if 3 ≤ i ∧ i < 10 then trainBits 4096 else [])⟩

/-- A state and operands for each clause of `UploadRules`. -/
theorem test_meets_UploadRules :
    (let s : State := wR;
      decide ((s.scn.upload.isSome = true ∨ s.cmt.everAccepted = false ∨ outputsHeld s = true ∨ s.scn.deadlineDone = true ∨ (s.scn.frame + 1) ∈ s.scn.skipped ∨ s.cch.statBusy = true))) = true ∧
    (let s : State := { wA id with pix := { composed := [cmpd 10] } }; (match uploadFrame s with | some _ => true | _ => false)) = true ∧
    (let s : State := wA (fun x => { x with upload := some (upl 10 false) }); (match s.scn.upload with | some u => decide (scanRuns s = true ∧ u.complete = false ∧ s.scn.deadlineDone = false) | _ => false)) = true ∧
    (let s : State := wR; decide ((s.scn.upload = none ∨ s.scn.deadlineDone = true))) = true ∧
    (let s : State := wA (fun x => { x with upload := some (upl 10 true), deadlineDone := true });
      decide (scanRuns s = true ∧ s.scn.deadlineDone = true)) = true ∧
    (let s : State := wUp; decide (scanRuns s = true ∧ s.scn.deadlineDone = false ∧
      outputsHeld s = false)) = true := by decide +kernel

/-- A state and operands for each clause of `LineVisits`. -/
theorem test_meets_LineVisits :
    (let s : State := wUp; (match nextVisit s with | some (_, _) => decide (scanRuns s = true ∧ s.scn.blanking = false) | _ => false)) = true ∧
    (let s : State := wUp; decide (scanRuns s = true ∧ s.scn.blanking = false ∧
      s.scn.line + 1 < tS (actSet s))) = true ∧
    (let s : State := wNs (wA (fun x => { x with line := 15, subframe := 3, gateA := 65535, gateB := 65535, gateLine := 65535, rowen := true }));
      decide (scanRuns s = true ∧ s.scn.blanking = false ∧ s.scn.line + 1 = tS (actSet s) ∧
      s.scn.subframe + 1 < tNsf (actSet s))) = true ∧
    (let s : State := wA (fun x => { x with line := 15 }); decide (scanRuns s = true ∧ s.scn.blanking = false ∧
      nextVisit s = none)) = true ∧
    (let s : State := wUp; decide (scanRuns s = true ∧ s.scn.blanking = false)) = true ∧
    (let s : State := wUp; decide (scanRuns s = true ∧ s.scn.blanking = false ∧ s.cmt.pend = false)) = true ∧
    (let s : State := wA id; decide (scanRuns s = true ∧ s.scn.blanking = false ∧ s.scn.lmatch = 256 * s.scn.subframe + s.scn.line ∧ (s.reg Reg.SCN_EVT_EN).toNat.testBit 1 = true)) = true ∧
    (let s : State := wUp; decide (scanRuns s = true ∧ s.scn.blanking = false ∧ (s.scn.lmatch ≠ 256 * s.scn.subframe + s.scn.line ∨ (s.reg Reg.SCN_EVT_EN).toNat.testBit 1 = false))) = true := by decide +kernel

/-- A state and operands for each clause of `CommitSample`. -/
theorem test_meets_CommitSample :
    (let data : Word := 1; let s : State := wUp; decide (s.awake = true ∧ data.getLsbD 0 = true)) = true ∧
    (let data : Word := 0; let s : State := wUp; decide (s.awake = true ∧ data.getLsbD 0 = false)) = true ∧
    (let s : State := wAc (fun x => { x with pend := true, window := true }); decide (scanRuns s = true ∧
      s.scn.blanking = false ∧ s.cmt.pend = true ∧ samplingWaits s = true)) = true ∧
    (let s : State := regsOff (wAc (fun x => { x with pend := true })) [(Reg.SCN_SH_FPER, 1666665)];
      let g : Nat → Word := fun a => kget (resetWord s.pwr.legacy s.pwr.viocClass a) (s.regs.filter (fun p => stagedAddrs.contains p.1)) a;
      decide (scanRuns s = true ∧ s.scn.blanking = false ∧ s.cmt.pend = true ∧ samplingWaits s = false ∧
      commitErr s g ≠ 0)) = true ∧
    (let s : State := wAc (fun x => { x with pend := true });
      let g : Nat → Word := fun a => kget (resetWord s.pwr.legacy s.pwr.viocClass a) (s.regs.filter (fun p => stagedAddrs.contains p.1)) a;
      decide (scanRuns s = true ∧ s.scn.blanking = false ∧ s.cmt.pend = true ∧ samplingWaits s = false ∧
      commitErr s g = 0)) = true ∧
    (let s : State := wR; let g : Nat → Word := fun a => kget 0 gset a;
      decide (commitErr s g = 0)) = true := by decide +kernel

/-- A state and operands for each clause of `GenlockAndScanClock`. -/
theorem test_meets_GenlockAndScanClock :
    (let s : State := wUp; let ns := 0; decide (s.awake = true ∧ ns < 100)) = true ∧
    (let s : State := wUp; let cycles : Nat := 6666667; let ns := 100; decide (s.awake = true ∧
      s.pwr.scanLock = true ∧ 100 ≤ ns ∧ 19 * framePeriod s ≤ 20 * cycles ∧
      20 * cycles ≤ 21 * framePeriod s)) = true ∧
    (let s : State := wUp; let cycles : Nat := 0; let ns := 100; decide (s.awake = true ∧ s.pwr.scanLock = true ∧
      100 ≤ ns ∧ (20 * cycles < 19 * framePeriod s ∨ 21 * framePeriod s < 20 * cycles))) = true ∧
    (let s : State := wA (fun x => { x with genlock := .wait, accepted := 2, glkSeen := true, rejects := 15 });
      decide (s.awake = true ∧ s.pwr.scanLock = true ∧ s.scn.glkSeen = true)) = true ∧
    (let s : State := wUp; decide (s.awake = true ∧ s.pwr.scanLock = true)) = true ∧
    (let s : State := { wA (fun x => { x with upload := some (upl 10 true), rowen := true }) with pwr := { wUp.pwr with scanLock := false, scanLost := true } };
      decide (s.awake = true ∧ s.pwr.scanLock = false ∧ s.pwr.scanLost = true)) = true ∧
    (let s : State := wUp; let cycles : Nat := 6333334; decide (19 * framePeriod s ≤ 20 * cycles ∧
      20 * cycles ≤ 21 * framePeriod s)) = true ∧
    (let s : State := wUp; let cycles : Nat := 7000000; decide (19 * framePeriod s ≤ 20 * cycles ∧
      20 * cycles ≤ 21 * framePeriod s)) = true ∧
    (let s : State := wUp; let cycles : Nat := 6333333; decide (20 * cycles < 19 * framePeriod s)) = true ∧
    (let s : State := wUp; let cycles : Nat := 7000001;
      decide (21 * framePeriod s < 20 * cycles)) = true := by decide +kernel

/-- A state and operands for each clause of `ChainCommands`. -/
theorem test_meets_ChainCommands :
    (let trained : List TrainIn := List.replicate 32 ⟨[], []⟩; let s : State := wR; decide (trained.length = 32 ∧
      reloadFrame s = false)) = true ∧
    (let trained : List TrainIn := List.replicate 32 ⟨[], []⟩;
      let s : State := wA (fun x => { x with upload := some (upl 10 true), dark := some (.timing 2) });
      decide (trained.length = 32 ∧ reloadFrame s = true)) = true ∧
    (let x : TrainIn := trGood; (match trainResult x with | some (_, _) => true | _ => false)) = true ∧
    (let s : State := wR;
      decide ((s.cch.statBusy = true ∨ s.scn.swapSent = true ∨ s.scn.dark ≠ none ∨ outputsHeld s = true ∨ readDue s = false))) = true ∧
    (let s : State := { wAh (fun x => { x with statDue := true }) with scn := { (wA id).scn with upload := some (upl 10 true) } }; (match s.scn.upload with | some u => decide (readDue s = true ∧ s.cch.statBusy = false ∧ s.scn.swapSent = false ∧ s.scn.dark = none ∧ outputsHeld s = false ∧ u.complete = true ∧ s.dia.phase = .idle ∧ readFits s 0 = true) | _ => false)) = true ∧
    (let s : State := { wAd (fun x => { x with phase := .awaiting, defer := 4 }) with scn := { (wA id).scn with upload := none }, cmt := { wUp.cmt with everAccepted := true, due := true, cost := 2 } };
      decide (s.dia.phase = .awaiting ∧ (s.reg Reg.DIA_CTL).toNat.testBit 1 = true ∧ 4 ≤ s.dia.defer ∧
      s.scn.upload = none ∧ s.scn.dark = none ∧ s.cch.statBusy = false ∧ outputsHeld s = false ∧ s.cmt.due = true ∧
      s.cmt.cost ≠ 0)) = true ∧
    (let s : State := { wAd (fun x => { x with phase := .awaiting, defer := 4 }) with scn := { (wA id).scn with upload := none } };
      decide (s.dia.phase = .awaiting ∧ (s.reg Reg.DIA_CTL).toNat.testBit 1 = true ∧ 4 ≤ s.dia.defer ∧
      s.scn.upload = none ∧ s.scn.dark = none ∧ s.cch.statBusy = false ∧ outputsHeld s = false ∧
      (s.cmt.due = false ∨ s.cmt.cost = 0))) = true ∧
    (let words : List (List Nat) := List.replicate 32 [];
      let s : State := wAh (fun x => { x with statBusy := true }); decide (words.length = 32 ∧
      s.cch.statBusy = true ∧ s.dia.reading = false)) = true := by decide +kernel

end Scan

namespace Wear

/-- A state or part of one for the witnesses below. -/
def gset : List (Nat × Word) := [(Reg.PIX_GEOM, 0x00100010), (Reg.SCN_CLK_SRC, 0), (Reg.SCN_SH_FPER, 6666667), (Reg.SCN_SH_GCK, 16384), (Reg.SCN_SH_MODE, 0x800A0), (Reg.SCN_SH_FBIMIN, 16000), (Reg.SCN_SH_PHASE, 0), (Reg.CCH_EN, 1), (Reg.CCH_GEOM, 0x30000), (Reg.CCH_DCK, 20)]
/-- A state or part of one for the witnesses below. -/
def wA (f : ScanState → ScanState) : State := { wUp with act := gset, regs := wUp.regs ++ gset ++ [(Reg.SCN_EVT_EN, 7), (Reg.DIA_CTL, 3), (Reg.GLB_CMT_CTL, 7)], scn := f { dark := none, frame := 9 }, cmt := { wUp.cmt with everAccepted := true }, saf := { wUp.saf with seg := .run, gate := 65535 } }
/-- A state or part of one for the witnesses below. -/
def wAc (f : CommitState → CommitState) : State := { wA id with cmt := f { wUp.cmt with everAccepted := true } }
/-- A state or part of one for the witnesses below. -/
def regsOff (s : State) (l : List (Nat × Word)) : State := { s with regs := l ++ s.regs }
/-- A state or part of one for the witnesses below. -/
def ft (st : FaultSt) : FaultEntry := ⟨st, 2, 0, 7, 1, 1, 0, false, false⟩
/-- A state or part of one for the witnesses below. -/
def wPt (f : PatState → PatState) : State := { wA id with pat := f { restored := true } }

/-- A state and operands for each clause of `DiagnosticCommands`. -/
theorem test_meets_DiagnosticCommands :
    (let s : State := { wA (fun x => { x with blanking := true }) with dia := { phase := .armed, testFrame := 9, burstsSent := true } };
      decide (s.scn.blanking = true ∧ s.scn.dark = none ∧ s.dia.phase = .armed ∧ s.dia.testFrame = s.scn.frame ∧
      s.dia.burstsSent = true ∧ burstsFit s (roundBursts s s.dia.round) = true ∧ s.scn.deadlineDone = false ∧
      chainsDriven s = true)) = true ∧
    (let s : State := wUp;
      decide ((s.scn.blanking = false ∨ s.scn.deadlineDone = true ∨ chainsDriven s = false ∨ s.scn.dark ≠ none ∨ s.dia.phase ≠ .armed ∨ s.dia.testFrame ≠ s.scn.frame))) = true ∧
    (let s : State := wUp; decide (cmtStep s ≠ 2)) = true ∧
    (let s : State := wAc (fun x => { x with steps := [⟨2, 1, false, true⟩] }); decide (cmtStep s = 2)) = true ∧
    (let s : State := { wA id with dia := { phase := .armed, dirty := true, map := [(3, 2)], faults := [ft .candidate, ft .declared], listFull := true, round := 3, cycleStart := some 4 } };
      decide (s.dia.dirty = true ∧ s.docentRuns = true)) = true ∧
    (let s : State := wUp; decide ((s.dia.dirty = false ∨ s.docentRuns = false))) = true := by decide +kernel

/-- A state and operands for each clause of `PatinaCommands`. -/
theorem test_meets_PatinaCommands :
    (let s : State := wPt id; decide (s.pat.restored = true ∧ patRun s = true ∧ s.awake = true)) = true ∧
    (let s : State := wUp; decide ((s.pat.restored = false ∨ patRun s = false ∨ s.awake = false))) = true ∧
    (let s : State := regsOff (wPt (fun x => { x with heldSnaps := true, restored := false })) [(Reg.PAT_CTL, 1)];
      decide (s.awake = true ∧ s.pat.heldSnaps = true)) = true ∧
    (let s : State := wUp; decide (s.awake = true ∧ s.pat.heldSnaps = false ∧ s.pat.staging = none)) = true ∧
    (let s : State := regsOff (wPt (fun x => { x with staging := some ([(1, 2)], 3, 4, 16, 16) })) [(Reg.PAT_CTL, 0)];
      decide (s.awake = true ∧ s.pat.heldSnaps = false ∧ s.pat.staging ≠ none)) = true ∧
    (let s : State := { wPt (fun x => { x with staging := some ([(1, 2)], 3, 4, 16, 16) }) with pwr := { wUp.pwr with docent := .off } }; (match s.pat.staging with | some (_, _, _, _, _) => decide (s.docentRuns = false) | _ => false)) = true ∧
    (let s : State := regsOff (wPt (fun x => { x with staging := some ([(1, 2)], 3, 4, 16, 16) })) [(Reg.PAT_CTL, 0)]; (match s.pat.staging with | some (_, _, _, _, _) => decide (s.docentRuns = true ∧ s.pat.heldSnaps = false) | _ => false)) = true ∧
    (let s : State := wPt (fun x => { x with staging := some ([(1, 2)], 3, 4, 16, 16), heldSnaps := true }); (match s.pat.staging with | some (_, _, _, _, _) => decide (s.docentRuns = true ∧ s.pat.heldSnaps = true) | _ => false)) = true ∧
    (let s : State := wUp; decide (cmtStep s ≠ 2)) = true ∧
    (let s : State := wAc (fun x => { x with steps := [⟨2, 1, false, true⟩] }); decide (cmtStep s = 2)) = true ∧
    (let s : State := wPt (fun x => { x with lfsr := 5, dose := [(1, 100), (2, 2 ^ 32 - 3)] }); let e : Nat := 0;
      let d : Nat := 0; decide (s.pat.lfsr ≠ 0 ∧ doseOf s e + d / 2 ^ 24 < 2 ^ 32 - 1)) = true ∧
    (let s : State := wPt (fun x => { x with lfsr := 5, dose := [(1, 100), (2, 2 ^ 32 - 3)] }); let e : Nat := 0;
      let d : Nat := 0; decide (s.pat.lfsr ≠ 0 ∧ doseOf s e + d / 2 ^ 24 < 2 ^ 32 - 1 ∧ d % 2 ^ 24 = 0)) = true ∧
    (let s : State := wPt (fun x => { x with lfsr := 5, dose := [(1, 100), (2, 2 ^ 32 - 3)] }); let e : Nat := 0;
      let d : Nat := 0; let x := 1; decide (s.pat.lfsr ≠ 0 ∧ doseOf s e + d / 2 ^ 24 < 2 ^ 32 - 1 ∧ x ≠ e)) = true ∧
    (let s : State := wUp; decide (s.rfld Reg.PAT_DOSE_INDEX 0 22 < 3145728)) = true ∧
    (let s : State := wUp; decide (s.rfld Reg.PAT_DOSE_INDEX 0 22 < 3145728 ∧ patRun s = true)) = true ∧
    (let s : State := regsOff (wPt (fun x => { x with staging := some ([(1, 2)], 3, 4, 16, 16) })) [(Reg.PAT_CTL, 0)];
      decide (s.rfld Reg.PAT_DOSE_INDEX 0 22 < 3145728 ∧ patRun s = false)) = true ∧
    (let s : State := regsOff (wA id) [(Reg.PAT_DOSE_INDEX, 3145728), (Reg.PAT_CURVE_INDEX, 195)];
      decide (194 < s.rfld Reg.PAT_CURVE_INDEX 0 8)) = true ∧
    (let s : State := wUp; decide (s.rfld Reg.PAT_CURVE_INDEX 0 8 ≤ 194)) = true := by decide +kernel

/-- A state and operands for each clause of `PowerGood`. -/
theorem test_meets_PowerGood :
    (let s : State := wUp; decide (s.awake = true ∧ s.fen.pgLow = false)) = true ∧
    (let s : State := { wA id with fen := { pgLow := true } }; decide (s.awake = true ∧
      s.fen.pgLow = true)) = true := by decide +kernel

end Wear

namespace Cell

/-- A state or part of one for the witnesses below. -/
def wL (f : CellState → CellState) : State := { wUp with cel := f {}, regs := wUp.regs ++ [(Reg.CEL_PROT_V, 0x10680BB8 ), (Reg.CEL_BAL_REQ, 0xFFF)] }
/-- A state or part of one for the witnesses below. -/
def nr (f : CellState → CellState) : State := wL (fun x => f { x with calAgain := false })
/-- A state or part of one for the witnesses below. -/
def cA : Vector CellChan 12 := Vector.replicate 12 { v := 40000, valid := true, uv := {} }
/-- A state or part of one for the witnesses below. -/
def cOv (n : Nat) (on : Bool) : Vector CellChan 12 := Vector.replicate 12 { v := 40000, valid := true, ov := { s := n, on := on } }

/-- A state and operands for each clause of `CellEpochs`. -/
theorem test_meets_CellEpochs :
    (let s : State := nr (fun x => { x with running := false, lines := false, demand := true });
      decide (s.cel.running = false)) = true ∧
    (let s : State := wR; decide (s.cel.running = true)) = true ∧
    (let n : Nat := 0; let s : State := wR; decide (s.cel.running = true ∧ s.cel.trigger = none ∧
      n ≠ 100000)) = true ∧
    (let s : State := nr id; decide (s.cel.running = true ∧ s.cel.trigger = none ∧ s.cel.calRun = none ∧
      s.cel.calAgain = false)) = true ∧
    (let cells : List Nat := List.replicate 12 40000; let s : State := wR; decide (cells.length = 12 ∧
      (∀ v ∈ cells, v ≤ 65535) ∧ s.cel.epoch = s.cel.apertures)) = true ∧
    (let cells : List Nat := List.replicate 12 40000;
      let s : State := { nr (fun x => { x with cell := cA, apertures := 7, epoch := 6, sweepOf := some 4 }) with hb := { apt := some 77 } };
      decide (cells.length = 12 ∧ (∀ v ∈ cells, v ≤ 65535) ∧ s.cel.running = true ∧
      s.cel.epoch ≠ s.cel.apertures)) = true ∧
    (let slot : Nat := 0; let s : State := wR; decide (slot ≤ 18 ∧
      (s.cel.running = false ∨ s.cel.apertures = 0 ∨ s.cel.slots.testBit slot = true))) = true ∧
    (let slot : Nat := 0;
      let s : State := { nr (fun x => { x with cell := cA, apertures := 7, epoch := 6, sweepOf := some 4 }) with hb := { apt := some 77 } };
      decide (slot ≤ 18 ∧ s.cel.running = true ∧ s.cel.apertures ≠ 0 ∧ s.cel.slots.testBit slot = false)) = true ∧
    (let s : State := wR; decide (s.cel.running = true ∧ s.cel.thru = false)) = true := by decide +kernel

/-- A state and operands for each clause of `CellProtection`. -/
theorem test_meets_CellProtection :
    (let n : Nat := 0; let raw : Nat := 420000;
      let s : State := nr (fun x => { x with apertures := 7, epoch := 7, cell := cOv 3 false });
      let v := (clampInt 0 65535 (openRound ((raw : Int) - calValue s (0x9A + n)) 10)).toNat; decide (n < 12 ∧
      s.cel.running = true ∧ s.cel.apertures ≠ 0 ∧ s.cel.slots.testBit (n + 1) = false ∧ s.cel.refFault = false ∧
      s.cel.guard = true ∧ (vget s.cel.cell n).ov.on = false ∧ celOv s ≤ v ∧
      celVflt s ≤ (vget s.cel.cell n).ov.s + 1)) = true ∧
    (let n : Nat := 0; let raw : Nat := 420000;
      let s : State := { nr (fun x => { x with cell := cA, apertures := 7, epoch := 6, sweepOf := some 4 }) with hb := { apt := some 77 } };
      let v := (clampInt 0 65535 (openRound ((raw : Int) - calValue s (0x9A + n)) 10)).toNat; decide (n < 12 ∧
      s.cel.running = true ∧ s.cel.apertures ≠ 0 ∧ s.cel.slots.testBit (n + 1) = false ∧ s.cel.refFault = false ∧
      s.cel.guard = true ∧ (vget s.cel.cell n).ov.on = false ∧ celOv s ≤ v ∧
      (vget s.cel.cell n).ov.s + 1 < celVflt s ∧ celUv s < v)) = true ∧
    (let s : State := nr (fun x => { x with apertures := 7, epoch := 7, cell := cOv 3 true, demand := true });
      decide (s.cel.running = true ∧ celAny s = true)) = true ∧
    (let s : State := nr (fun x => { x with demand := true }); decide (s.cel.running = true ∧ celAny s = false ∧
      s.cel.demand = true)) = true ∧
    (let s : State := nr (fun x => { x with demand := true, clearPend := true, lines := false, cell := cOv 0 true });
      decide (s.cel.running = true ∧ s.cel.clearPend = true ∧ celAny s = true)) = true ∧
    (let s : State := nr (fun x => { x with demand := true, clearPend := true, lines := false });
      decide (s.cel.running = true ∧ s.cel.clearPend = true ∧ celAny s = false)) = true ∧
    (let s : State := wR; decide (s.cel.running = true ∧ s.cel.clearPend = false)) = true ∧
    (let s : State := wR; decide (s.cel.running = true)) = true ∧
    (let s : State := { nr id with acc := { wUp.acc with written := [Reg.CEL_PROT_LOCK] } };
      decide (s.cel.running = true ∧ Reg.CEL_PROT_LOCK ∈ s.acc.written)) = true ∧
    (let s : State := wR; decide (s.cel.running = true ∧
      Reg.CEL_PROT_LOCK ∉ s.acc.written)) = true := by decide +kernel

end Cell

namespace Hatband

/-- A state or part of one for the witnesses below. -/
def regsOff (s : State) (l : List (Nat × Word)) : State := { s with regs := l ++ s.regs }
/-- A state or part of one for the witnesses below. -/
def wH (f : HbState → HbState) : State := { wUp with hb := f {}, cel := { wUp.cel with running := true } }
/-- A state or part of one for the witnesses below. -/
def mem (f : HbState → HbState) : State := wH (fun x => f { x with role := .member, pos := 5, addr := some 5, version := 2, delayUp := 500, delayDn := 700 })
/-- A state or part of one for the witnesses below. -/
def hd (f : HbState → HbState) : State := regsOff (wH (fun x => f { x with role := .head, addr := some 0, version := 2 })) [(Reg.HBD_CTL, 0x00050001)]
/-- A state or part of one for the witnesses below. -/
def ring (s : State) : State := regsOff s [(Reg.HBD_CTL, 0x00050003)]
/-- A state or part of one for the witnesses below. -/
def mb (p : Nat) : HbMember := { pos := p, addr := p, enumerated := true, version := 2 }
/-- A state or part of one for the witnesses below. -/
def frT (typ : Nat) (dst : Nat) (b : Bool) (src al : Nat) (p : List Nat) : HbFrame := ⟨typ, al, b, dst, true, src, p⟩
/-- A state or part of one for the witnesses below. -/
def fr (dst : Nat) (b : Bool) (src al : Nat) (p : List Nat) : HbFrame := ⟨3, al, b, dst, true, src, p⟩

/-- A state and operands for each clause of `HatbandMember`. -/
theorem test_meets_HatbandMember :
    (let a : Nat := 0; let b : Nat := 0; let c : Nat := 0; let d : Nat := 0; let s : State := wH id; decide (a ≤ 31 ∧
      b ≤ 31 ∧ c ≤ 31 ∧ d ≤ 31 ∧ s.cel.running = true ∧ s.hb.addr = none ∧ (a = b ∧ b = c ∧ c = d))) = true ∧
    (let a : Nat := 0; let b : Nat := 0; let c : Nat := 0; let d : Nat := 1; let s : State := wH id; decide (a ≤ 31 ∧
      b ≤ 31 ∧ c ≤ 31 ∧ d ≤ 31 ∧ s.cel.running = true ∧ s.hb.addr = none ∧ (¬(a = b ∧ b = c ∧ c = d)))) = true ∧
    (let strap : Nat := 0; let s : State := wH (fun x => { x with addr := some 0, listening := true }); (match s.hb.addr with | some a => decide (strap ≤ 31 ∧ s.cel.running = true ∧ strap = a) | _ => false)) = true ∧
    (let strap : Nat := 0; let s : State := wH (fun x => { x with addr := some 5 }); (match s.hb.addr with | some a => decide (strap ≤ 31 ∧ s.cel.running = true ∧ strap ≠ a) | _ => false)) = true ∧
    (let f : HbFrame := fr 9 false 0 3 [5]; let s : State := mem id; decide (hbMember s = true ∧ f.bcast = false ∧
      f.dst ≠ hbAddr s ∧ f.payload.length = 1)) = true ∧
    (let f : HbFrame := fr 9 false 0 3 [0,1,2,3,4,5,6]; let s : State := mem id; decide (hbMember s = true ∧
      f.bcast = false ∧ f.dst ≠ hbAddr s ∧ f.payload.length = 7)) = true ∧
    (let f : HbFrame := fr 8 false 0 3 [0,1,2,3,4,5,6,7]; let s : State := mem id; decide (hbMember s = true ∧
      f.bcast = false ∧ f.dst ≠ hbAddr s ∧ f.payload.length = 8)) = true ∧
    (let f : HbFrame := fr 0 false 1 5 (List.range 62); let s : State := mem id; decide (hbMember s = true ∧
      f.bcast = false ∧ f.dst ≠ hbAddr s ∧ (f.payload.length = 62 ∨ f.payload.length = 54))) = true ∧
    (let f : HbFrame := fr 9 false 0 3 [5]; let s : State := mem id; decide (hbMember s = true ∧ f.bcast = false ∧
      f.dst ≠ hbAddr s ∧ f.payload.length ≤ 64)) = true ∧
    (let f : HbFrame := frT 0 5 false 2 5 [1, 2]; let s : State := mem id; decide (hbMember s = true ∧
      f.payload.length ≤ 64 ∧ (f.typ = 0 ∨ 9 < f.typ))) = true ∧
    (let up : Bool := true; let f : HbFrame := fr 5 false 0 3 [5];
      let s : State := mem (fun x => { x with aliveOf := [(0, 3), (7, 9)] });
      let c : Instr := (.ident true (fr 5 false 0 3 [5])); decide (hbMember s = true ∧ f.bcast = false ∧
      f.dst = hbAddr s ∧ kfind s.hb.aliveOf f.src = some f.alive ∧ (c = .ident up f ∧
      f.payload.length = 1) ∨ (c = .ping up f ∧ f.payload.length = 1) ∨ (c = .setup up f ∧
      f.payload.length = 7) ∨ (c = .read up f ∧ f.payload.length = 8))) = true ∧
    (let f : HbFrame := fr 5 false 0 3 [5]; let s : State := mem id; decide ((hbMember s = true ∧ f.bcast = false ∧
      f.dst = hbAddr s ∧ kfind s.hb.aliveOf f.src ≠ some f.alive) ∧ f.payload.length = 1)) = true ∧
    (let s : State := wH id; decide (s.hb.echoDue = none)) = true ∧
    (let f : HbFrame := fr 5 false 7 3 [0,1,2,3,4,5,6]; let s : State := mem id; decide ((hbMember s = true ∧
      f.bcast = false ∧ f.dst = hbAddr s ∧ kfind s.hb.aliveOf f.src ≠ some f.alive) ∧ f.payload.length = 7)) = true ∧
    (let f : HbFrame := fr 5 false 0 3 [0,1,2,3,4,5,6,7]; let s : State := mem id; decide ((hbMember s = true ∧
      f.bcast = false ∧ f.dst = hbAddr s ∧ kfind s.hb.aliveOf f.src ≠ some f.alive) ∧ f.payload.length = 8)) = true ∧
    (let f : HbFrame := fr 0 true 0 3 [0,0,0,5,0,0,1,0,0,100,2]; let s : State := mem id; decide (hbMember s = true ∧
      f.payload.length = 11 ∧ (f.bcast = true ∨ f.dst = hbAddr s) ∧
      kfind s.hb.aliveOf f.src ≠ some f.alive)) = true ∧
    (let s : State := wH id; decide ((hbMember s = false ∨ s.hb.silentMs < 2000))) = true ∧
    (let s : State := mem (fun x => { x with silentMs := 2000 }); decide (hbMember s = true ∧
      2000 ≤ s.hb.silentMs)) = true ∧
    (let x : HbRaw := ⟨true, [1,2,3]⟩; let s : State := wH (fun x => { x with addr := some 5 });
      decide (s.cel.running = true ∧ s.hb.addr ≠ none ∧ hbGood x.bytes = false)) = true := by decide +kernel

/-- A state and operands for each clause of `HatbandEnumeration`. -/
theorem test_meets_HatbandEnumeration :
    (let s : State := wH (fun x => { x with addr := some 0, listening := true }); decide (s.cel.running = true ∧
      s.hb.addr = some 0 ∧ s.hb.listening = true)) = true ∧
    (let s : State := wH id; decide (s.hb.listening = false)) = true ∧
    (let f : HbFrame := fr 0 true 0 3 [31, 2]; let s : State := wH (fun x => { x with addr := some 5 }); (match s.hb.addr with | some _ => decide (f.payload.length = 2 ∧ s.cel.running = true ∧ s.hb.role ≠ .head ∧ kfind s.hb.aliveOf f.src ≠ some f.alive ∧ 31 ≤ pay f 0) | _ => false)) = true ∧
    (let f : HbFrame := fr 0 true 0 3 [4, 2]; let s : State := wH (fun x => { x with addr := some 5 }); (match s.hb.addr with | some _ => decide (f.payload.length = 2 ∧ s.cel.running = true ∧ s.hb.role ≠ .head ∧ kfind s.hb.aliveOf f.src ≠ some f.alive ∧ pay f 0 < 31) | _ => false)) = true ∧
    (let f : HbFrame := fr 0 true 0 3 [4, 2]; let us : Nat := 0; let s : State := hd id;
      decide (f.payload.length = 2 ∧ s.cel.running = true ∧ s.hb.addr = some 0 ∧ s.hb.role = .head ∧ pay f 0 < 31 ∧
      kfind s.hb.aliveOf f.src ≠ some f.alive ∧ (¬(us ≤ 2000 ∧ s.hb.enumSent = true ∧ f.src = 0 ∧
      f.alive = s.hb.enumAlive)))) = true ∧
    (let f : HbFrame := fr 0 true 0 3 [4, 2]; let us : Nat := 0;
      let s : State := ring (hd (fun x => { x with phase := .ringEnum, enumSent := true, enumAlive := 3, alive := 3 }));
      decide (f.payload.length = 2 ∧ s.cel.running = true ∧ s.hb.addr = some 0 ∧ s.hb.role = .head ∧ us ≤ 2000 ∧
      s.hb.enumSent = true ∧ f.src = 0 ∧ f.alive = s.hb.enumAlive ∧ s.hb.phase = .ringEnum)) = true ∧
    (let s : State := ring (hd (fun x => { x with phase := .ringEnum, enumSent := true, enumAlive := 3, alive := 3 }));
      decide (hbHead s = true ∧ s.hb.phase = .ringEnum)) = true ∧
    (let s : State := hd id; decide (hbHead s = true)) = true ∧
    (let s : State := hd id; decide (hbHead s = true ∧ s.rfld Reg.HBD_CTL 16 8 ≠ 0)) = true ∧
    (let s : State := regsOff (hd id) [(Reg.HBD_CTL, 0x00000000)]; decide (hbHead s = true ∧
      s.rfld Reg.HBD_CTL 16 8 = 0)) = true ∧
    (let f : HbFrame := fr 0 false 3 5 [3, 3, 2, 1, 2, 3, 4]; let p : Nat := 3;
      let s : State := hd (fun x => { x with phase := .ident 3 false, members := [mb 1, mb 2] });
      decide (hbHead s = true ∧ f.bcast = false ∧ f.dst = hbAddr s ∧ kfind s.hb.aliveOf f.src ≠ some f.alive ∧
      f.payload.length = 7 ∧ pay f 0 = p ∧ p < 31 ∧ s.hb.phase = .ident p false ∧
      (s.reg Reg.HBD_CTL).toNat.testBit 1 = false)) = true ∧
    (let p : Nat := 1; let s : State := hd (fun x => { x with phase := .ident 1 false }); decide (hbHead s = true ∧
      s.hb.phase = .ident p false ∧ (s.reg Reg.HBD_CTL).toNat.testBit 1 = false)) = true ∧
    (let f : HbFrame := fr 0 false 2 5 [2]; let p : Nat := 2; let down : Bool := false; let got : List Nat := [5];
      let s : State := hd (fun x => { x with phase := .ping 2 false [5], members := [mb 1, mb 2] });
      decide (hbHead s = true ∧ f.bcast = false ∧ f.dst = hbAddr s ∧ kfind s.hb.aliveOf f.src ≠ some f.alive ∧
      f.payload.length = 1 ∧ pay f 0 = p ∧ s.hb.phase = .ping p down got ∧
      got.length < 3)) = true := by decide +kernel

/-- A state and operands for each clause of `HatbandSweeps`. -/
theorem test_meets_HatbandSweeps :
    (let s : State := regsOff (hd id) [(Reg.HBD_CTL, 0x00000000)]; decide (hbHead s = true ∧ s.hb.phase = .idle ∧
      s.hb.enumDue = false ∧ (s.reg Reg.HBD_CTL).toNat.testBit 0 = false)) = true ∧
    (let s : State := hd (fun x => { x with enumDue := true }); decide (hbHead s = true ∧ s.hb.phase = .idle ∧
      s.hb.enumDue = true)) = true ∧
    (let s : State := hd id; decide (hbHead s = true ∧ s.hb.phase = .idle ∧ s.hb.enumDue = false ∧
      (s.reg Reg.HBD_CTL).toNat.testBit 0 = true)) = true ∧
    (let f : HbFrame := fr 0 false 1 5 (List.range 62); let p : Nat := 1; let down : Bool := false;
      let rest : List (Nat × Bool) := [(2, false), (3, true)];
      let s : State := hd (fun x => { x with phase := .reading (some (1, false)) [(2, false), (3, true)], members := [mb 1, mb 2, mb 3] });
      decide (hbHead s = true ∧ f.bcast = false ∧ f.dst = hbAddr s ∧ kfind s.hb.aliveOf f.src ≠ some f.alive ∧
      (f.payload.length = 62 ∨ f.payload.length = 54) ∧ s.hb.phase = .reading (some (p, down)) rest ∧
      f.src = (memberAt s p).addr)) = true ∧
    (let p : Nat := 1; let down : Bool := false; let rest : List (Nat × Bool) := [(2, false), (3, true)];
      let s : State := hd (fun x => { x with phase := .reading (some (1, false)) [(2, false), (3, true)], members := [mb 1, mb 2, mb 3] });
      decide (hbHead s = true ∧ s.hb.phase = .reading (some (p, down)) rest ∧
      (s.reg Reg.HBD_CTL).toNat.testBit 1 = false)) = true ∧
    (let s : State := hd (fun x => { x with phase := .reading none [], members := [mb 1] });
      decide (hbHead s = true ∧ s.hb.phase = .reading none [])) = true ∧
    (let data : Word := 0; let s : State := hd id; decide (hbHead s = true ∧ acts data 0 = false ∧
      acts data 1 = false)) = true ∧
    (let data : Word := 0x00010001; let s : State := hd id; decide (hbHead s = true ∧ acts data 0 = true ∧
      acts data 1 = false ∧ (s.hb.strOpen.testBit 0 = false ∨ hbRequest s 0 = true))) = true ∧
    (let data : Word := 0x00010001; let s : State := hd (fun x => { x with strOpen := 1, leadOpen := true });
      decide (hbHead s = true ∧ acts data 0 = true ∧ acts data 1 = false ∧ s.hb.strOpen.testBit 0 = true ∧
      hbRequest s 0 = false)) = true := by decide +kernel

end Hatband

namespace Calibration

/-- A state or part of one for the witnesses below. -/
def regsOff (s : State) (l : List (Nat × Word)) : State := { s with regs := l ++ s.regs }
/-- A state or part of one for the witnesses below. -/
def wK : State := regsOff { wUp with port := Vector.replicate 4 { st := .up, active := 3 } } [(Reg.CAL_CTL, 3), (Reg.CAL_LANE_CTL, 100), (Reg.CAL_CELL_CTL, 0x0505)]
/-- A state or part of one for the witnesses below. -/
def kc (f : CalState → CalState) : State := { wK with cal := f {} }
/-- A state or part of one for the witnesses below. -/
def ix (n : Nat) (s : State) : State := regsOff s [(Reg.CAL_COEF_INDEX, BitVec.ofNat 32 n)]

/-- A state and operands for each clause of `Calibration`. -/
theorem test_meets_Calibration :
    (let p : Fin 4 := 0; let l : Fin 2 := 0; let w : Nat := 0; let d : Int := 0; let s : State := wK; decide (w ≤ 8 ∧
      d.natAbs ≤ 1 ∧ calBackAllowed s p l = true ∧ (s.reg Reg.CAL_CTL).toNat.testBit 0 = true ∧
      s.rfld Reg.CAL_LANE_CTL 0 16 ≠ 0 ∧ (∀ q ∈ s.cal.laneNext, q.1 / 16 ≠ 2 * p.val + l.val))) = true ∧
    (let p : Fin 4 := 0; let l : Fin 2 := 0; let steps : List (Nat × Int) := []; let s : State := wUp;
      decide ((∀ q ∈ steps, q.1 ≤ 8 ∧ q.2.natAbs ≤ 1) ∧ calBackAllowed s p l = false)) = true ∧
    (let byTemp : Bool := true; let s : State := wUp; decide ((s.reg Reg.CAL_CTL).toNat.testBit 1 = true ∧
      s.pwr.barrierOk = true ∧ s.cel.running = true ∧
      s.rfld Reg.CAL_CELL_CTL (if byTemp then 8 else 0) 8 ≠ 0)) = true ∧
    (let byTemp : Bool := true; let s : State := regsOff wK [(Reg.CAL_CTL, 0)];
      decide ((s.reg Reg.CAL_CTL).toNat.testBit 1 = false ∨ s.rfld Reg.CAL_CELL_CTL (if byTemp then 8 else 0) 8 = 0)) = true ∧
    (let s : State := wUp; decide (s.pwr.barrierOk = true ∧ s.cel.running = true)) = true ∧
    (let data : Word := 0; decide ((acts data 0 = false ∨ keyed data 0x96 = false))) = true ∧
    (let data : Word := 0xFF019601; let s : State := { wK with cmt := { wUp.cmt with everAccepted := true } };
      decide (acts data 0 = true ∧ keyed data 0x96 = true ∧ s.cmt.everAccepted = true ∧ lifecycle s ≠ 0 ∧
      s.cal.recovery = false)) = true ∧
    (let data : Word := 0xFF019601; let s : State := wUp; decide (acts data 0 = true ∧ keyed data 0x96 = true ∧
      (s.cmt.everAccepted = false ∨ lifecycle s = 0 ∨ s.cal.recovery = true))) = true ∧
    (let s : State := wUp; decide (s.cal.access = none)) = true ∧
    (let s : State := ix 0xA6 (kc (fun x => { x with access := some 2 })); let w := s.rfld Reg.CAL_COEF_INDEX 0 8;
      decide (s.cal.access ≠ none ∧ 0xA5 < w)) = true ∧
    (let s : State := ix 0 (kc (fun x => { x with access := some 1 })); let w := s.rfld Reg.CAL_COEF_INDEX 0 8;
      decide (s.cal.access ≠ none ∧ w ≤ 0xA5)) = true ∧
    (let d : Word := 0; let s : State := ix 0 (kc (fun x => { x with access := some 1 }));
      let w := s.rfld Reg.CAL_COEF_INDEX 0 8; let v := sext 16 (d.toNat % 2 ^ 16);
      let top : Int := if w % 16 = 8 then 16 else 63; decide (s.cal.access ≠ none ∧ w < 0x80 ∧ w % 16 ≤ 8 ∧
      (-top < v ∧ v < top))) = true ∧
    (let d : Word := 62; let s : State := ix 8 (kc (fun x => { x with access := some 1 }));
      let w := s.rfld Reg.CAL_COEF_INDEX 0 8; let v := sext 16 (d.toNat % 2 ^ 16);
      let top : Int := if w % 16 = 8 then 16 else 63; decide (s.cal.access ≠ none ∧ w < 0x80 ∧ w % 16 ≤ 8 ∧
      (¬(-top < v ∧ v < top)))) = true ∧
    (let d : Word := 0; let s : State := ix 0x80 (kc (fun x => { x with access := some 2 }));
      let w := s.rfld Reg.CAL_COEF_INDEX 0 8; let v := sext 16 (d.toNat % 2 ^ 16); decide (s.cal.access ≠ none ∧
      0x80 ≤ w ∧ w ≤ 0x8B ∧ -100 < v ∧ v < 100)) = true ∧
    (let s : State := wUp; decide (s.docentRuns = true)) = true ∧
    (let s : State := wR; decide (s.docentRuns = false)) = true := by decide +kernel

end Calibration

namespace Whole

/-- A state and operands for each clause of `IdleTick`. -/
theorem test_meets_IdleTick :
    (let s : State := wR; decide (s.pending = [])) = true := by decide +kernel

/-- A state and operands for each clause of `CommandsComplete`. -/
theorem test_meets_CommandsComplete :
    (let c : Instr := .bypass; decide (c.wf = true)) = true ∧
    (let c : Instr := .driverReload []; decide (c.wf = false)) = true ∧
    (decide (Instr.wf (.viocFault) = true)) = true ∧
    (decide (Instr.wf (.mgmtBadOpcode 256) = false)) = true := by decide +kernel

/-- A state and operands for each clause of `QueueKept`. -/
theorem test_meets_QueueKept :
    (match exec .afeLinkLost wR with | .next t => decide (t.pwr.barrierOk = false) | _ => false) = true := by decide +kernel

/-- A state and operands for each clause of `StepKeepsCanonical`. -/
theorem test_meets_StepKeepsCanonical :
    (let s : State := wR; decide (s.canonical = true)) = true ∧
    (match step wR with | .next _ => decide (wR.canonical = true) | _ => false) = true := by decide +kernel

/-- A state and operands for each clause of `DemandLatched`. -/
theorem test_meets_DemandLatched :
    (let s : State := { wR with cel := { running := true, calAgain := false, demand := true, clearPend := true }, pending := [.protClearEval] };
      decide (s.cel.running = true ∧ s.cel.demand = true)) = true ∧
    (let s : State := { wR with cel := { running := true, calAgain := false, demand := true, clearPend := true }, pending := [.protClearEval] }; match step s with | .next t => decide (s.cel.running = true ∧ s.cel.demand = true ∧ t.cel.demand = false) | _ => false) = true := by decide +kernel

/-- A state and operands for each clause of `ResetValues`. -/
theorem test_meets_ResetValues :
    (let r : Nat := 0; decide (r < 5)) = true := by decide +kernel

end Whole

namespace Coding

/-- A state and operands for each clause of `LineCoding`. -/
theorem test_meets_LineCoding :
    (let p : Nat := 0; let l : Nat := 0; let count : Nat := 0; decide (p < 4 ∧ l < 2 ∧ count < 256)) = true ∧
    (let p : Nat := 0; let l : Nat := 0; let count : Nat := 0; let q : Nat := 1; decide (p < 4 ∧ l < 2 ∧
      count < 256 ∧ q < 4 ∧ q ≠ p)) = true ∧
    (let code : Nat := 0; let field : Nat := 0; decide (code < 256 ∧ field < 2 ^ 40)) = true := by decide +kernel

/-- A state and operands for each clause of `Reception`. -/
theorem test_meets_Reception :
    (let c : Instr := .amReceive 1 [⟨none, none⟩]; let d : Instr := .amReceive 1 [⟨none, none⟩]; (match rxOf c with | some (p, rx) => decide (rxOf d = some (p, rx)) | _ => false)) = true ∧
    (let c : Instr := .amReceive 1 [⟨none, none⟩]; let s : State := wR; (match rxOf c with | some (_, rx) => decide ((s.awake = false ∨ rx = [])) | _ => false)) = true ∧
    (let q : PortState := {}; let l : Nat := 0; decide ((vget q.lane l).block = false)) = true := by decide +kernel

/-- A state and operands for each clause of `PacketCoding`. -/
theorem test_meets_PacketCoding :
    (let bs : List Nat := [1, 2, 3, 4, 5, 6, 7]; let q : PortState := { st := .up }; decide (7 ≤ bs.length ∧
      (∀ b ∈ bs, b < 256) ∧ q.st = .up ∧ q.rxOpen = none)) = true ∧
    (let q : PortState := { st := .up, rxOpen := some [1] }; (match q.rxOpen with | some _ => decide (q.st = .up) | _ => false)) = true ∧
    (let kind : Nat := 0; let body : List Nat := (List.range 16); decide (kind < 16 ∧ 4 ≤ body.length ∧
      body.length ≤ 2032 ∧ body.length % 4 = 0 ∧ (∀ b ∈ body, b < 256))) = true ∧
    (let tag : Nat := 0; let addr : Nat := 0; let count : Nat := 0; decide (tag < 256 ∧ addr < 2 ^ 64 ∧
      count < 2 ^ 32)) = true ∧
    (let addr : Nat := 0; let bytes : List Nat := []; decide (addr < 2 ^ 64 ∧ bytes.length ≤ 512 ∧
      (∀ b ∈ bytes, b < 256))) = true ∧
    (let tag : Nat := 0; let addr : Nat := 0; let size : Nat := 0; let data : List Nat := []; decide (tag < 256 ∧
      addr < 2 ^ 32 ∧ size < 2 ^ 32 ∧ data.length ≤ 512 ∧ (∀ b ∈ data, b < 256))) = true ∧
    (let n : Nat := 0; let code : Nat := 0; let sev : Nat := 0; let index : Nat := 0; decide (n < 2 ^ 32 ∧
      code < 2 ^ 16 ∧ sev < 2 ^ 16 ∧ index < 2 ^ 32)) = true ∧
    (let pool : Nat := 0; decide (pool < 3)) = true := by decide +kernel

/-- A state and operands for each clause of `Pins`. -/
theorem test_meets_Pins :
    (let s : State := wIn; let b : Ball := .rowen; decide (s.pwr.inReset = true ∧ (match b with | .sq _ => false | _ => true) = true)) = true ∧
    (let s : State := wIn; decide (s.pwr.inReset = true ∧ s.pwr.soft = false)) = true ∧
    (let s : State := { wIn with pwr := { wIn.pwr with soft := true } }; decide (s.pwr.inReset = true ∧
      s.pwr.soft = true)) = true ∧
    (let s : State := wR; decide ((outputsHeld s = true ∨ 3 ≤ s.pwr.viocClass))) = true ∧
    (let s : State := { wUp with thm := { hardCut := true } }; decide (s.thm.hardCut = true ∧
      s.dbg.ir ≠ .extest)) = true ∧
    (let s : State := { wUp with dbg := { ir := .extest } }; let b : Ball := .sq 0; decide (s.pwr.inReset = false ∧
      s.dbg.ir = .extest ∧ boundaryDrives b = true)) = true := by decide +kernel

end Coding

end Sys2Proof.Tests
end

section
/-! PROOFS. What a safety tick leaves alone of the light function (R436): the decisions of a tick act first
(`State.safApply`), and nothing that the tick samples and decides after them touches the ramp or drives an output
high. From it, the release ramp of R442. -/

namespace Sys2Proof.Machine

/-! ## The frame of the ramp -/

/-- The light state, the gate, the ramp and the delay are the same. -/
structure SameRamp (s t : State) : Prop where
  light : t.saf.light = s.saf.light := by rfl
  gate : t.saf.gate = s.saf.gate := by rfl
  l0 : t.saf.l0 = s.saf.l0 := by rfl
  j : t.saf.j = s.saf.j := by rfl
  delayLeft : t.saf.delayLeft = s.saf.delayLeft := by rfl

theorem SameRamp.trans {s t u : State} (h : SameRamp s t) (k : SameRamp t u) : SameRamp s u where
  light := k.light.trans h.light
  gate := k.gate.trans h.gate
  l0 := k.l0.trans h.l0
  j := k.j.trans h.j
  delayLeft := k.delayLeft.trans h.delayLeft

/-- The ramp stays, and no channel that is low rises. -/
structure KeepsRamp (s t : State) : Prop extends SameRamp s t where
  low : ∀ ch, vget s.saf.out ch = false → vget t.saf.out ch = false := by exact fun _ h => h

namespace KeepsRamp

theorem refl (s : State) : KeepsRamp s s := {}

theorem trans {s t u : State} (h : KeepsRamp s t) (k : KeepsRamp t u) : KeepsRamp s u where
  toSameRamp := h.toSameRamp.trans k.toSameRamp
  low ch hc := k.low ch (h.low ch hc)

/-- A change made under a condition keeps the ramp when both branches do. -/
theorem ite {s t u : State} {p : Prop} [Decidable p] (h : KeepsRamp s t) (k : KeepsRamp s u) :
    KeepsRamp s (if p then t else u) := by
  split
  · exact h
  · exact k

end KeepsRamp

/-- Lowering one channel raises none. -/
theorem vget_vset_false {n : Nat} [NeZero n] (v : Vector Bool n) (i ch : Nat) (h : vget v ch = false) :
    vget (vset v i false) ch = false := by
  by_cases hc : ch % n = i % n
  · simp [vget, vset, hc]
  · rw [vget_vset_ne v i ch false hc, h]

section
variable (s : State)

theorem keepsRamp_safChannelLow (ch : Nat) : KeepsRamp s (s.safChannelLow ch) where
  low _ h := vget_vset_false _ _ _ h

theorem keepsRamp_safLatch (bit err : Nat) (k : EvKind) (inst : Nat) :
    KeepsRamp s (s.safLatch bit err k inst) :=
  .ite (.refl s) {}

theorem keepsRamp_safInternal (bit : Nat) : KeepsRamp s (s.safInternal bit) := .ite {} {}

theorem keepsRamp_safAbandon (o : Nat) : KeepsRamp s (s.safAbandon o) := by
  unfold State.safAbandon
  split
  case h_1 ch _ =>
    exact .ite { (keepsRamp_safChannelLow { s with saf := { s.saf with
      pulse := none, abandoned := setBit s.saf.abandoned o } } ch) with } (.refl s)
  case h_2 => exact .refl s

/-! ## What a tick samples and decides -/

theorem keepsRamp_safTransition (ch : Nat) (demand : Bool) : KeepsRamp s (s.safTransition ch demand) := by
  unfold State.safTransition
  have latch (t : State) (p : Prop) [Decidable p] (bit inst : Nat) (k : EvKind) (h : KeepsRamp s t) :
      KeepsRamp s (if p then t.safLatch bit 4 k inst else t) :=
    .ite (h.trans (keepsRamp_safLatch ..)) h
  exact latch _ _ _ _ _ (latch _ _ _ _ _ {})

theorem keepsRamp_safChannels : KeepsRamp s s.safChannels :=
  foldl_keeps s (KeepsRamp s) _ _
    (fun t _ h => .ite (h.trans (keepsRamp_safTransition t _ _)) h) (.refl s)

theorem keepsRamp_safRunDue (o : Nat) : KeepsRamp s (s.safRunDue o) := .ite {} {}

theorem keepsRamp_safCloseFault (o : Nat) : KeepsRamp s (s.safCloseFault o) :=
  (keepsRamp_safLatch s _ _ _ _).trans (.ite {} {})

theorem keepsRamp_safFeedback (o : Nat) : KeepsRamp s (s.safFeedback o) := by
  have agreed (p : Prop) [Decidable p] (fb : Vector Bool 2) :
      KeepsRamp s (if p then { s with saf := { s.saf with fb := fb } } else s) := .ite {} (.refl s)
  have runDue (t : State) (p : Prop) [Decidable p] : KeepsRamp t (if p then t.safRunDue o else t) :=
    .ite (keepsRamp_safRunDue t o) (.refl t)
  have confirmed (t : State) (fbOk : Vector Bool 2) :
      KeepsRamp t { t with saf := { t.saf with fbOk := fbOk } } := {}
  unfold State.safFeedback
  refine (agreed _ _).trans (.ite (runDue _ _) (.ite (.refl _) (.ite (.ite ?_ (.ite ?_ (.refl _)))
    (.ite ?_ (.ite ?_ (.refl _))))))
  · exact (confirmed _ _).trans (runDue _ _)
  · exact keepsRamp_safCloseFault _ o
  · exact confirmed _ _
  · exact keepsRamp_safLatch ..

theorem keepsRamp_safMismatch (src : Source) : KeepsRamp s (s.safMismatch src) :=
  .ite (.refl s) { keepsRamp_safInternal s 9 with }

theorem keepsRamp_safCompare (msgOk : Bool) : KeepsRamp s (s.safCompare msgOk) :=
  .ite (KeepsRamp.trans {} (keepsRamp_safMismatch ..)) {}

theorem keepsRamp_safEvalOne (o : Nat) : KeepsRamp s (s.safEvalOne o) := by
  have refused (p : Prop) [Decidable p] (x y : Nat) :
      KeepsRamp s (if p then { s with saf := { s.saf with refuseLight := x } }
        else { s with saf := { s.saf with refuseSeg := y } }) := .ite {} {}
  unfold State.safEvalOne
  exact .ite (.refl s) (.ite (.ite {} {}) { refused _ _ _ with })

theorem keepsRamp_safEval : KeepsRamp s s.safEval := by
  have requestDone : KeepsRamp s { s with saf := { s.saf with request := false } } := {}
  have evaluated := (requestDone.trans (keepsRamp_safEvalOne _ 0)).trans (keepsRamp_safEvalOne _ 1)
  exact .ite (.ite (evaluated.trans {}) evaluated) (.refl s)

theorem keepsRamp_safLightDemand : KeepsRamp s s.safLightDemand := by
  unfold State.safLightDemand
  split
  case h_1 | h_2 => exact .ite (.refl s) { keepsRamp_safAbandon s 0 with }
  case h_3 => exact .refl s

theorem keepsRamp_safSegDemand : KeepsRamp s s.safSegDemand :=
  .ite (.refl s) { keepsRamp_safAbandon s 1 with }

theorem keepsRamp_safSample (a b : SafSamples) : KeepsRamp s (s.safSample a b) := by
  unfold State.safSample
  refine KeepsRamp.trans ?_ (.ite (keepsRamp_safSegDemand _) (.refl _))
  refine KeepsRamp.trans ?_ (.ite (keepsRamp_safLightDemand _) (.refl _))
  refine KeepsRamp.trans ?_ (keepsRamp_safEval _)
  refine KeepsRamp.trans ?_ (keepsRamp_safCompare _ _)
  refine KeepsRamp.trans ?_ (keepsRamp_safFeedback _ 1)
  refine KeepsRamp.trans ?_ (keepsRamp_safFeedback _ 0)
  exact KeepsRamp.trans {} (keepsRamp_safChannels _)

theorem keepsRamp_safFollowCfg : KeepsRamp s s.safFollowCfg := {}

end

/-! ## The decisions of the last tick -/

/-- What the light function will do at this tick stays: its state, the ramp, the configuration in force and the
decisions waiting; only a waiting entry into RUN may be spent. -/
structure KeepsLightDecision (s t : State) : Prop extends SameRamp s t where
  cfgLight : t.saf.cfgLight = s.saf.cfgLight := by rfl
  lightDue : t.saf.lightDue = s.saf.lightDue := by rfl
  skipRamp : t.saf.skipRamp = s.saf.skipRamp := by rfl
  stopLight : t.saf.stopLight = s.saf.stopLight := by rfl
  safeDue : t.saf.safeDue = s.saf.safeDue := by rfl
  runLight : s.saf.runLight = false → t.saf.runLight = false := by exact id

namespace KeepsLightDecision

theorem refl (s : State) : KeepsLightDecision s s := {}

theorem trans {s t u : State} (h : KeepsLightDecision s t) (k : KeepsLightDecision t u) :
    KeepsLightDecision s u where
  toSameRamp := h.toSameRamp.trans k.toSameRamp
  cfgLight := k.cfgLight.trans h.cfgLight
  lightDue := k.lightDue.trans h.lightDue
  skipRamp := k.skipRamp.trans h.skipRamp
  stopLight := k.stopLight.trans h.stopLight
  safeDue := k.safeDue.trans h.safeDue
  runLight := k.runLight ∘ h.runLight

theorem ite {s t u : State} {p : Prop} [Decidable p] (h : KeepsLightDecision s t) (k : KeepsLightDecision s u) :
    KeepsLightDecision s (if p then t else u) := by
  split
  · exact h
  · exact k

/-- An event says nothing to the light function. -/
theorem safRaise {s t : State} (h : KeepsLightDecision s t) (k : EvKind) (inst : Nat) :
    KeepsLightDecision s (t.safRaise k inst) := { h with }

end KeepsLightDecision

/-- A waiting release of the segment function acts. -/
def State.safSegRelease (s : State) : State := if s.saf.releaseSeg then s.safReleaseAct 1 else s

/-- The waiting entries into RUN act (R448). -/
def State.safEnterRun (s : State) : State :=
  let s : State := if s.saf.runLight then { s with saf := { s.saf with
    runLight := false, light := if s.saf.light = .closing then .run else s.saf.light
    gate := if s.saf.light = .closing then 65535 else s.saf.gate } } else s
  if s.saf.runSeg then { s with saf := { s.saf with
    runSeg := false, seg := if s.saf.seg = .closing then .run else s.saf.seg } } else s

/-- The waiting stop and the waiting demand of the segment function act (R432, R444). -/
def State.safSegFall (s : State) : State :=
  let s := if s.saf.stopSeg then
    ({ s with saf := { s.saf with stopSeg := false, seg := .stopped } }).safDrive 1 false else s
  if s.saf.segDue then s.safSegAct else s

theorem keepsLightDecision_safSegRelease (s : State) : KeepsLightDecision s s.safSegRelease :=
  .ite (KeepsLightDecision.safRaise (.ite {} {}) _ _) (.refl s)

/-- Only CLOSING is left for RUN. -/
theorem keepsLightDecision_safEnterRun (s : State) (h : s.saf.light = .closing → s.saf.runLight = false) :
    KeepsLightDecision s s.safEnterRun := by
  refine KeepsLightDecision.trans ?_ (.ite {} (.refl _))
  split
  case isTrue hrun =>
    have notClosing : s.saf.light ≠ .closing := fun hc => by simp [h hc] at hrun
    exact { light := if_neg notClosing, gate := if_neg notClosing, runLight := fun _ => rfl }
  case isFalse => exact .refl s

theorem keepsLightDecision_safSegFall (s : State) : KeepsLightDecision s s.safSegFall :=
  KeepsLightDecision.trans (.ite {} (.refl s)) (.ite {} (.refl _))

/-! ## A light demand that acts -/

/-- The ramp from `start` over `n` ticks at its step `i` (R442): where its gate is 0, DELAY begins. -/
structure OnRamp (t : State) (start n i delay : Nat) : Prop where
  l0 : t.saf.l0 = start
  j : t.saf.j = i
  gate : t.saf.gate = rampGate start n i
  light : t.saf.light = if rampGate start n i = 0 then .delay else .ramp
  delayLeft : t.saf.delayLeft = delay

/-- What keeps the ramp keeps its step. -/
theorem SameRamp.onRamp {s t : State} {start n i delay : Nat} (h : SameRamp s t) (k : OnRamp s start n i delay) :
    OnRamp t start n i delay :=
  ⟨h.l0.trans k.l0, h.j.trans k.j, h.gate.trans k.gate, h.light.trans k.light, h.delayLeft.trans k.delayLeft⟩

/-- While the ramp has light left the function is in RAMP, at 0 it is in DELAY. -/
theorem OnRamp.ramp_or_delay {t : State} {start n i delay : Nat} (h : OnRamp t start n i delay) :
    (t.saf.gate ≠ 0 → t.saf.light = .ramp) ∧ (t.saf.gate = 0 → t.saf.light = .delay ∧ t.saf.delayLeft = delay) := by
  rw [h.gate, h.light]
  exact ⟨fun hg => if_neg hg, fun hg => ⟨if_pos hg, h.delayLeft⟩⟩

section
variable (s : State)

/-- In RUN, without a pulse of SQ1 cut off (R446), the demand starts the ramp. -/
theorem onRamp_safLightAct_of_run (h : s.saf.light = .run) (hskip : s.saf.skipRamp = false) :
    OnRamp s.safLightAct s.saf.gate (cfgRamp s.saf.cfgLight) 0 (cfgDelay s.saf.cfgLight) := by
  constructor <;> simp [State.safLightAct, h, hskip]

/-- The light function is stopped: its gate is 0 and both channels of SQ1 are low. -/
structure LightDark (t : State) : Prop where
  light : t.saf.light = .stopped
  gate : t.saf.gate = 0
  sq1a : vget t.saf.out 0 = false
  sq1b : vget t.saf.out 1 = false

/-- Both channels of SQ1 are low once it is driven low. -/
theorem sq1_safDrive_low :
    vget (s.safDrive 0 false).saf.out 0 = false ∧ vget (s.safDrive 0 false).saf.out 1 = false :=
  ⟨vget_vset_false _ 1 0 (vget_vset_self _ 0 false), vget_vset_self _ 1 false⟩

/-- In CLOSING the demand drives SQ1 low at once. -/
theorem lightDark_safLightAct_of_closing (h : s.saf.light = .closing) : LightDark s.safLightAct := by
  have drive (t : State) (hl : t.saf.light = .stopped) (hg : t.saf.gate = 0) : LightDark (t.safDrive 0 false) :=
    ⟨hl, hg, (sq1_safDrive_low t).1, (sq1_safDrive_low t).2⟩
  simp only [State.safLightAct, h]
  exact drive _ rfl rfl

theorem KeepsRamp.lightDark {s t : State} (h : KeepsRamp s t) (k : LightDark s) : LightDark t :=
  ⟨h.light.trans k.light, h.gate.trans k.gate, h.low 0 k.sq1a, h.low 1 k.sq1b⟩

/-- Outside RUN and CLOSING a demand that acts is only spent. -/
theorem keepsRamp_safLightAct (hrun : s.saf.light ≠ .run) (hcl : s.saf.light ≠ .closing) :
    KeepsRamp s s.safLightAct := by
  unfold State.safLightAct
  dsimp only
  split
  · exact absurd ‹_› hrun
  · exact absurd ‹_› hcl
  · exact {}

theorem safLightAct_safeDue : s.safLightAct.saf.safeDue = s.saf.safeDue := by
  unfold State.safLightAct
  dsimp only
  split
  · split <;> rfl
  · rfl
  · rfl

end

/-! ## The tick -/

/-- The stages in which the decisions of the last tick act. -/
theorem safApply_stages (s : State) : s.safApply =
    (let r := s.safRampStep
     let e := (if r.saf.releaseLight then r.safReleaseAct 0 else r).safSegRelease.safEnterRun
     let u := (if e.saf.stopLight then
       ({ e with saf := { e.saf with stopLight := false, light := .stopped, gate := 0 } }).safDrive 0 false
       else e).safSegFall
     let v := if u.saf.lightDue then u.safLightAct else u
     if v.saf.safeDue then v.safEnter else v) := rfl

section
variable (s : State)

@[simp] theorem safRampStep_releaseLight : s.safRampStep.saf.releaseLight = s.saf.releaseLight := by
  unfold State.safRampStep
  split <;> rfl

@[simp] theorem safRampStep_stopLight : s.safRampStep.saf.stopLight = s.saf.stopLight := by
  unfold State.safRampStep
  split <;> rfl

@[simp] theorem safRampStep_safeDue : s.safRampStep.saf.safeDue = s.saf.safeDue := by
  unfold State.safRampStep
  split <;> rfl

@[simp] theorem safRampStep_lightDue : s.safRampStep.saf.lightDue = s.saf.lightDue := by
  unfold State.safRampStep
  split <;> rfl

/-- Outside RAMP and DELAY there is no step to take. -/
theorem safRampStep_of_run_or_closing (h : s.saf.light = .run ∨ s.saf.light = .closing) : s.safRampStep = s := by
  rcases h with h | h <;> simp [State.safRampStep, h]

/-- In RAMP the step is the ramp's next one. -/
theorem onRamp_safRampStep (h : s.saf.light = .ramp) :
    OnRamp s.safRampStep s.saf.l0 (cfgRamp s.saf.cfgLight) (s.saf.j + 1) (cfgDelay s.saf.cfgLight) := by
  constructor <;> simp [State.safRampStep, h]

/-- In DELAY the step takes one of its ticks. -/
theorem safRampStep_of_delay (h : s.saf.light = .delay) :
    s.safRampStep.saf.light = .delay ∧ s.safRampStep.saf.delayLeft = s.saf.delayLeft - 1 := by
  simp [State.safRampStep, h]

end

/-- Where the light function is neither released nor stopped and the safe state is not due, what acts on it at a tick
is the step of its ramp and then its demand, with the segment function's decisions between them. -/
theorem safApply_spec {s : State} (hrel : s.saf.releaseLight = false) (hstop : s.saf.stopLight = false)
    (hsafe : s.saf.safeDue = false)
    (hrun : s.safRampStep.saf.light = .closing → s.safRampStep.saf.runLight = false) :
    ∃ u, KeepsLightDecision s.safRampStep u ∧ s.safApply = if s.saf.lightDue then u.safLightAct else u := by
  have hrise := keepsLightDecision_safSegRelease s.safRampStep
  have henter := hrise.trans (keepsLightDecision_safEnterRun s.safRampStep.safSegRelease
    (fun hc => hrise.runLight (hrun (hrise.light.symm.trans hc))))
  have hfall := henter.trans (keepsLightDecision_safSegFall s.safRampStep.safSegRelease.safEnterRun)
  refine ⟨_, hfall, ?_⟩
  simp only [safApply_stages, safRampStep_releaseLight, hrel, Bool.false_eq_true, if_false, henter.stopLight,
    safRampStep_stopLight, hstop, hfall.lightDue, safRampStep_lightDue]
  refine if_neg ?_
  split <;> simp [safLightAct_safeDue, hfall.safeDue, hsafe]

/-- The state in which a tick begins: it is counted. -/
def State.safCount (s : State) : State := { s with saf := { s.saf with tick := s.saf.tick + 1 } }

/-- A tick of running cores: the decisions of the last one, the configuration in force, and the samples. -/
theorem exec_safetyTick (s : State) (a b : SafSamples) (hs : safRuns s = true) (ha : a.wf = true) (hb : b.wf = true) :
    exec (.safetyTick a b) s = .next (s.safCount.safApply.safFollowCfg.safSample a b) := by
  have fits : ¬(15 < a.inputs ∨ 15 < b.inputs ∨ 3 < a.feedback ∨ 3 < b.feedback ∨ 15 < a.readback ∨
      15 < b.readback) := by
    simp only [SafSamples.wf, Bool.and_eq_true, decide_eq_true_eq] at ha hb
    omega
  change execSafetyTick a b s = _
  rw [execSafetyTick, if_neg fits, State.onlyIf, if_pos hs]
  rfl

/-! ## The ramp and the delay (R442) -/

section
variable {s : State} {a b : SafSamples} (hs : safRuns s = true) (ha : a.wf = true) (hb : b.wf = true)
  (hrel : s.saf.releaseLight = false) (hstop : s.saf.stopLight = false) (hsafe : s.saf.safeDue = false)
include hs ha hb hrel hstop hsafe

/-- What a tick does to the ramp: its own step, then a light demand that is due, and nothing more. -/
theorem safetyTick_spec
    (hrun : s.safCount.safRampStep.saf.light = .closing → s.safCount.safRampStep.saf.runLight = false) :
    ∃ t u, exec (.safetyTick a b) s = .next t ∧ KeepsLightDecision s.safCount.safRampStep u ∧
      KeepsRamp (if s.saf.lightDue then u.safLightAct else u) t := by
  obtain ⟨u, hu, happly⟩ := safApply_spec (s := s.safCount) hrel hstop hsafe hrun
  refine ⟨_, u, exec_safetyTick s a b hs ha hb, hu, ?_⟩
  rw [happly]
  exact (keepsRamp_safFollowCfg _).trans (keepsRamp_safSample _ a b)

/-- A demand due in RUN or CLOSING acts on the light function as the last tick left it. -/
theorem safetyTick_of_due (hdue : s.saf.lightDue = true) (hl : s.saf.light = .run ∨ s.saf.light = .closing)
    (hrun : s.saf.light = .closing → s.saf.runLight = false) :
    ∃ t u, exec (.safetyTick a b) s = .next t ∧ KeepsLightDecision s u ∧ KeepsRamp u.safLightAct t := by
  have hstep : s.safCount.safRampStep = s.safCount := safRampStep_of_run_or_closing _ hl
  obtain ⟨t, u, hexec, hu, ht⟩ := safetyTick_spec hs ha hb hrel hstop hsafe (by rw [hstep]; exact hrun)
  rw [hstep] at hu
  rw [if_pos hdue] at ht
  exact ⟨t, u, hexec, KeepsLightDecision.trans {} hu, ht⟩

/-- A demand due in RUN begins the ramp at j = 0. -/
theorem safetyTick_onRamp_of_run (hdue : s.saf.lightDue = true) (hskip : s.saf.skipRamp = false)
    (hl : s.saf.light = .run) :
    ∃ t, exec (.safetyTick a b) s = .next t ∧
      OnRamp t s.saf.gate (cfgRamp s.saf.cfgLight) 0 (cfgDelay s.saf.cfgLight) := by
  obtain ⟨t, u, hexec, hu, ht⟩ := safetyTick_of_due hs ha hb hrel hstop hsafe hdue (.inl hl) (by simp [hl])
  have hramp := onRamp_safLightAct_of_run u (hu.light.trans hl) (hu.skipRamp.trans hskip)
  rw [hu.gate, hu.cfgLight] at hramp
  exact ⟨t, hexec, ht.onRamp hramp⟩

/-- A demand due in CLOSING drives SQ1 low at this tick. -/
theorem safetyTick_lightDark_of_closing (hdue : s.saf.lightDue = true) (hl : s.saf.light = .closing)
    (hrun : s.saf.runLight = false) :
    ∃ t, exec (.safetyTick a b) s = .next t ∧ LightDark t := by
  obtain ⟨t, u, hexec, hu, ht⟩ := safetyTick_of_due hs ha hb hrel hstop hsafe hdue (.inr hl) (fun _ => hrun)
  exact ⟨t, hexec, ht.lightDark (lightDark_safLightAct_of_closing u (hu.light.trans hl))⟩

/-- Where its step leaves the light function in RAMP or DELAY, the tick leaves the ramp so: a demand that is due finds
nothing to do. -/
theorem safetyTick_sameRamp
    (hl : s.safCount.safRampStep.saf.light = .ramp ∨ s.safCount.safRampStep.saf.light = .delay) :
    ∃ t, exec (.safetyTick a b) s = .next t ∧ SameRamp s.safCount.safRampStep t := by
  have hrun : s.safCount.safRampStep.saf.light ≠ .run := by rcases hl with hl | hl <;> simp [hl]
  have hcl : s.safCount.safRampStep.saf.light ≠ .closing := by rcases hl with hl | hl <;> simp [hl]
  obtain ⟨t, u, hexec, hu, ht⟩ := safetyTick_spec hs ha hb hrel hstop hsafe (absurd · hcl)
  have hact : KeepsRamp u (if s.saf.lightDue then u.safLightAct else u) :=
    .ite (keepsRamp_safLightAct u (hu.light ▸ hrun) (hu.light ▸ hcl)) (.refl u)
  exact ⟨t, hexec, hu.toSameRamp.trans (hact.trans ht).toSameRamp⟩

/-- A tick in RAMP takes the next step of the ramp. -/
theorem safetyTick_onRamp_of_ramp (hl : s.saf.light = .ramp) :
    ∃ t, exec (.safetyTick a b) s = .next t ∧
      OnRamp t s.saf.l0 (cfgRamp s.saf.cfgLight) (s.saf.j + 1) (cfgDelay s.saf.cfgLight) := by
  have hstep := onRamp_safRampStep s.safCount hl
  have hlight := (ne_or_eq s.safCount.safRampStep.saf.gate 0).imp hstep.ramp_or_delay.1
    (fun h0 => (hstep.ramp_or_delay.2 h0).1)
  obtain ⟨t, hexec, ht⟩ := safetyTick_sameRamp hs ha hb hrel hstop hsafe hlight
  exact ⟨t, hexec, ht.onRamp hstep⟩

/-- A tick in DELAY takes one of its ticks. -/
theorem safetyTick_of_delay (hl : s.saf.light = .delay) :
    ∃ t, exec (.safetyTick a b) s = .next t ∧ t.saf.light = .delay ∧ t.saf.delayLeft = s.saf.delayLeft - 1 := by
  obtain ⟨hlight, hleft⟩ := safRampStep_of_delay s.safCount hl
  obtain ⟨t, hexec, ht⟩ := safetyTick_sameRamp hs ha hb hrel hstop hsafe (.inr hlight)
  exact ⟨t, hexec, ht.light.trans hlight, ht.delayLeft.trans hleft⟩

end

/-- `RELEASE_DELAY_END` with no tick of DELAY left stops the light function and drives SQ1 low. -/
theorem exec_releaseDelayEnd_of_zero (s : State) (hs : safRuns s = true) (hl : s.saf.light = .delay)
    (h0 : s.saf.delayLeft = 0) :
    exec .releaseDelayEnd s =
      .next (({ s with saf := { s.saf with light := .stopped } } : State).safDrive 0 false) := by
  change execReleaseDelayEnd s = _
  simp [execReleaseDelayEnd, State.onlyIf, hs, hl, h0]

/-- It changes nothing while a tick of DELAY is left. -/
theorem exec_releaseDelayEnd_of_ne_zero (s : State) (h0 : s.saf.delayLeft ≠ 0) :
    exec .releaseDelayEnd s = .next s := by
  change execReleaseDelayEnd s = _
  simp [execReleaseDelayEnd, State.onlyIf, h0]

/-- Settles O10: the steps of the ramp, the ticks of DELAY and the fall of SQ1, each by its lemma. -/
theorem releaseRamp : Obligations.ReleaseRamp := by
  refine ⟨fun s a b hs ha hb hdue hskip hrel hstop hsafe => ⟨fun hl => ?_, fun hl hrun => ?_⟩,
    fun s a b hs ha hb hl hrel hstop hsafe => ?_, fun s a b hs ha hb hl hrel hstop hsafe => ?_,
    fun s hs hl h0 => ?_, fun s _ h0 => exec_releaseDelayEnd_of_ne_zero s h0⟩
  · obtain ⟨t, hexec, h⟩ := safetyTick_onRamp_of_run hs ha hb hrel hstop hsafe hdue hskip hl
    exact ⟨t, hexec, h.j, h.l0, h.gate, h.ramp_or_delay⟩
  · obtain ⟨t, hexec, h⟩ := safetyTick_lightDark_of_closing hs ha hb hrel hstop hsafe hdue hl hrun
    exact ⟨t, hexec, h.light, h.sq1a, h.sq1b, h.gate⟩
  · obtain ⟨t, hexec, h⟩ := safetyTick_onRamp_of_ramp hs ha hb hrel hstop hsafe hl
    exact ⟨t, hexec, h.j, h.l0, h.gate, h.ramp_or_delay⟩
  · exact safetyTick_of_delay hs ha hb hrel hstop hsafe hl
  · obtain ⟨sq1a, sq1b⟩ := sq1_safDrive_low { s with saf := { s.saf with light := .stopped } }
    exact ⟨_, exec_releaseDelayEnd_of_zero s hs hl h0, rfl, sq1a, sq1b, rfl⟩

end Sys2Proof.Machine
end

section
/-! PROOFS. The check-value units (R469 to R477): what each of their operations does to a unit and leaves alone. From
it, the alive check of R475, and the comparison of R474: it holds wherever BYTES fits its field of `CVU_STAT`, and the
statement that asks for it of every state fails. -/

namespace Sys2Proof.Machine

/-! ## Fields of a word -/

/-- A bit of a field. -/
theorem testBit_fld (w : Word) (lo n i : Nat) :
    (fld w lo n).testBit i = (decide (i < n) && w.toNat.testBit (lo + i)) := by
  simp [fld, natBits, Nat.testBit_mod_two_pow, Nat.testBit_shiftRight]

/-- A field of one bit holds 1 where the bit is set. -/
theorem fld_one_beq (w : Word) (i : Nat) : (fld w i 1 == 1) = w.getLsbD i := by
  rw [fld, natBits, Nat.shiftRight_eq_div_pow, pow_one, ← Nat.toNat_testBit, BitVec.testBit_toNat]
  cases w.getLsbD i <;> rfl

/-- A bit of fields laid over a number is one of the number's or of a field's. -/
theorem testBit_foldl_fields (fs : List (Nat × Nat)) (x i : Nat) :
    (fs.foldl (fun a f => a ||| (f.2 <<< f.1)) x).testBit i =
      (x.testBit i || fs.any (fun f => decide (f.1 ≤ i) && f.2.testBit (i - f.1))) := by
  induction fs generalizing x with
  | nil => simp
  | cons f fs ih => simp [ih, Nat.testBit_or, Nat.testBit_shiftLeft, Bool.or_assoc]

/-- A bit of a word built from fields is a bit of one of them. -/
theorem testBit_mkWord (fs : List (Nat × Nat)) (i : Nat) :
    (mkWord fs).toNat.testBit i =
      (decide (i < 32) && fs.any (fun f => decide (f.1 ≤ i) && f.2.testBit (i - f.1))) := by
  rw [mkWord, BitVec.toNat_ofNat, Nat.testBit_mod_two_pow, testBit_foldl_fields, Nat.zero_testBit, Bool.false_or]

/-- Of a word of two fields, the lower one within the bits below the higher, the higher reads back. -/
theorem fld_mkWord_pair (lo n x y : Nat) (h : lo + n ≤ 32) (hx : x < 2 ^ n) (hy : y < 2 ^ lo) :
    fld (mkWord [(lo, x), (0, y)]) lo n = x := by
  apply Nat.eq_of_testBit_eq
  intro i
  have below : y.testBit (lo + i) = false :=
    Nat.testBit_lt_two_pow (hy.trans_le (Nat.pow_le_pow_right (by decide) (Nat.le_add_right lo i)))
  by_cases hi : i < n
  · simp [testBit_fld, testBit_mkWord, below, hi, show lo + i < 32 by omega]
  · have above : x.testBit i = false :=
      Nat.testBit_lt_two_pow (hx.trans_le (Nat.pow_le_pow_right (by decide) (by omega)))
    simp [testBit_fld, hi, above]

/-! ## The registers of a unit -/

section
variable (s : State) (u : Nat)

/-- Two registers of one unit are told apart by their bases. -/
theorem cvuReg_inj (a b : Nat) : cvuReg a u = cvuReg b u ↔ a = b := by simp [cvuReg, inst]

theorem cvuWidth_le : cvuWidth s u ≤ 32 := by
  unfold cvuWidth cvuWidthOf
  split
  · decide
  · split <;> decide

/-- The unit changed, and the others. -/
theorem cvu_modCvu (f : CvuState → CvuState) (u v : Fin 8) :
    vget (s.modCvu u f).cvu v = if v = u then f (vget s.cvu u) else vget s.cvu v := by
  simp only [← Fin.val_inj]
  exact vget_vmod s.cvu u.isLt v.isLt f

/-- AEN as a write of `CVU_CTL` stores it. -/
theorem fld_cvuCtlStored_aen (data : Word) : (fld (cvuCtlStored data) 7 1 == 1) = data.getLsbD 7 := by
  have width : (min 2 (fld data 1 2)).testBit 6 = false := Nat.testBit_lt_two_pow (by omega)
  rw [fld_one_beq, ← BitVec.testBit_toNat, ← BitVec.testBit_toNat, cvuCtlStored, testBit_mkWord]
  simp [testBit_fld, width]

end

/-- A flag set for every reader stays set when its event is raised. -/
theorem flagged_raiseEv_setC (s : State) (a m bit : Nat) (src : Source) (e : Event) (hb : bit < 32)
    (hm : m.testBit bit = true) : ((s.setC a m).raiseEv src e).flagged a bit :=
  (flagged_congr (raiseEv_cbits (s.setC a m) src e) a bit).2 (flagged_setC s a m bit hb hm)

/-! ## The alive counter (R475) -/

section
variable {s : State} {u : Nat} {data : Word}

theorem cvuAlive_of_disabled (h : cvuCtl s u 7 1 = 0) : s.cvuAlive u data = s := by
  simp [State.cvuAlive, h]

/-- A first value is accepted, whatever it is. -/
theorem cvuAlive_of_first (h : cvuCtl s u 7 1 = 1) (hf : (vget s.cvu u).first = true) :
    s.cvuAlive u data = s.modCvu u (fun c =>
      { c with first := false, last := fld data 0 (cvuAliveBits s u), stale := false }) := by
  simp [State.cvuAlive, h, hf]

/-- L + 1 is accepted. -/
theorem cvuAlive_of_next (h : cvuCtl s u 7 1 = 1) (hf : (vget s.cvu u).first = false)
    (hv : fld data 0 (cvuAliveBits s u) = ((vget s.cvu u).last + 1) % 2 ^ cvuAliveBits s u) :
    s.cvuAlive u data = s.modCvu u (fun c => { c with last := fld data 0 (cvuAliveBits s u), stale := false }) := by
  simp [State.cvuAlive, h, hf, ← hv]

/-- A counter of 4 or 8 bits never stays where it is by a step. -/
theorem ne_next_alive (l : Nat) : l ≠ (l + 1) % 2 ^ cvuAliveBits s u := by
  unfold cvuAliveBits
  split <;> omega

/-- L is reported as a repeat and not accepted. -/
theorem cvuAlive_of_repeat (h : cvuCtl s u 7 1 = 1) (hf : (vget s.cvu u).first = false)
    (hv : fld data 0 (cvuAliveBits s u) = (vget s.cvu u).last) :
    s.cvuAlive u data =
      (s.setC (cvuReg Reg.CVU_ERR u) 2).cvuRaise u 0x1082 (vget s.cvu u).last (vget s.cvu u).last := by
  simp [State.cvuAlive, h, hf, hv, ne_next_alive]

/-- Any other value is reported with what it skipped, and accepted. -/
theorem cvuAlive_of_skip (h : cvuCtl s u 7 1 = 1) (hf : (vget s.cvu u).first = false)
    (hv : fld data 0 (cvuAliveBits s u) ≠ (vget s.cvu u).last)
    (hnext : fld data 0 (cvuAliveBits s u) ≠ ((vget s.cvu u).last + 1) % 2 ^ cvuAliveBits s u) :
    s.cvuAlive u data =
      ((s.modCvu u (fun c => { c with
          last := fld data 0 (cvuAliveBits s u)
          skipped := (((fld data 0 (cvuAliveBits s u) : Int) - (vget s.cvu u).last - 1) %
            ((2 ^ cvuAliveBits s u : Nat) : Int)).toNat
          stale := false })).setC (cvuReg Reg.CVU_ERR u) 4).cvuRaise u 0x1082 (vget s.cvu u).last
        (fld data 0 (cvuAliveBits s u)) := by
  simp [State.cvuAlive, h, hf, hv, hnext]

/-- A write of `CVU_CTL` that sets AEN anew makes the next value a first one, and no write takes that back. -/
theorem first_cvuSetCtl :
    (vget (s.cvuSetCtl u data).cvu u).first =
      ((vget s.cvu u).first || (data.getLsbD 7 && cvuCtl s u 7 1 == 0)) := by
  rw [← fld_cvuCtlStored_aen]
  unfold State.cvuSetCtl State.onlyIf State.cvuRestart State.modCvu
  dsimp only
  split <;> simp only [vget_vmod_self, setReg_cvu]

end

/-- Settles O7: each of the five answers of the alive check by its lemma, and the two ways a first value is awaited. -/
theorem aliveCounter : Obligations.AliveCounter := by
  intro u s data
  refine ⟨fun h => ?_, fun h hf => ?_, fun h hf hv => ?_, fun h hf hv => ?_, fun h hf hv hnext => ?_, ?_,
    fun h hd => ?_⟩
  · exact congrArg Host.Outcome.next (cvuAlive_of_disabled h)
  · refine ⟨_, congrArg Host.Outcome.next (cvuAlive_of_first h hf), rfl, ?_⟩
    simp [cvu_modCvu]
  · refine ⟨_, congrArg Host.Outcome.next (cvuAlive_of_next h hf hv), rfl, ?_⟩
    simp [cvu_modCvu]
  · exact ⟨_, congrArg Host.Outcome.next (cvuAlive_of_repeat h hf hv), rfl,
      flagged_raiseEv_setC _ _ _ _ _ _ (by decide) (by decide), _, rfl, rfl, rfl⟩
  · have range : ((2 ^ cvuAliveBits s u : Nat) : Int) ≠ 0 := by positivity
    refine ⟨_, congrArg Host.Outcome.next (cvuAlive_of_skip h hf hv hnext), rfl, ?_, ?_,
      flagged_raiseEv_setC _ _ _ _ _ _ (by decide) (by decide), _, rfl, rfl, rfl⟩
    · simp [State.cvuRaise, cvu_modCvu]
    · simp only [State.cvuRaise, raiseEv_cvu, setC_cvu, cvu_modCvu, if_true]
      exact Int.toNat_of_nonneg (Int.emod_nonneg _ range)
  · exact ⟨_, rfl, rfl, by simp [State.cvuAliveReset, cvu_modCvu]⟩
  · exact ⟨_, rfl, by simp [first_cvuSetCtl, h, hd]⟩

/-! ## The comparison (R474) -/

/-- `CVU_STAT.CMP` of a unit as it reads. -/
def cvuCmp (s : State) (u : Nat) : Option Nat := (viewCvu s (cvuReg Reg.CVU_STAT u)).map (fun w => fld w 30 2)

/-- The `CVU_MISMATCH` of a unit that compares its RESULT with `x`. -/
def cvuMismatch (s : State) (u x : Nat) : Event := ⟨0x1081, cvuCtl s u 8 3, u, cvuResult s u, x, 0, none⟩

/-- BYTES of a unit fits its field, bits 27:0 of `CVU_STAT`, where every write of data leaves it (R470). -/
def CvuBytesFit (s : State) (u : Nat) : Prop := (vget s.cvu u).bytes < 2 ^ 28

/-- EXPECT stored: its low W bits (R469). -/
def State.cvuStoreExpect (s : State) (u : Nat) (data : Word) : State :=
  s.setRfld (cvuReg Reg.CVU_EXPECT u) 0 (cvuWidth s u) data.toNat

section
variable (s : State) (u : Nat) (data : Word)

theorem cvuExpect_eq : s.cvuExpect u data = (s.cvuStoreExpect u data).cvuCompare u := by
  simp [State.cvuExpect, State.cvuStoreExpect, State.setRfld, cvuStoredLow, fld, natBits]

/-- What `CVU_STAT` reads: the compare state of an enabled unit, above BYTES. -/
theorem viewCvu_stat : viewCvu s (cvuReg Reg.CVU_STAT u) =
    some (mkWord [(30, if cvuEn s u then (vget s.cvu u).cmp else 0), (0, (vget s.cvu u).bytes)]) := by
  have unit : (cvuReg Reg.CVU_STAT u - Reg.CVU_CTL) / 0x40 = u := by
    simp only [cvuReg, inst, Reg.CVU_STAT, Reg.CVU_CTL]
    omega
  have off : (cvuReg Reg.CVU_STAT u - Reg.CVU_CTL) % 0x40 = 0x28 := by
    simp only [cvuReg, inst, Reg.CVU_STAT, Reg.CVU_CTL]
    omega
  simp [viewCvu, unit, off]

/-- CMP of an enabled unit reads its compare state, where BYTES keeps out of it. -/
theorem cvuCmp_of_enabled (h : cvuEn s u = true) (hfit : CvuBytesFit s u) (hcmp : (vget s.cvu u).cmp < 4) :
    cvuCmp s u = some (vget s.cvu u).cmp := by
  rw [cvuCmp, viewCvu_stat, if_pos h]
  exact congrArg some (fld_mkWord_pair 30 2 _ _ (by decide) hcmp (hfit.trans (by decide)))

/-- CMP of a disabled unit then reads 0. -/
theorem cvuCmp_of_disabled (h : cvuEn s u = false) (hfit : CvuBytesFit s u) : cvuCmp s u = some 0 := by
  rw [cvuCmp, viewCvu_stat, h]
  exact congrArg some (fld_mkWord_pair 30 2 0 _ (by decide) (by decide) (hfit.trans (by decide)))

/-! What storing EXPECT leaves alone. -/

@[simp] theorem cvuStoreExpect_cvu : (s.cvuStoreExpect u data).cvu = s.cvu := rfl
@[simp] theorem cvuStoreExpect_evt : (s.cvuStoreExpect u data).evt = s.evt := rfl
@[simp] theorem cvuStoreExpect_cbits : (s.cvuStoreExpect u data).cbits = s.cbits := rfl

theorem reg_cvuStoreExpect_of_ne {a : Nat} (h : a ≠ cvuReg Reg.CVU_EXPECT u) :
    (s.cvuStoreExpect u data).reg a = s.reg a :=
  reg_setRfld_of_ne s _ a _ _ _ h

@[simp] theorem reg_cvuStoreExpect_ctl :
    (s.cvuStoreExpect u data).reg (cvuReg Reg.CVU_CTL u) = s.reg (cvuReg Reg.CVU_CTL u) :=
  reg_cvuStoreExpect_of_ne s u data (mt (cvuReg_inj u _ _).1 (by decide))

@[simp] theorem reg_cvuStoreExpect_xorout :
    (s.cvuStoreExpect u data).reg (cvuReg Reg.CVU_XOROUT u) = s.reg (cvuReg Reg.CVU_XOROUT u) :=
  reg_cvuStoreExpect_of_ne s u data (mt (cvuReg_inj u _ _).1 (by decide))

@[simp] theorem cvuCtl_cvuStoreExpect (lo n : Nat) : cvuCtl (s.cvuStoreExpect u data) u lo n = cvuCtl s u lo n := by
  simp [cvuCtl, State.rfld]

@[simp] theorem cvuEn_cvuStoreExpect : cvuEn (s.cvuStoreExpect u data) u = cvuEn s u := by simp [cvuEn]

@[simp] theorem cvuWidth_cvuStoreExpect : cvuWidth (s.cvuStoreExpect u data) u = cvuWidth s u := by simp [cvuWidth]

@[simp] theorem cvuResult_cvuStoreExpect : cvuResult (s.cvuStoreExpect u data) u = cvuResult s u := by
  simp [cvuResult, cvuRun, cvuLow]

@[simp] theorem cvuMismatch_cvuStoreExpect (x : Nat) :
    cvuMismatch (s.cvuStoreExpect u data) u x = cvuMismatch s u x := by
  simp [cvuMismatch]

/-- EXPECT then reads the low W bits of the value written. -/
@[simp] theorem cvuLow_cvuStoreExpect :
    cvuLow (s.cvuStoreExpect u data) Reg.CVU_EXPECT u = fld data 0 (cvuWidth s u) := by
  rw [cvuLow, cvuWidth_cvuStoreExpect]
  exact rfld_setRfld_self s _ 0 _ _ (by simpa using cvuWidth_le s u)

/-! The comparison, by its outcome. -/

theorem cvuCompare_of_disabled (h : cvuEn s u = false) : s.cvuCompare u = s := by simp [State.cvuCompare, h]

theorem cvuCompare_of_match (h : cvuEn s u = true) (hr : cvuResult s u = cvuLow s Reg.CVU_EXPECT u) :
    s.cvuCompare u = s.modCvu u (fun c => { c with cmp := 1 }) := by
  simp [State.cvuCompare, h, hr]

theorem cvuCompare_of_mismatch (h : cvuEn s u = true) (hr : cvuResult s u ≠ cvuLow s Reg.CVU_EXPECT u) :
    s.cvuCompare u = ((s.modCvu u (fun c => { c with cmp := 2 })).setC (cvuReg Reg.CVU_ERR u) 1).raiseEv .core
      (cvuMismatch s u (cvuLow s Reg.CVU_EXPECT u)) := by
  simp only [State.cvuCompare, h, hr, Bool.not_true, Bool.false_eq_true, if_false]
  rfl

/-- It touches the units, the flags and the events, of the units its own. -/
theorem cvuCompare_frame : s.cvuCompare u =
    { s with cvu := (s.cvuCompare u).cvu, cbits := (s.cvuCompare u).cbits, evt := (s.cvuCompare u).evt } := by
  unfold State.cvuCompare
  dsimp only
  split
  · rfl
  · split <;> rfl

theorem cvuCompare_other {u v : Fin 8} (h : v ≠ u) : vget (s.cvuCompare u).cvu v = vget s.cvu v := by
  unfold State.cvuCompare
  dsimp only
  split
  · rfl
  · split <;> simp [State.cvuRaise, cvu_modCvu, h]

@[simp] theorem reg_cvuCompare (a : Nat) : (s.cvuCompare u).reg a = s.reg a := by
  rw [cvuCompare_frame]
  rfl

@[simp] theorem cvuLow_cvuCompare (base : Nat) : cvuLow (s.cvuCompare u) base u = cvuLow s base u := by
  simp [cvuLow, cvuWidth]

/-- A compare state of 2 bits given to an enabled unit reads in CMP. -/
theorem cvuCmp_modCvu (h : cvuEn s u = true) (hfit : CvuBytesFit s u) {x : Nat} (hx : x < 4) :
    cvuCmp (s.modCvu u (fun c => { c with cmp := x })) u = some x := by
  have unit := vget_vmod_self s.cvu u (fun c => { c with cmp := x })
  have hcmp := cvuCmp_of_enabled (s.modCvu u (fun c => { c with cmp := x })) u h
    (by rw [CvuBytesFit, State.modCvu, unit]; exact hfit) (by rw [State.modCvu, unit]; exact hx)
  rw [hcmp, State.modCvu, unit]

/-- The outcome of a comparison reads in CMP. -/
theorem cvuCmp_cvuCompare (h : cvuEn s u = true) (hfit : CvuBytesFit s u) :
    cvuCmp (s.cvuCompare u) u = some (if cvuResult s u = cvuLow s Reg.CVU_EXPECT u then 1 else 2) := by
  by_cases hr : cvuResult s u = cvuLow s Reg.CVU_EXPECT u
  · rw [if_pos hr, cvuCompare_of_match s u h hr, cvuCmp_modCvu s u h hfit (by decide)]
  · rw [if_neg hr, cvuCompare_of_mismatch s u h hr]
    exact cvuCmp_modCvu s u h hfit (by decide)

/-- What a mismatch leaves: its flag in every copy, and its event behind those that wait. -/
theorem mismatch_cvuCompare (h : cvuEn s u = true) (hr : cvuResult s u ≠ cvuLow s Reg.CVU_EXPECT u) :
    (s.cvuCompare u).flagged (cvuReg Reg.CVU_ERR u) 0 ∧
      (s.cvuCompare u).evt = { s.evt with
        waiting := s.evt.waiting ++ [(.core, cvuMismatch s u (cvuLow s Reg.CVU_EXPECT u))] } := by
  rw [cvuCompare_of_mismatch s u h hr]
  exact ⟨flagged_raiseEv_setC _ _ _ _ _ _ (by decide) (by decide), rfl⟩

/-- A match leaves the flags and the events alone. -/
theorem match_cvuCompare (h : cvuEn s u = true) (hr : cvuResult s u = cvuLow s Reg.CVU_EXPECT u) :
    s.cvuCompare u = { s with cvu := (s.cvuCompare u).cvu } := by
  rw [cvuCompare_of_match s u h hr]
  rfl

/-- Bytes fed to an enabled unit (R470). -/
theorem cvuFeed_of_enabled (h : cvuEn s u = true) (bytes : List Nat) :
    s.cvuFeed u bytes = s.modCvu u (fun c =>
      { c with run := bytes.foldl (fun r b => cvuByte s u r b) (cvuRun s u),
               bytes := satAdd 28 c.bytes bytes.length }) := by
  simp [State.cvuFeed, h]

@[simp] theorem cvuEn_cvuFeed (bytes : List Nat) : cvuEn (s.cvuFeed u bytes) u = cvuEn s u := by
  unfold State.cvuFeed
  split <;> rfl

@[simp] theorem cvuWidth_cvuFeed (bytes : List Nat) : cvuWidth (s.cvuFeed u bytes) u = cvuWidth s u := by
  unfold State.cvuFeed
  split <;> rfl

/-- Whatever BYTES was before, it fits its field after a write of data. -/
theorem cvuBytesFit_cvuFeed (h : cvuEn s u = true) (bytes : List Nat) : CvuBytesFit (s.cvuFeed u bytes) u := by
  rw [cvuFeed_of_enabled s u h, CvuBytesFit]
  simp only [State.modCvu, vget_vmod_self, satAdd]
  omega

end

/-! ## The statement of R474, at one unit and state -/

/-- `Obligations.ExpectAndCompare` at one unit and one state. -/
def ExpectAndCompareAt (u : Fin 8) (s : State) : Prop :=
  (∀ data, cvuEn s u = true → ∃ t, exec (.cvuExpectWrite u data) s = .next t ∧
    t = { s with regs := t.regs, cvu := t.cvu, cbits := t.cbits, evt := t.evt } ∧
    cvuLow t Reg.CVU_EXPECT u = fld data 0 (cvuWidth s u) ∧
    (∀ a, a ≠ cvuReg Reg.CVU_EXPECT u → t.reg a = s.reg a) ∧
    (∀ v : Fin 8, v ≠ u → vget t.cvu v = vget s.cvu v) ∧
    (cvuResult s u = fld data 0 (cvuWidth s u) → cvuCmp t u = some 1 ∧ t.cbits = s.cbits ∧ t.evt = s.evt) ∧
    (cvuResult s u ≠ fld data 0 (cvuWidth s u) → cvuCmp t u = some 2 ∧ t.flagged (cvuReg Reg.CVU_ERR u) 0 ∧
      t.evt = { s.evt with
        waiting := s.evt.waiting ++ [(.core, cvuMismatch s u (fld data 0 (cvuWidth s u)))] })) ∧
  (∀ data, cvuEn s u = false → ∃ t, exec (.cvuExpectWrite u data) s = .next t ∧ t = { s with regs := t.regs } ∧
    cvuLow t Reg.CVU_EXPECT u = fld data 0 (cvuWidth s u) ∧ cvuCmp t u = some 0 ∧
    (∀ a, a ≠ cvuReg Reg.CVU_EXPECT u → t.reg a = s.reg a)) ∧
  (∀ bytes data, cvuEn s u = true → ∃ m, exec (.cvuDataWrite u bytes) s = .next m ∧
    (vget m.cvu u).run = bytes.foldl (fun r b => cvuByte s u r b.toNat) (cvuRun s u) ∧
    ∃ t, exec (.cvuExpectWrite u data) m = .next t ∧
      (cvuCmp t u = some 1 ↔ cvuResult m u = fld data 0 (cvuWidth s u))) ∧
  (cvuEn s u = false → exec (.cvuCompare u) s = .next s) ∧
  (cvuEn s u = true → cvuResult s u = cvuLow s Reg.CVU_EXPECT u →
    ∃ t, exec (.cvuCompare u) s = .next t ∧ t = { s with cvu := t.cvu } ∧ cvuCmp t u = some 1 ∧
      (∀ v : Fin 8, v ≠ u → vget t.cvu v = vget s.cvu v)) ∧
  (cvuEn s u = true → cvuResult s u ≠ cvuLow s Reg.CVU_EXPECT u →
    ∃ t, exec (.cvuCompare u) s = .next t ∧ t = { s with cvu := t.cvu, cbits := t.cbits, evt := t.evt } ∧
      cvuCmp t u = some 2 ∧ t.flagged (cvuReg Reg.CVU_ERR u) 0 ∧
      (∀ v : Fin 8, v ≠ u → vget t.cvu v = vget s.cvu v) ∧
      t.evt = { s.evt with
        waiting := s.evt.waiting ++ [(.core, cvuMismatch s u (cvuLow s Reg.CVU_EXPECT u))] })

theorem expectAndCompare_iff : Obligations.ExpectAndCompare ↔ ∀ u s, ExpectAndCompareAt u s := Iff.rfl

section
variable (u : Fin 8) (s : State) (data : Word)

theorem exec_cvuExpectWrite :
    exec (.cvuExpectWrite u data) s = .next ((s.cvuStoreExpect u data).cvuCompare u) :=
  congrArg Host.Outcome.next (cvuExpect_eq s u data)

/-- A write of EXPECT touches the registers, the units, the flags and the events. -/
theorem cvuCompare_cvuStoreExpect_frame :
    (s.cvuStoreExpect u data).cvuCompare u =
      { s with
        regs := ((s.cvuStoreExpect u data).cvuCompare u).regs
        cvu := ((s.cvuStoreExpect u data).cvuCompare u).cvu
        cbits := ((s.cvuStoreExpect u data).cvuCompare u).cbits
        evt := ((s.cvuStoreExpect u data).cvuCompare u).evt } := by
  rw [cvuCompare_frame]
  rfl

/-- R474 holds where BYTES fits its field. -/
theorem expectAndCompareAt_of_fit (hfit : CvuBytesFit s u) : ExpectAndCompareAt u s := by
  refine ⟨fun data h => ?_, fun data h => ?_, fun bytes data h => ?_, fun h => ?_, fun h hr => ?_, fun h hr => ?_⟩
  · have hm : cvuEn (s.cvuStoreExpect u data) u = true := (cvuEn_cvuStoreExpect s u data).trans h
    have hcmp := cvuCmp_cvuCompare _ _ hm hfit
    refine ⟨_, exec_cvuExpectWrite u s data, cvuCompare_cvuStoreExpect_frame u s data, by simp, fun a ha => ?_,
      fun v hv => cvuCompare_other _ hv, fun hr => ?_, fun hr => ?_⟩
    · rw [reg_cvuCompare, reg_cvuStoreExpect_of_ne s u data ha]
    · refine ⟨by simpa [hr] using hcmp, ?_⟩
      rw [match_cvuCompare _ _ hm (by simpa using hr)]
      exact ⟨rfl, rfl⟩
    · obtain ⟨hflag, hevt⟩ := mismatch_cvuCompare _ _ hm (by simpa using hr)
      exact ⟨by simpa [hr] using hcmp, hflag, by simpa using hevt⟩
  · have hm : cvuEn (s.cvuStoreExpect u data) u = false := (cvuEn_cvuStoreExpect s u data).trans h
    refine ⟨s.cvuStoreExpect u data, ?_, rfl, by simp, cvuCmp_of_disabled _ _ hm hfit,
      fun a ha => reg_cvuStoreExpect_of_ne s u data ha⟩
    rw [exec_cvuExpectWrite, cvuCompare_of_disabled _ _ hm]
  · have hm : cvuEn ((s.cvuFeed u (bytes.map (·.toNat))).cvuStoreExpect u data) u = true := by simpa using h
    refine ⟨s.cvuFeed u (bytes.map (·.toNat)), rfl, ?_, _, exec_cvuExpectWrite u _ data, ?_⟩
    · simp [cvuFeed_of_enabled s u h, List.foldl_map, cvu_modCvu]
    · rw [cvuCmp_cvuCompare _ _ hm (cvuBytesFit_cvuFeed s u h _)]
      simp
  · exact congrArg Host.Outcome.next (cvuCompare_of_disabled s u h)
  · refine ⟨_, rfl, match_cvuCompare s u h hr, ?_, fun v hv => cvuCompare_other s hv⟩
    rw [cvuCmp_cvuCompare s u h hfit, if_pos hr]
  · obtain ⟨hflag, hevt⟩ := mismatch_cvuCompare s u h hr
    refine ⟨_, rfl, cvuCompare_frame s u, ?_, hflag, fun v hv => cvuCompare_other s hv, hevt⟩
    rw [cvuCmp_cvuCompare s u h hfit, if_neg hr]

end

/-- A BYTES of `2 ^ 30` shows in CMP of a disabled unit. -/
theorem cvuCmp_of_overfull (s : State) (u : Nat) (h : cvuEn s u = false) (hb : (vget s.cvu u).bytes = 2 ^ 30) :
    cvuCmp s u = some 1 := by
  rw [cvuCmp, viewCvu_stat, h, hb, if_neg Bool.false_ne_true]
  decide

/-- Refutes O6: the model holds BYTES as a number without bound and lays it under CMP in `CVU_STAT`, so that in a state
whose BYTES is `2 ^ 30` the CMP of a disabled unit reads 1 after a write of EXPECT, where R474 has it read 0. A write
of data never leaves such a BYTES (`cvuBytesFit_cvuFeed`), and where BYTES fits its 28 bits every clause holds
(`expectAndCompareAt_of_fit`). -/
theorem not_expectAndCompare : ¬ Obligations.ExpectAndCompare := by
  intro h
  let s : State := { cvu := Vector.replicate 8 { bytes := 2 ^ 30 } }
  have hen : cvuEn s (0 : Fin 8) = false := by decide
  obtain ⟨-, disabled, -⟩ := expectAndCompare_iff.1 h 0 s
  obtain ⟨t, hexec, -, -, hzero, -⟩ := disabled 0 hen
  have ht : s.cvuStoreExpect (0 : Fin 8) 0 = t := by
    rw [exec_cvuExpectWrite, cvuCompare_of_disabled _ _ ((cvuEn_cvuStoreExpect s _ 0).trans hen)] at hexec
    exact Host.Outcome.next.inj hexec
  have hone := cvuCmp_of_overfull t (0 : Fin 8) (by rw [← ht]; exact (cvuEn_cvuStoreExpect s _ 0).trans hen)
    (by rw [← ht]; rfl)
  rw [hzero] at hone
  exact absurd hone (by decide)

end Sys2Proof.Machine
end
